-- ==== Sys2Proof/Word.lean ====
section
/-! DEFINITION. The widths of the PB-416's words and the largest event number. -/

namespace Sys2Proof

/-- A byte of a frame or of the configuration image. -/
abbrev Byte := BitVec 8

/-- A 32-bit word of the local port or of the inspection window (00_scope.md, R203, R204, R208). -/
abbrev Word := BitVec 32

/-- A value of the 48-bit time counter, which wraps (R190). -/
abbrev Time := BitVec 48

/-- A trunk address, 0 to 15 (R169). -/
abbrev Addr := Fin 16

/-- The highest event number: numbers are compared as plain integers and never wrap
(00_scope.md, "Event numbers"). -/
def maxEvent : Nat := 4294967295

end Sys2Proof
end

