-- ==== Sys2Proof/Frames.lean ====
section
/-! DEFINITION. The fields of the trunk's four frame kinds, as the operands of commands and as what the
transmit queue holds (07_frames_and_contention.md, R128 to R132; widths from R200 to R202). -/

namespace Sys2Proof

/-- The role fixed by the ROLE strap (00_scope.md, R169). -/
inductive Role where
  | acquirer
  | collector
deriving DecidableEq, Repr

/-- The reason a SKIP carries (R60, R130). -/
inductive SkipReason where
  | noStart
  | stalled
deriving DecidableEq, Repr

/-- The three modes of a ROLL frame (R74). Mode code 3 is malformed (R146) and has no name here. -/
inductive RollMode where
  | call
  | join
  | echo
deriving DecidableEq, Repr

/-- The five flags of a record, of a FRAG part and of a contribution (R9, R92, R131). -/
structure RecordFlags where
  ovr   : Bool
  dbl   : Bool
  tsus  : Bool
  renum : Bool
  trunc : Bool
deriving DecidableEq, Repr

/-- One sample: channel, value and overrange flag (section 1.1, R6, R131). -/
structure Sample where
  channel : BitVec 6
  value   : BitVec 14
  overrange : Bool
deriving DecidableEq, Repr

/-- R129: a TAKE frame carries a number and the edge time of its acceptance. -/
structure TakeFrame where
  number : BitVec 32
  sender : Addr
  time   : Time
deriving DecidableEq, Repr

/-- R130: a SKIP frame names the subject whose turn for the event it ends. The parts-heard field has three bits. -/
structure SkipFrame where
  number  : BitVec 32
  sender  : Addr
  subject : Addr
  reason  : SkipReason
  heard   : BitVec 3
deriving DecidableEq, Repr

/-- R131: a FRAG frame carries one part. The part-index field has three bits; the sample count is the
length of the sample list. -/
structure FragFrame where
  number  : BitVec 32
  sender  : Addr
  index   : BitVec 3
  last    : Bool
  lost    : Bool
  flags   : RecordFlags
  samples : List Sample
deriving DecidableEq, Repr

/-- R132: a ROLL frame announces a station. `field` is the event field: J, or 0. -/
structure RollFrame where
  field     : BitVec 32
  sender    : Addr
  mode      : RollMode
  role      : Role
  count     : BitVec 7
  signature : BitVec 16
deriving DecidableEq, Repr

/-- The four kinds (R128). Codes 4 to 7 are unknown and appear only as bytes on DAT. -/
inductive Frame where
  | take (f : TakeFrame)
  | skip (f : SkipFrame)
  | frag (f : FragFrame)
  | roll (f : RollFrame)
deriving DecidableEq, Repr

end Sys2Proof
end

