-- ==== Sys2Proof/Syntax.lean ====
section
/-! DEFINITION. The commands: one constructor for each row of spec/opcode_table.json, in the table's order.
A command is one event taken whole (95_what_each_step_holds.md). -/

namespace Sys2Proof

/-- The commands of the PB-416. Operands are what the event brings from outside the station. -/
inductive Instr where
  /-- RST is asserted (R169). -/
  | rstAssert
  /-- RST is released; the straps stand at these levels (R169). -/
  | rstRelease (straps : Addr) (roleStrap : Role)
  /-- The last byte of a read arrived (R170, R171); `trg` is the level of TRG then read (R160). -/
  | imageReadComplete (bytes : List Byte) (trg : Bool)
  /-- LSTB rises with this word on LP0 to LP31 (R1, R203). -/
  | sampleArrival (lp : Word)
  /-- The capture window timer runs out (R12). -/
  | captureWindowExpiry
  /-- TRG is read changing to asserted; `othersHold` says whether another station pulls HLD (R24, R158). -/
  | triggerEdge (othersHold : Bool)
  /-- LTRG rises (R26). -/
  | localTriggerRequest (othersHold : Bool)
  /-- The 1 µs pulse timer runs out (R27). -/
  | normalPulseExpiry
  /-- The RESTART TRUNK command is taken (R165). -/
  | restartTrunk
  /-- The 200 µs pulse timer runs out (R166). -/
  | restartPulseExpiry
  /-- The 100 µs restart detector timer runs out (R162). -/
  | trunkRestartDetection
  /-- TRG is read changing to released (R162, R164). -/
  | trgRelease
  /-- The listen timer runs out (R178). -/
  | listenTimerExpiry
  /-- The roll timer runs out (R182). -/
  | rollTimerExpiry (othersHold : Bool)
  /-- HLD is read changing to released (R182). -/
  | hldFall
  /-- The turn timer runs out (R60). -/
  | turnTimerExpiry
  /-- The close timer of the build for this event runs out (R107). -/
  | closeTimerExpiry (number : BitVec 32)
  /-- DAT has been recessive for the idle gap (R133). -/
  | datIdle
  /-- The first marker after an idle DAT (R137). -/
  | contentionStart
  /-- The station reads dominant where it drove recessive in the arbitration field (R138). -/
  | lostContention
  /-- A bit error on the frame this station drives (R141). -/
  | frameAbandoned
  /-- A frame of these bytes ends on DAT and fails the reception checks (R145). -/
  | badFrame (bytes : List Byte)
  /-- A well-formed TAKE ends on DAT (R32). -/
  | takeReception (f : TakeFrame)
  /-- A well-formed FRAG part ends on DAT (R55). -/
  | fragReception (f : FragFrame)
  /-- A well-formed SKIP ends on DAT (R63). -/
  | skipReception (f : SkipFrame)
  /-- A well-formed ROLL ends on DAT (R75). -/
  | rollReception (f : RollFrame)
  /-- LACK rises (R117). -/
  | takingEvent
  /-- The CLEAR COUNTERS command is taken (R210). -/
  | clearCounters
  /-- The ACK FAULT command is taken (R212). -/
  | ackFault
  /-- A write transaction to this word address in which this many bits were sampled ends (R206). -/
  | inspectionWriteOther (address : BitVec 7) (bits : Nat)
  /-- The STORE word is read (R207). -/
  | storeRead
  /-- The TAKES word is read (R207). -/
  | takesRead
  /-- The BUILDS word is read (R207). -/
  | buildsRead
  /-- The FAULTS word is read (R213). -/
  | faultsRead
  /-- The TIME_LO word is read (R198). -/
  | timeLoRead
  /-- The roster word of this address is read (R207). -/
  | rosterRead (entry : Addr)
  /-- One tick of CLK (R190). -/
  | tick
deriving DecidableEq, Repr

end Sys2Proof
end

