-- ==== Sys2Proof/Decode.lean ====
section
/-! DEFINITION. The words of the opcode table. A block has no decoder: no row of spec/opcode_table.json gives bits
(each row's "fields" is empty), so no word spells a command. The frames, the image and the words of the local and
inspection ports have layouts of their own (Chapter 11), which Machine/FrameFormat.lean, Machine/StartUp.lean,
Machine/Delivery.lean and Machine/Window.lean hold. -/

namespace Sys2Proof

/-- The command that a word spells by the table's bits: none, since no row gives bits. -/
def decodeTableWord (_nbits _w : Nat) : Option Instr := none

end Sys2Proof
end

