-- ==== Sys2Proof/Machine/FrameFormat.lean ====
section
/-! DEFINITION. The bit layouts of Chapter 11: bits and bytes, the 16-bit cyclic check, the frames on DAT with the
reception checks of R145, the capture sample word and 32-bit words packed from fields. -/

namespace Sys2Proof.Machine

/-! ## Bits and bytes -/

/-- The w low bits of v, most significant first (section 11.1: each field's most significant bit first). -/
def bitsOf (w v : Nat) : List Bool := (List.range w).map fun i => v.testBit (w - 1 - i)

/-- The number that a list of bits spells, most significant first. -/
def natOfBits (l : List Bool) : Nat := l.foldl (fun n b => 2 * n + b.toNat) 0

/-- Bits packed into bytes, the first bit into bit 7; fill bits of 0 make up the last byte. -/
def packBytes : List Bool → List Byte
  | [] => []
  | a :: b :: c :: d :: e :: f :: g :: h :: l =>
    BitVec.ofNat 8 (natOfBits [a, b, c, d, e, f, g, h]) :: packBytes l
  | l => [BitVec.ofNat 8 (natOfBits (l ++ List.replicate (8 - l.length) false))]

/-- The bits of a run of bytes in the order they are sent (R159). -/
def bitsOfBytes (l : List Byte) : List Bool := l.flatMap fun b => bitsOf 8 b.toNat

/-- The field of width w at a bit offset from the first bit of the frame. -/
def fieldAt (bits : List Bool) (offset w : Nat) : Nat := natOfBits ((bits.drop offset).take w)

/-- R133, R159: on the line each byte position is a dominant marker (0) and then the byte's eight bits. -/
def lineBits (l : List Byte) : List Bool := l.flatMap fun b => false :: bitsOf 8 b.toNat

/-! ## The cyclic check (R200) -/

/-- One bit through the register of x^16 + x^12 + x^5 + 1. -/
def crcBit (r : BitVec 16) (b : Bool) : BitVec 16 :=
  if r.msb != b then (r <<< 1) ^^^ 0x1021#16 else r <<< 1

/-- R200: the register starts at all ones, takes every bit in the order sent, and is not inverted. -/
def crc16 (l : List Byte) : BitVec 16 := (bitsOfBytes l).foldl crcBit 0xFFFF#16

/-- The check as two bytes, most significant first. -/
def crcBytes (l : List Byte) : List Byte :=
  [(crc16 l).extractLsb' 8 8, (crc16 l).extractLsb' 0 8]

/-! ## Frames as bytes (R200 to R202) -/

/-- R128: the code of a frame's kind. -/
def frameKind : Frame → Nat
  | .take _ => 0
  | .skip _ => 1
  | .frag _ => 2
  | .roll _ => 3

/-- R128: the event field. -/
def frameField : Frame → BitVec 32
  | .take f => f.number
  | .skip f => f.number
  | .frag f => f.number
  | .roll f => f.field

/-- R128: the sender's address. -/
def frameSender : Frame → Addr
  | .take f => f.sender
  | .skip f => f.sender
  | .frag f => f.sender
  | .roll f => f.sender

/-- R201: the reason's code. -/
def reasonCode : SkipReason → Nat
  | .noStart => 0
  | .stalled => 1

/-- R201: the mode's code. -/
def modeCode : RollMode → Nat
  | .call => 0
  | .join => 1
  | .echo => 2

/-- R201, R208: the role's code. -/
def roleCode : Role → Nat
  | .acquirer => 0
  | .collector => 1

/-- R202: one sample, 21 bits. -/
def sampleBits (x : Sample) : List Bool :=
  bitsOf 6 x.channel.toNat ++ bitsOf 14 x.value.toNat ++ [x.overrange]

/-- R201, R202: the payload's fields, before fill. -/
def payloadBits : Frame → List Bool
  | .take f => bitsOf 48 f.time.toNat
  | .skip f => bitsOf 4 f.subject.val ++ bitsOf 1 (reasonCode f.reason) ++ bitsOf 3 f.heard.toNat
  | .frag f =>
    bitsOf 3 f.index.toNat ++
      [f.last, f.lost, f.flags.ovr, f.flags.dbl, f.flags.tsus, f.flags.renum, f.flags.trunc] ++
      bitsOf 5 f.samples.length ++ f.samples.flatMap sampleBits
  | .roll f =>
    bitsOf 2 (modeCode f.mode) ++ bitsOf 1 (roleCode f.role) ++ bitsOf 7 f.count.toNat ++
      bitsOf 16 f.signature.toNat

/-- R200: the arbitration field, 39 bits: kind, event field, sender's address. -/
def arbitrationBits (f : Frame) : List Bool :=
  bitsOf 3 (frameKind f) ++ bitsOf 32 (frameField f).toNat ++ bitsOf 4 (frameSender f).val

/-- R139, R200: the arbitration field as one number; the lowest wins a contention. -/
def arbitration (f : Frame) : Nat :=
  frameKind f * 2 ^ 36 + (frameField f).toNat * 2 ^ 4 + (frameSender f).val

/-- R200: a frame's bytes before the CRC. -/
def frameBody (f : Frame) : List Byte := packBytes (arbitrationBits f ++ payloadBits f)

/-- R200: a whole frame as bytes. -/
def frameBytes (f : Frame) : List Byte := frameBody f ++ crcBytes (frameBody f)

/-! ## The reception checks (R145, R146) -/

/-- R146: the field values of a frame are all valid. -/
def frameValid : Frame → Bool
  | .take f => f.number ≠ 0
  | .skip f => f.number ≠ 0 && f.subject ≠ f.sender && f.heard.toNat ≤ 4
  | .frag f =>
    f.number ≠ 0 && f.samples.length ≤ 16 && f.index.toNat ≤ 3 && !(f.index.toNat = 3 && !f.last)
      && !(f.lost && (!f.last || f.index.toNat ≠ 0 || f.samples.length ≠ 0))
  | .roll f => f.count.toNat ≤ 64

/-- R201, R202: the bytes a known kind requires, with the sample count a FRAG part carries. -/
def requiredBytes (bits : List Bool) : Nat → Nat
  | 0 => 13
  | 1 => 8
  | 2 => (54 + 21 * fieldAt bits 49 5 + 7) / 8 + 2
  | _ => 11

/-- The address in a 4-bit field. -/
def addrAt (bits : List Bool) (offset : Nat) : Addr := Fin.ofNat 16 (fieldAt bits offset 4)

/-- A one-bit field. -/
def flagAt (bits : List Bool) (offset : Nat) : Bool := fieldAt bits offset 1 = 1

/-- R202: sample k of a FRAG part. -/
def sampleAt (bits : List Bool) (k : Nat) : Sample :=
  { channel := BitVec.ofNat 6 (fieldAt bits (54 + 21 * k) 6)
    value := BitVec.ofNat 14 (fieldAt bits (60 + 21 * k) 14)
    overrange := flagAt bits (74 + 21 * k) }

/-- R201: the mode of a ROLL frame; code 3 is malformed. -/
def modeAt (bits : List Bool) : Option RollMode :=
  match fieldAt bits 39 2 with
  | 0 => some .call
  | 1 => some .join
  | 2 => some .echo
  | _ => none

/-- R200 to R202: the fields of a frame of a known kind; `none` for the mode code that names no mode. -/
def readFrame (bits : List Bool) (kind : Nat) : Option Frame :=
  let field := BitVec.ofNat 32 (fieldAt bits 3 32)
  let sender := addrAt bits 35
  match kind with
  | 0 => some (.take { number := field, sender := sender, time := BitVec.ofNat 48 (fieldAt bits 39 48) })
  | 1 => some (.skip
      { number := field, sender := sender, subject := addrAt bits 39
        reason := if flagAt bits 43 then .stalled else .noStart
        heard := BitVec.ofNat 3 (fieldAt bits 44 3) })
  | 2 => some (.frag
      { number := field, sender := sender, index := BitVec.ofNat 3 (fieldAt bits 39 3)
        last := flagAt bits 42, lost := flagAt bits 43
        flags := { ovr := flagAt bits 44, dbl := flagAt bits 45, tsus := flagAt bits 46,
                   renum := flagAt bits 47, trunc := flagAt bits 48 }
        samples := (List.range (fieldAt bits 49 5)).map (sampleAt bits) })
  | _ => (modeAt bits).map fun mode => .roll
      { field := field, sender := sender, mode := mode
        role := if flagAt bits 41 then .collector else .acquirer
        count := BitVec.ofNat 7 (fieldAt bits 42 7)
        signature := BitVec.ofNat 16 (fieldAt bits 49 16) }

/-- What the checks of R145 find at a frame's end. -/
inductive FrameCheck where
  /-- Steps 1 to 3. -/
  | bad
  /-- Steps 4 to 6. -/
  | malformed
  /-- Step 7. -/
  | good (f : Frame)
deriving DecidableEq, Repr

/-- R145: the checks, in the order given; the first that fails decides. -/
def checkFrame (bytes : List Byte) : FrameCheck :=
  let bits := bitsOfBytes bytes
  let kind := fieldAt bits 0 3
  let body := bytes.take (bytes.length - 2)
  if bytes.length < 7 then .bad
  else if kind < 4 ∧ bytes.length < requiredBytes bits kind then .bad
  else if bytes.drop (bytes.length - 2) ≠ crcBytes body then .bad
  else if 4 ≤ kind then .malformed
  else if requiredBytes bits kind < bytes.length then .malformed
  else
    match readFrame bits kind with
    | none => .malformed
    | some f => if frameValid f then .good f else .malformed

/-! ## Words of 32 bits -/

/-- A 32-bit word from its fields, each given as (lowest bit, width, value); bits not listed are 0. -/
def packWord (fields : List (Nat × Nat × Nat)) : Word :=
  fields.foldl (fun w f => w ||| (BitVec.ofNat 32 (f.2.2 % 2 ^ f.2.1) <<< f.1)) 0

/-- R203: the sample on LP0 to LP31. The other pins are not read. -/
def sampleOfPins (lp : Word) : Sample :=
  { channel := lp.extractLsb' 16 6, value := lp.extractLsb' 0 14, overrange := lp.getLsbD 14 }

end Sys2Proof.Machine
end

