-- ==== Sys2Proof/Config.lean ====
section
/-! DEFINITION. What is fixed for every PB-416: capacities, timer lengths in ticks, and the one free value. -/

namespace Sys2Proof.Config

/-- R8: record descriptors of the fragment store. -/
def recordCapacity : Nat := 32
/-- R8: sample entries of the fragment store. -/
def storeEntries : Nat := 1024
/-- R31: entries of the take list. -/
def takeListCapacity : Nat := 64
/-- R33: TAKE_LIST_FULL falls when fewer entries than this are left. -/
def takeListLow : Nat := 48
/-- R29: entries of the pending TAKE queue. -/
def pendingCapacity : Nat := 4
/-- R91: builds of the build table. -/
def buildCapacity : Nat := 8
/-- R91: sample entries of build memory. -/
def buildEntries : Nat := 4096
/-- R17: the descriptors-low reason stands below this many free descriptors. -/
def descriptorsLow : Nat := 3
/-- R17: the entries-low reason stands below this many free entries. -/
def entriesLow : Nat := 64
/-- R110: the builds-high reason stands from this many builds on. -/
def buildsHigh : Nat := 6
/-- R110: the memory-low reason stands below this many free entries. -/
def memoryLow : Nat := 1024
/-- R140, R142: consecutive failures at which the station gives up sending. -/
def failureLimit : Nat := 8
/-- R15, R131: samples of one part. -/
def partSamples : Nat := 16
/-- R170: bytes of the configuration image. -/
def imageBytes : Nat := 160

/-- Ticks of 20 ns in one microsecond (R190). Mark: DEDUCED (log 6): timers count the ticks of CLK. -/
def ticksPerMicro : Nat := 50
/-- R27: the normal pulse, 1 µs. -/
def normalPulseTicks : Nat := ticksPerMicro
/-- R162: the restart detector, 100 µs. -/
def detectorTicks : Nat := 100 * ticksPerMicro
/-- R165: the restart pulse, 200 µs. -/
def restartPulseTicks : Nat := 200 * ticksPerMicro
/-- Ticks of a length given in ms (R177, R180). -/
def msTicks (ms : Nat) : Nat := ms * 1000 * ticksPerMicro

/-- FREE VALUE (log 16). R99 gives no state to a contribution whose final part arrives when the parts received
exceed the part index + 1. `true` reads as DONE, `false` as PARTIAL. It has no body: nothing can be proved of it.
It is applied to `State.freeIndex`, so that each use is a fresh value. -/
opaque surplusPartIsDone : Nat → Bool

end Sys2Proof.Config
end

