-- ==== Sys2Proof/Machine/State.lean ====
section
/-! DEFINITION. The state of one station, block by block (00_scope.md, "Blocks and how they work together"), as plain
data, and the state in which RST holds it. -/

namespace Sys2Proof.Machine

/-! ## The names the spec uses -/

/-- 09_start_up_and_roll_call.md, section 9.3. -/
inductive StationState where
  | loading | halted | listening | rollcall | joining | running | silenced | mute
deriving DecidableEq, Repr

/-- R152. The prohibited code 11 is never held: it is taken as LISTEN (R153). -/
inductive Personality where
  | listen | sink | sinkTerm
deriving DecidableEq, Repr

/-- R165: the result of the last RESTART TRUNK command taken. -/
inductive RestartOutcome where
  | none | driven | refused
deriving DecidableEq, Repr

/-- R191. -/
inductive TimeState where
  | unset | set
deriving DecidableEq, Repr

/-- R9. -/
inductive RecordState where
  | capturing | ready | sending
deriving DecidableEq, Repr

/-- R72. -/
inductive EntryState where
  | absent | calling | present | silent | mismatched
deriving DecidableEq, Repr

/-- R91. -/
inductive BuildState where
  | opened | closed | delivering
deriving DecidableEq, Repr

/-- R91. -/
inductive CloseCause where
  | complete | timeout
deriving DecidableEq, Repr

/-- R92. -/
inductive ContributionState where
  | waiting | partly | done | lost | skipped | unheard | notExpected
deriving DecidableEq, Repr

/-- R170, R171: the image port reads at most twice after a release of RST. -/
inductive ImagePort where
  | idle | firstRead | secondRead
deriving DecidableEq, Repr

/-- What the receive path knows of DAT (R133, R141, R144). -/
inductive DatState where
  /-- DAT is not read: LOADING, HALTED, RST. -/
  | stopped
  /-- DAT is read and has not been idle since the last frame end, break or start of reading. -/
  | busy
  /-- DAT is idle. -/
  | idle
  /-- A frame that began after an idle DAT is under way. -/
  | inFrame
  /-- The rest of a frame that this station abandoned is under way. -/
  | abandoned
deriving DecidableEq, Repr

/-- R211: the eleven fault codes. -/
inductive FaultCode where
  | imageBad | imageAdjusted | lineProhibited | trunkDrive | addressClash | signatureMismatch
  | silenced | takeListFull | runExhausted | storeOverrun | buildOverflow
deriving DecidableEq, Repr

/-- R209: the eighteen counters. -/
inductive Counter where
  | straySamples | suppressed | doubles | refusedTriggers | heldEdges | missedEvents | missedEdges
  | numberSlips | staleTakes | lateDrops | skipsSent | lateFrags | badFrames | malformed | txRetries
  | buildOverflows | truncatedBuilds | timeSuspects
deriving DecidableEq, Repr

/-! ## The blocks -/

/-- The reset input and what the straps gave at its release (R169). -/
structure Pins where
  rst     : Bool
  address : Addr
  role    : Role
deriving DecidableEq, Repr

/-- Start-up control (Chapter 9). A timer is `none` when stopped, else the ticks remaining. -/
structure StartUp where
  station        : StationState
  muteAttr       : Bool
  imagePort      : ImagePort
  imageBuffer    : List Byte
  listenTimer    : Option Nat
  rollTimer      : Option Nat
  rollCallReason : Bool
  rollMet        : Bool
deriving DecidableEq, Repr

/-- What a good image leaves (R175): the trunk-wide parameters, CAPWIN and TURN in µs and TURN after R173,
the signature (R174) and the station-local fields. The threshold table lists channels 0 to 63. -/
structure Image where
  capwin        : Nat
  turn          : Nat
  lead          : Nat
  misslim       : Nat
  skewlim       : Nat
  rolltime      : Nat
  listen        : Nat
  signature     : BitVec 16
  trg           : Personality
  hld           : Personality
  dat           : Personality
  triggerEnable : Bool
  channelEnable : BitVec 64
  thresholds    : List (BitVec 14)
deriving DecidableEq, Repr

/-- Trigger unit with the edge detector and the restart detector (Chapters 2 and 8). -/
structure Trigger where
  level        : Bool
  normalPulse  : Option Nat
  restartPulse : Option Nat
  detector     : Option Nat
  restarting   : Bool
  outcome      : RestartOutcome
deriving DecidableEq, Repr

/-- Time base (Chapter 10). -/
structure TimeBase where
  counter : Time
  state   : TimeState
deriving DecidableEq, Repr

/-- R9: a record of the fragment store. `answered` is the TAKE status. -/
structure Record where
  number    : Nat
  state     : RecordState
  edgeTime  : Time
  answered  : Bool
  flags     : RecordFlags
  samples   : List Sample
  partsSent : Nat
deriving DecidableEq, Repr

/-- Capture unit and fragment store (Chapter 1). The window is open exactly while its timer runs. -/
structure Store where
  window  : Option Nat
  records : List Record
deriving DecidableEq, Repr

/-- R29. -/
structure PendingTake where
  number   : Nat
  edgeTime : Time
deriving DecidableEq, Repr

/-- R31: a take-list entry; `time` is `none` when NO_TIME is set. -/
structure TakeEntry where
  number : Nat
  time   : Option Time
deriving DecidableEq, Repr

/-- Agreement unit (Chapter 2). -/
structure Agreement where
  evn          : Nat
  pendingTakes : List PendingTake
  takeList     : List TakeEntry
  highTake     : Nat
  listFull     : Bool
  exhausted    : Bool
deriving DecidableEq, Repr

/-- R58: the turn timer. -/
inductive TurnTimer where
  | stopped
  | running (subject : Addr) (event : Nat) (remaining : Nat)
  | skipping (subject : Addr) (event : Nat)
deriving DecidableEq, Repr

/-- Turn unit (Chapter 3). `watched` is the skipped member with its next event, for which `heard` counts parts. -/
structure Turn where
  timer   : TurnTimer
  watched : Option (Addr × Nat)
  heard   : Nat
deriving DecidableEq, Repr

/-- R71: a roster entry. -/
structure RosterEntry where
  state  : EntryState
  role   : Option Role
  count  : BitVec 7
  misses : Nat
  mark   : Nat
deriving DecidableEq, Repr

/-- R71: sixteen entries, indexed by address. -/
abbrev Roster := Vector RosterEntry 16

/-- R136: what waits until a frame leaves the wire. -/
inductive Kept (φ : Type) where
  | nothing
  | withdrawal
  | offer (f : φ)
deriving DecidableEq, Repr

/-- R134 to R136: one place of the transmit queue. -/
structure Place (φ : Type) where
  frame  : φ
  onWire : Bool
  kept   : Kept φ
deriving DecidableEq, Repr

/-- R134: the transmit queue. -/
structure Queue where
  takes : List (Place TakeFrame)
  skip  : Option (Place SkipFrame)
  frag  : Option (Place FragFrame)
  roll  : Option (Place RollFrame)
deriving DecidableEq, Repr

/-- Frame unit (Chapter 7). -/
structure FrameUnit where
  queue    : Queue
  failures : Nat
  dat      : DatState
deriving DecidableEq, Repr

/-- R92: a contribution, with its samples of build memory in arrival order (R93). -/
structure Contribution where
  member  : Addr
  state   : ContributionState
  flags   : RecordFlags
  samples : List Sample
  parts   : Nat
  joined  : Bool
deriving DecidableEq, Repr

/-- R91: a build record. -/
structure Build where
  number        : Nat
  time          : Option Time
  state         : BuildState
  contributions : List Contribution
  truncated     : Bool
  cause         : Option CloseCause
  timer         : Option Nat
deriving DecidableEq, Repr

/-- Build unit (Chapter 5). -/
structure BuildUnit where
  builds        : List Build
  lastDelivered : Nat
deriving DecidableEq, Repr

/-- R115: the delivery port's states. -/
inductive PortState where
  | idle
  | record (cursor : Nat) (total : Nat)
  | abort (taken : Nat)
deriving DecidableEq, Repr

/-- Delivery port (Chapter 6). `lp` is the word on LP0 to LP31; `offers` counts the rises of WORD-VALID (log 29). -/
structure DeliveryPort where
  state  : PortState
  lp     : Word
  offers : Nat
deriving DecidableEq, Repr

/-- R211: what is kept in full of the first fault. -/
structure FirstFault where
  code    : FaultCode
  context : Nat
  time    : Time
  state   : TimeState
deriving DecidableEq, Repr

/-- R211: the fault record. Bit k − 1 of `flags` belongs to code k. -/
structure FaultRecord where
  first   : Option FirstFault
  further : Nat
  flags   : BitVec 11
deriving DecidableEq, Repr

/-- R207: the extension words. -/
structure Extensions where
  storeHead    : Word
  takesHead    : Word
  takesHigh    : Word
  takesEvn     : Word
  buildsHead   : Word
  buildsLast   : Word
  faultContext : Word
  faultTimeLo  : Word
  faultTimeHi  : Word
  timeHi       : Word
  rosterMark   : Word
deriving DecidableEq, Repr

/-- R206: what the inspection port has of a transaction. -/
inductive InspectionLine where
  /-- Under RST, and after its release until ISCS has been read high: no transaction is taken. `low`: ISCS is low. -/
  | held (low : Bool)
  /-- ISCS is high. -/
  | released
  /-- ISCS is low: a transaction, with the bits sampled on ISDI so far, the first first, and the number of falling edges
  of ISCK since the eighth of them, after each of which ISDO changes. -/
  | selected (bits : List Bool) (falls : Nat)
deriving DecidableEq, Repr

/-- Inspection port (Chapter 11). `taken` is the word the last read took, `line` the transaction (R206). -/
structure Inspection where
  counters : Vector (BitVec 16) 18
  faults   : FaultRecord
  ext      : Extensions
  taken    : Word
  line     : InspectionLine
deriving DecidableEq, Repr

/-- The whole station, with the queue of commands that wait (first in, first out) and the index free values are
drawn with. -/
structure State where
  pins      : Pins
  start     : StartUp
  config    : Image
  trig      : Trigger
  time      : TimeBase
  store     : Store
  agree     : Agreement
  turn      : Turn
  roster    : Roster
  frames    : FrameUnit
  build     : BuildUnit
  port      : DeliveryPort
  insp      : Inspection
  freeIndex : Nat
  pending   : List Instr
deriving DecidableEq, Repr

/-- Why a step stops with a fault. There is no constructor: the spec stops the part at no command (its own faults are
entries of the fault record, R211), so no meaning raises one. Safe: nothing is cut off. -/
inductive Fault where
deriving DecidableEq, Repr

/-- Why a command is refused. -/
inductive Refusal where
  /-- Raised only by an arm of `exec` that has no meaning yet. Safe. No arm raises it now. -/
  | notModelled (mnemonic : String)
deriving DecidableEq, Repr

/-! ## Reset values -/

/-- R73: an entry of which nothing is known. -/
def RosterEntry.blank : RosterEntry :=
  { state := .absent, role := none, count := 0, misses := 0, mark := 0 }

/-- R73: every entry ABSENT. -/
def Roster.blank : Roster := Vector.replicate 16 RosterEntry.blank

/-- R9: all five flags clear. -/
def noFlags : RecordFlags :=
  { ovr := false, dbl := false, tsus := false, renum := false, trunc := false }

/-- R149: no frame in any place. -/
def Queue.empty : Queue := { takes := [], skip := none, frag := none, roll := none }

/-- R22: no record, no window. -/
def Store.empty : Store := { window := none, records := [] }

/-- R43, R44: nothing numbered, nothing taken. -/
def Agreement.blank : Agreement :=
  { evn := 0, pendingTakes := [], takeList := [], highTake := 0, listFull := false, exhausted := false }

/-- R69: no timer, no parts heard. -/
def Turn.blank : Turn := { timer := .stopped, watched := none, heard := 0 }

/-- R112: no build, nothing delivered. -/
def BuildUnit.empty : BuildUnit := { builds := [], lastDelivered := 0 }

/-- R212: an empty fault record. -/
def FaultRecord.empty : FaultRecord := { first := none, further := 0, flags := 0 }

/-- R207: every extension word 0. -/
def Extensions.zero : Extensions :=
  { storeHead := 0, takesHead := 0, takesHigh := 0, takesEvn := 0, buildsHead := 0, buildsLast := 0,
    faultContext := 0, faultTimeLo := 0, faultTimeHi := 0, timeHi := 0, rosterMark := 0 }

/-- R209: all counters 0. -/
def Inspection.zeroCounters : Vector (BitVec 16) 18 := Vector.replicate 18 0

/-- R2, R152, R169: nothing loaded. The parameters and the signature are not loaded: 0 here (DESIGN CHOICE, log 2). -/
def Image.blank : Image :=
  { capwin := 0, turn := 0, lead := 0, misslim := 0, skewlim := 0, rolltime := 0, listen := 0, signature := 0,
    trg := .listen, hld := .listen, dat := .listen, triggerEnable := false, channelEnable := 0,
    thresholds := List.replicate 64 0 }

/-- The station while RST is asserted (R169): every block at the value its owner gives for RST. The straps are
sampled at the release, so address and role are not the spec's here (DESIGN CHOICE, log 1). -/
def State.reset : State :=
  { pins := { rst := true, address := 0, role := .acquirer }
    start := { station := .loading, muteAttr := false, imagePort := .idle, imageBuffer := [],
               listenTimer := none, rollTimer := none, rollCallReason := false, rollMet := false }
    config := Image.blank
    trig := { level := false, normalPulse := none, restartPulse := none, detector := none,
              restarting := false, outcome := .none }
    time := { counter := 0, state := .unset }
    store := Store.empty
    agree := Agreement.blank
    turn := Turn.blank
    roster := Roster.blank
    frames := { queue := Queue.empty, failures := 0, dat := .stopped }
    build := BuildUnit.empty
    port := { state := .idle, lp := 0, offers := 0 }
    insp := { counters := Inspection.zeroCounters, faults := FaultRecord.empty,
              ext := Extensions.zero, taken := 0, line := .held false }
    freeIndex := 0
    pending := [] }

end Sys2Proof.Machine
end

