-- ==== Sys2Proof/Machine/Ops.lean ====
section
/-! DEFINITION. The named operations over the blocks that the commands' meanings share: setting a block, counters and
faults, the roster and the turn order, the places of the transmit queue, the fragment store. -/

namespace Sys2Proof.Machine

/-! ## Setting one block -/

def State.setPins (x : Pins) (s : State) : State := { s with pins := x }
def State.setStart (x : StartUp) (s : State) : State := { s with start := x }
def State.setConfig (x : Image) (s : State) : State := { s with config := x }
def State.setTrig (x : Trigger) (s : State) : State := { s with trig := x }
def State.setTime (x : TimeBase) (s : State) : State := { s with time := x }
def State.setStore (x : Store) (s : State) : State := { s with store := x }
def State.setAgree (x : Agreement) (s : State) : State := { s with agree := x }
def State.setTurn (x : Turn) (s : State) : State := { s with turn := x }
def State.setRoster (x : Roster) (s : State) : State := { s with roster := x }
def State.setFrames (x : FrameUnit) (s : State) : State := { s with frames := x }
def State.setBuild (x : BuildUnit) (s : State) : State := { s with build := x }
def State.setPort (x : DeliveryPort) (s : State) : State := { s with port := x }
def State.setInsp (x : Inspection) (s : State) : State := { s with insp := x }
def State.setFreeIndex (x : Nat) (s : State) : State := { s with freeIndex := x }

/-- The transmit queue replaced, the rest of the frame unit kept. -/
def State.setQueue (q : Queue) (s : State) : State := s.setFrames { s.frames with queue := q }

/-- The inspection port's transaction replaced, the rest of the port kept. -/
def State.setLine (x : InspectionLine) (s : State) : State := s.setInsp { s.insp with line := x }

/-- The station state replaced, the rest of start-up control kept. -/
def State.setStation (x : StationState) (s : State) : State := s.setStart { s.start with station := x }

/-! ## Questions many rules ask -/

def State.isAcquirer (s : State) : Bool := s.pins.role = .acquirer
def State.isCollector (s : State) : Bool := s.pins.role = .collector

/-- LOADING and HALTED, in which neither the trunk nor the local port is used (R144, R151, R114). -/
def State.unloaded (s : State) : Bool := s.start.station = .loading || s.start.station = .halted

/-- The states in which TAKE, FRAG, SKIP and ROLL frames reach the lists, the roster and the turn unit
(R32, R68, R73). -/
def State.tracks (s : State) : Bool :=
  match s.start.station with
  | .joining | .running | .silenced | .mute => true
  | .loading | .halted | .listening | .rollcall => false

/-- R2: the enabled channel count, 0 to 64. -/
def State.channelCount (s : State) : BitVec 7 :=
  BitVec.ofNat 7 ((List.range 64).countP fun i => s.config.channelEnable.getLsbD i)

/-! ## Counters and faults (R209, R211) -/

/-- The place of a counter in the order of R209: address 0x21 + index. -/
def Counter.index : Counter → Fin 18
  | .straySamples => 0 | .suppressed => 1 | .doubles => 2 | .refusedTriggers => 3 | .heldEdges => 4
  | .missedEvents => 5 | .missedEdges => 6 | .numberSlips => 7 | .staleTakes => 8 | .lateDrops => 9
  | .skipsSent => 10 | .lateFrags => 11 | .badFrames => 12 | .malformed => 13 | .txRetries => 14
  | .buildOverflows => 15 | .truncatedBuilds => 16 | .timeSuspects => 17

/-- R209: the value of a counter. -/
def State.count (s : State) (c : Counter) : BitVec 16 := s.insp.counters[c.index]

/-- R209: an increment of a counter at 65 535 leaves it there. -/
def saturate (v : BitVec 16) : BitVec 16 := if v = 65535#16 then v else v + 1

/-- R209: one increment of a counter. -/
def State.bump (c : Counter) (s : State) : State :=
  s.setInsp { s.insp with
    counters := s.insp.counters.set c.index.val (saturate s.insp.counters[c.index]) c.index.isLt }

/-- R211: the code of a fault, 1 to 11. -/
def FaultCode.number : FaultCode → Nat
  | .imageBad => 1 | .imageAdjusted => 2 | .lineProhibited => 3 | .trunkDrive => 4 | .addressClash => 5
  | .signatureMismatch => 6 | .silenced => 7 | .takeListFull => 8 | .runExhausted => 9
  | .storeOverrun => 10 | .buildOverflow => 11

/-- R211: the flag of a code in the fault set. -/
def FaultCode.flag (c : FaultCode) : BitVec 11 := BitVec.twoPow 11 (c.number - 1)

/-- R211: a fault enters the record: the first in full, each later one as a further fault (stopping at 255). -/
def FaultRecord.enter (f : FirstFault) (r : FaultRecord) : FaultRecord :=
  match r.first with
  | none => { first := some f, further := r.further, flags := r.flags ||| f.code.flag }
  | some _ => { r with further := min 255 (r.further + 1), flags := r.flags ||| f.code.flag }

/-- R211: raising a fault, at the counter's value and in the time state standing now. -/
def State.raise (code : FaultCode) (context : Nat) (s : State) : State :=
  s.setInsp { s.insp with
    faults := s.insp.faults.enter
      { code := code, context := context, time := s.time.counter, state := s.time.state } }

/-! ## The roster and the turn order (R47, R71) -/

/-- The sixteen addresses, ascending. -/
def allAddrs : List Addr := [0, 1, 2, 3, 4, 5, 6, 7, 8, 9, 10, 11, 12, 13, 14, 15]

/-- The roster entry of an address. -/
def State.entry (s : State) (a : Addr) : RosterEntry := s.roster[a]

/-- The station's own entry. -/
def State.ownEntry (s : State) : RosterEntry := s.entry s.pins.address

/-- One entry replaced. -/
def State.setEntry (a : Addr) (e : RosterEntry) (s : State) : State :=
  s.setRoster (s.roster.set a.val e a.isLt)

/-- Every entry changed by one function. -/
def Roster.each (f : RosterEntry → RosterEntry) (r : Roster) : Roster :=
  ⟨(r.toList.map f).toArray, by simp⟩

/-- R47, R72: a member is a PRESENT acquirer. -/
def RosterEntry.isMember (e : RosterEntry) : Bool := e.state = .present && e.role = some .acquirer

/-- R47: the turn order. -/
def State.order (s : State) : List Addr := allAddrs.filter fun a => (s.entry a).isMember

/-- The finished-through mark of an address (R48). -/
def State.mark (s : State) (a : Addr) : Nat := (s.entry a).mark

/-- R48: each cause that raises a mark raises it to the larger of its old value and the new one. -/
def State.raiseMark (a : Addr) (n : Nat) (s : State) : State :=
  s.setEntry a { s.entry a with mark := max (s.mark a) n }

/-- R47: the predecessor, `none` for the first member. -/
def predecessor (order : List Addr) (m : Addr) : Option Addr := (order.filter (· < m)).getLast?

/-- R47: the skipped member of a station: the member immediately before it, taken cyclically; `none` for a station
outside the order or alone in it. -/
def skippedMember (order : List Addr) (me : Addr) : Option Addr :=
  if me ∈ order then
    match predecessor order me with
    | some p => some p
    | none => order.getLast?.filter (· ≠ me)
  else none

/-- R48: the next event of a member: the lowest take-list entry greater than its mark. -/
def State.nextEvent (s : State) (m : Addr) : Option Nat :=
  (s.agree.takeList.find? fun e => s.mark m < e.number).map (·.number)

/-- R49: N is among the first LEAD entries of the take list. -/
def State.inLead (s : State) (n : Nat) : Bool :=
  (s.agree.takeList.take s.config.lead).any fun e => e.number = n

/-- R49, R59: a member's turn for N is open in this station's view. -/
def State.turnOpen (s : State) (m : Addr) (n : Nat) : Bool :=
  s.nextEvent m = some n &&
    match predecessor s.order m with
    | some p => n ≤ s.mark p
    | none => s.inLead n

/-- R49, R58: own turns and the turn timer belong to a RUNNING acquirer that is a member of its own turn order. -/
def State.takesTurns (s : State) : Bool :=
  s.isAcquirer && s.start.station = .running && s.pins.address ∈ s.order

/-- R49: the event of the station's own open turn. -/
def State.ownTurn (s : State) : Option Nat :=
  if s.takesTurns then (s.nextEvent s.pins.address).filter (s.turnOpen s.pins.address) else none

/-- The highest take-list entry below N (R56, R81). -/
def State.entryBelow (s : State) (n : Nat) : Option Nat :=
  ((s.agree.takeList.filter fun e => e.number < n).getLast?).map (·.number)

/-- The lowest finished-through mark among the members (R38); `none` with no member. -/
def State.lowestMark (s : State) : Option Nat := (s.order.map s.mark).min?

/-! ## Places of the transmit queue (R134 to R136) -/

/-- A frame offered into an empty or free place. -/
def Place.fresh {φ : Type} (f : φ) : Place φ := { frame := f, onWire := false, kept := .nothing }

/-- R135, R136: an offer replaces a frame that is not on the wire, and waits for one that is. -/
def Place.offer {φ : Type} (f : φ) : Option (Place φ) → Option (Place φ)
  | none => some (.fresh f)
  | some p => if p.onWire then some { p with kept := .offer f } else some (.fresh f)

/-- R136: a withdrawal takes effect at once off the wire, and is kept for a frame on it. -/
def Place.withdraw {φ : Type} : Option (Place φ) → Option (Place φ)
  | none => none
  | some p => if p.onWire then some { p with kept := .withdrawal } else none

/-- R136: the frame leaves the wire unsent, and what was kept takes effect. -/
def Place.leaveUnsent {φ : Type} (p : Place φ) : Option (Place φ) :=
  if p.onWire then
    match p.kept with
    | .nothing => some { p with onWire := false }
    | .withdrawal => none
    | .offer f => some (.fresh f)
  else some p

/-- R139: the frame is sent: it leaves its place, a kept withdrawal is void and a kept offer enters. -/
def Place.leaveSent {φ : Type} (p : Place φ) : Option (Place φ) :=
  if p.onWire then
    match p.kept with
    | .nothing => none
    | .withdrawal => none
    | .offer f => some (.fresh f)
  else some p

/-- The frame the place will hold once nothing of it is on the wire. -/
def Place.due {φ : Type} (p : Place φ) : Option φ :=
  match p.kept with
  | .nothing => some p.frame
  | .withdrawal => none
  | .offer f => some f

/-- Every frame on the wire leaves it unsent (R138, R141). -/
def Queue.leaveUnsent (q : Queue) : Queue :=
  { takes := q.takes.filterMap Place.leaveUnsent
    skip := q.skip.bind Place.leaveUnsent
    frag := q.frag.bind Place.leaveUnsent
    roll := q.roll.bind Place.leaveUnsent }

/-- The frame on the wire is sent (R139). -/
def Queue.leaveSent (q : Queue) : Queue :=
  { takes := q.takes.filterMap Place.leaveSent
    skip := q.skip.bind Place.leaveSent
    frag := q.frag.bind Place.leaveSent
    roll := q.roll.bind Place.leaveSent }

/-- The frame of a place that is on the wire. -/
def Place.driven {φ : Type} (p : Place φ) : Option φ := if p.onWire then some p.frame else none

/-- The frame this station has on the wire, if any. -/
def Queue.onWire (q : Queue) : Option Frame :=
  ((q.takes.findSome? Place.driven).map Frame.take)
    <|> ((q.skip.bind Place.driven).map Frame.skip)
    <|> ((q.frag.bind Place.driven).map Frame.frag)
    <|> ((q.roll.bind Place.driven).map Frame.roll)

/-- The queue holds no pending frame. -/
def Queue.isEmpty (q : Queue) : Bool :=
  q.takes.isEmpty && q.skip.isNone && q.frag.isNone && q.roll.isNone

/-- R137: among a station's TAKE frames the lowest number goes first. -/
def lowestTake (l : List (Place TakeFrame)) : Option Nat :=
  (l.map fun p => p.frame.number.toNat).min?

/-- The first place with this number goes on the wire. -/
def driveTake (n : Nat) : List (Place TakeFrame) → List (Place TakeFrame)
  | [] => []
  | p :: l => if p.frame.number.toNat = n then { p with onWire := true } :: l else p :: driveTake n l

/-- A place whose frame goes on the wire. -/
def Place.drive {φ : Type} (p : Place φ) : Place φ := { p with onWire := true }

/-- R137: the selected frame, lowest kind first and among TAKE frames the lowest number, goes on the wire. -/
def Queue.driveSelected (q : Queue) : Queue :=
  match lowestTake q.takes, q.skip, q.frag, q.roll with
  | some n, _, _, _ => { q with takes := driveTake n q.takes }
  | none, some p, _, _ => { q with skip := some p.drive }
  | none, none, some p, _ => { q with frag := some p.drive }
  | none, none, none, some p => { q with roll := some p.drive }
  | none, none, none, none => q

/-! ## Offers and withdrawals of this station -/

/-- R25, R30: the TAKE frame of an entry, carrying its number and edge time. -/
def State.takeFrame (s : State) (n : Nat) (t : Time) : TakeFrame :=
  { number := BitVec.ofNat 32 n, sender := s.pins.address, time := t }

/-- R135: a TAKE offered at an accepted edge enters a slot of its own. -/
def State.offerTake (n : Nat) (t : Time) (s : State) : State :=
  s.setQueue { s.frames.queue with takes := s.frames.queue.takes ++ [.fresh (s.takeFrame n t)] }

/-- R30, answered: the entry's TAKE frame is withdrawn. -/
def State.withdrawTake (n : Nat) (s : State) : State :=
  s.setQueue { s.frames.queue with
    takes := s.frames.queue.takes.filterMap fun p =>
      if p.frame.number.toNat = n then Place.withdraw (some p) else some p }

/-- R30, shifted: each TAKE frame is replaced by one with the new number and the same time, or withdrawn where the
shift gives none. An entry whose TAKE frame was sent before has none to replace, and none is offered for it (DESIGN
CHOICE, log 38). -/
def State.shiftTakes (shift : Nat → Option Nat) (s : State) : State :=
  s.setQueue { s.frames.queue with
    takes := s.frames.queue.takes.filterMap fun p =>
      match shift p.frame.number.toNat with
      | none => Place.withdraw (some p)
      | some k => Place.offer { p.frame with number := BitVec.ofNat 32 k } (some p) }

def State.offerSkip (f : SkipFrame) (s : State) : State :=
  s.setQueue { s.frames.queue with skip := Place.offer f s.frames.queue.skip }

def State.withdrawSkip (s : State) : State :=
  s.setQueue { s.frames.queue with skip := Place.withdraw s.frames.queue.skip }

def State.offerFrag (f : FragFrame) (s : State) : State :=
  s.setQueue { s.frames.queue with frag := Place.offer f s.frames.queue.frag }

def State.withdrawFrag (s : State) : State :=
  s.setQueue { s.frames.queue with frag := Place.withdraw s.frames.queue.frag }

/-- R74: the join point, high take + 1, or 0 when the numbers are used up. -/
def State.joinPoint (s : State) : BitVec 32 :=
  if s.agree.highTake < maxEvent then BitVec.ofNat 32 (s.agree.highTake + 1) else 0

/-- R74, R132: a ROLL frame of this station. A CALL carries 0 in its event field. -/
def State.rollFrame (s : State) (mode : RollMode) : RollFrame :=
  { field := if mode = .call then 0 else s.joinPoint, sender := s.pins.address, mode := mode,
    role := s.pins.role, count := s.channelCount, signature := s.config.signature }

/-- R74: a ROLL frame offered. A MUTE station and one carrying the mute attribute offer none. -/
def State.offerRoll (mode : RollMode) (s : State) : State :=
  if s.start.muteAttr || s.start.station = .mute then s
  else s.setQueue { s.frames.queue with roll := Place.offer (s.rollFrame mode) s.frames.queue.roll }

/-- R80: a pending ECHO is withdrawn. -/
def State.withdrawEcho (s : State) : State :=
  match s.frames.queue.roll with
  | some p =>
    if p.frame.mode = .echo then s.setQueue { s.frames.queue with roll := Place.withdraw (some p) } else s
  | none => s

/-- R74: a pending JOIN or ECHO off the wire carries the join point of the moment. -/
def State.refreshRoll (s : State) : State :=
  match s.frames.queue.roll with
  | some p =>
    if p.onWire || p.frame.mode = .call then s
    else s.setQueue { s.frames.queue with
      roll := some { p with frame := { p.frame with field := s.joinPoint } } }
  | none => s

/-! ## The fragment store -/

/-- The record of an event, if the store holds one (R10). -/
def State.record? (s : State) (n : Nat) : Option Record := s.store.records.find? fun r => r.number = n

/-- R10: the head of the store: the record with the lowest event number, the first of them where a store out of order
holds two (log 28). -/
def Store.head? (st : Store) : Option Record :=
  st.records.find? fun r => st.records.all fun q => r.number ≤ q.number

/-- R8: samples held by all records together. -/
def Store.samples (st : Store) : Nat := (st.records.map fun r => r.samples.length).sum

/-- R8: the free-entry count. -/
def Store.freeEntries (st : Store) : Nat := Config.storeEntries - st.samples

/-- R8: the free-descriptor count. -/
def Store.freeDescriptors (st : Store) : Nat := Config.recordCapacity - st.records.length

/-- R12: a CAPTURING record becomes READY. -/
def Record.endWindow (r : Record) : Record :=
  if r.state = .capturing then { r with state := .ready } else r

/-- R3, R12: the window ends by expiry or by a further edge. -/
def Store.endWindow (st : Store) : Store := { window := none, records := st.records.map Record.endWindow }

/-- The window stays open only over a CAPTURING record (R3: a discarded CAPTURING record ends the window). -/
def Store.windowOver (st : Store) (records : List Record) : Option Nat :=
  if records.any (fun r => r.state = .capturing) then st.window else none

/-- R16, R19: the record of an event leaves the store; a discarded CAPTURING record ends the window (R3). -/
def Store.remove (n : Nat) (st : Store) : Store :=
  let left := st.records.eraseP fun r => r.number = n
  { window := st.windowOver left, records := left }

/-- The record of an event changed, where the store holds one (R10: the lookup finds one record or none). -/
def changeRecord (n : Nat) (f : Record → Record) : List Record → List Record
  | [] => []
  | r :: l => if r.number = n then f r :: l else r :: changeRecord n f l

/-- The record of an event changed, in the store. -/
def Store.modify (n : Nat) (f : Record → Record) (st : Store) : Store :=
  { st with records := changeRecord n f st.records }

/-- R4, R6: the record being filled. -/
def Store.capturing (st : Store) : Option Record := st.records.find? fun r => r.state = .capturing

/-- The CAPTURING record changed. -/
def Store.modifyCapturing (f : Record → Record) (st : Store) : Store :=
  { st with records := st.records.map fun r => if r.state = .capturing then f r else r }

/-! ## The take list -/

/-- R38: an entry inserted in its ascending place. -/
def insertTake (e : TakeEntry) : List TakeEntry → List TakeEntry
  | [] => [e]
  | x :: l => if e.number < x.number then e :: x :: l else x :: insertTake e l

/-- The number is in the take list. -/
def State.listed (s : State) (n : Nat) : Bool := s.agree.takeList.any fun e => e.number = n

/-- The timestamp of the take-list entry for N; absent when the entry is NO_TIME or missing (R96). -/
def State.takeTime (s : State) (n : Nat) : Option Time :=
  (s.agree.takeList.find? fun e => e.number = n).bind (·.time)

/-- R33: a number refused for lack of room raises the reason and its fault at the first rise. -/
def State.refuseTake (n : Nat) (s : State) : State :=
  if s.agree.listFull then s
  else (s.setAgree { s.agree with listFull := true }).raise .takeListFull n

/-- R40: the station becomes run-exhausted. -/
def State.becomeExhausted (context : Nat) (s : State) : State :=
  (s.setAgree { s.agree with evn := 0, exhausted := true }).raise .runExhausted context

end Sys2Proof.Machine
end

