-- ==== Sys2Proof/Machine/Flags.lean ====
section
/-! DEFINITION. Conditions that are functions of the state: the nine hold reasons, the station's own drives of the
three lines, the levels it reads, and its output pins (Chapter 8, R114, R116, R214). -/

namespace Sys2Proof.Machine

/-- R156: the hold reasons and their owners. -/
inductive HoldReason where
  | windowOpen | descriptorsLow | entriesLow      -- fragment store
  | pendingFull | takeListFull | runExhausted     -- agreement unit
  | buildsHigh | memoryLow                        -- build unit
  | rollCall                                      -- start-up control
deriving DecidableEq, Repr

/-- R93: the samples of one build in build memory. -/
def Build.samples (b : Build) : Nat := (b.contributions.map fun c => c.samples.length).sum

/-- R93: build memory in use. -/
def BuildUnit.samples (b : BuildUnit) : Nat := (b.builds.map Build.samples).sum

/-- R93: the free-entry count of build memory. -/
def BuildUnit.freeEntries (b : BuildUnit) : Nat := Config.buildEntries - b.samples

/-- R17, R42, R110, R156: the condition while which a reason stands. -/
def HoldReason.stands (s : State) : HoldReason → Bool
  | .windowOpen => s.store.window.isSome
  | .descriptorsLow => s.store.freeDescriptors < Config.descriptorsLow
  | .entriesLow => s.store.freeEntries < Config.entriesLow
  | .pendingFull => Config.pendingCapacity ≤ s.agree.pendingTakes.length
  | .takeListFull => s.agree.listFull
  | .runExhausted => s.agree.exhausted
  | .buildsHigh => Config.buildsHigh ≤ s.build.builds.length
  | .memoryLow => s.build.freeEntries < Config.memoryLow
  | .rollCall => s.start.rollCallReason

/-- The nine reasons. -/
def allHoldReasons : List HoldReason :=
  [.windowOpen, .descriptorsLow, .entriesLow, .pendingFull, .takeListFull, .runExhausted, .buildsHigh,
   .memoryLow, .rollCall]

/-- R157: at least one of the station's hold reasons stands. -/
def State.holds (s : State) : Bool := allHoldReasons.any fun r => r.stands s

/-- R155: the states in which the station may drive the trunk. -/
def State.mayDrive (s : State) : Bool :=
  !s.pins.rst &&
    match s.start.station with
    | .rollcall | .joining | .running | .silenced => true
    | .loading | .halted | .listening | .mute => false

/-- R157: the station's own drive of HLD. -/
def State.drivesHld (s : State) : Bool := s.mayDrive && s.config.hld ≠ .listen && s.holds

/-- R158: HLD as read from the trunk is the wired-OR of the own drive and every other station's. -/
def State.readsHld (s : State) (othersHold : Bool) : Bool := s.drivesHld || othersHold

/-- R155, R161: the station's own drive of TRG. -/
def State.drivesTrg (s : State) : Bool :=
  s.mayDrive && s.config.trg ≠ .listen &&
    ((s.trig.normalPulse.isSome && s.start.station = .running && s.isAcquirer) || s.trig.restartPulse.isSome)

/-- R143: a sending state. -/
def State.sending (s : State) : Bool := s.mayDrive && s.config.dat ≠ .listen && !s.start.muteAttr

/-- R159: the bits the station drives on DAT for the frame it has on the wire, in the order sent: DAT is pulled for
each dominant bit, a 0. None where it drives nothing. -/
def State.datBits (s : State) : Option (List Bool) :=
  if s.sending then s.frames.queue.onWire.map fun f => lineBits (frameBytes f) else none

/-- R137: a station whose queue is not empty drives the first marker itself when DAT is idle in its own reading. -/
def State.startsContention (s : State) : Bool :=
  s.sending && s.frames.dat = .idle && !s.frames.queue.isEmpty

/-- R152: SINK-TERM connects the station's termination, from a good image until RST. -/
def Personality.terminates (p : Personality) : Bool := p = .sinkTerm

/-- R214: FAULT is asserted while the fault record is not empty. -/
def State.faultPin (s : State) : Bool := s.insp.faults.first.isSome

/-- R114: a collector drives the local port from a good image until RST. -/
def State.drivesPort (s : State) : Bool := !s.pins.rst && s.isCollector && !s.unloaded

/-- R116: WORD-VALID is asserted while a word is offered. -/
def State.wordValid (s : State) : Bool := s.drivesPort && s.port.state ≠ .idle

/-- R114: the levels of LP0 to LP31, where the station drives them. -/
def State.lpPins (s : State) : Option Word := if s.drivesPort then some s.port.lp else none

/-- R170: IMCS is asserted while a read is made. -/
def State.imcs (s : State) : Bool := !s.pins.rst && s.start.imagePort ≠ .idle

/-- R170: the read request: the byte 0x03, then the address 0 in two bytes. -/
def imageRequest : List Byte := [0x03#8, 0x00#8, 0x00#8]

/-- R170: what a read under way sends on IMSO, in the order sent; between reads the port drives nothing. -/
def State.imsoBits (s : State) : Option (List Bool) := if s.imcs then some (bitsOfBytes imageRequest) else none

/-- R206: ISCS is low. -/
def InspectionLine.isLow : InspectionLine → Bool
  | .held low => low
  | .released => false
  | .selected _ _ => true

end Sys2Proof.Machine
end

