-- ==== Sys2Proof/Machine/Delivery.lean ====
section
/-! DEFINITION. Closing builds and handing them out: the completion test (R106), the words of a delivered record
(R119, R204), the start of a record (R109, R118) and the command TAKING_EVENT (R117, R121). -/

namespace Sys2Proof.Machine

/-! ## The words of a record (R119, R120, R204) -/

/-- R204: the code of a contribution's state. A closed build holds no WAITING contribution (R119); R204 gives that state
no code, and it takes 6 (DESIGN CHOICE, log 36). -/
def ContributionState.code : ContributionState → Nat
  | .done => 0
  | .partly => 1
  | .lost => 2
  | .skipped => 3
  | .unheard => 4
  | .notExpected => 5
  | .waiting => 6

/-- R118: the record's total word count. -/
def Build.total (b : Build) : Nat := 5 + b.contributions.length + b.samples

def headerWord (b : Build) : Word :=
  packWord [(29, 3, 4), (16, 5, b.contributions.length), (0, 11, b.total)]

/-- R124: the abort word carries the number of words taken. -/
def abortWord (taken : Nat) : Word := packWord [(29, 3, 5), (0, 11, taken)]

def timeHighWord (b : Build) : Word :=
  match b.time with
  | none => packWord [(31, 1, 1)]
  | some t => packWord [(0, 16, t.toNat / 2 ^ 32)]

def timeLowWord (b : Build) : Word :=
  match b.time with
  | none => 0
  | some t => BitVec.ofNat 32 t.toNat

def contributionWord (c : Contribution) : Word :=
  packWord [(29, 3, 6), (24, 4, c.member.val), (20, 3, c.state.code), (15, 1, c.flags.ovr.toNat),
    (14, 1, c.flags.dbl.toNat), (13, 1, c.flags.tsus.toNat), (12, 1, c.flags.renum.toNat),
    (11, 1, c.flags.trunc.toNat), (8, 1, c.joined.toNat), (0, 7, c.samples.length)]

def sampleWord (member : Addr) (x : Sample) : Word :=
  packWord [(29, 3, 2), (24, 4, member.val), (16, 6, x.channel.toNat), (14, 1, x.overrange.toNat),
    (0, 14, x.value.toNat)]

def endWord (b : Build) : Word :=
  packWord [(29, 3, 7), (17, 1, if b.cause = some .timeout then 1 else 0), (16, 1, b.truncated.toNat),
    (0, 16, b.number)]

/-- R119: the words of a delivered record, in order. -/
def Build.words (b : Build) : List Word :=
  [headerWord b, BitVec.ofNat 32 b.number, timeHighWord b, timeLowWord b]
    ++ b.contributions.map contributionWord
    ++ b.contributions.flatMap (fun c => c.samples.map (sampleWord c.member))
    ++ [endWord b]

/-! ## Closing (R106, R107) -/

/-- R106: at the close every contribution still WAITING becomes UNHEARD. -/
def Contribution.atClose (c : Contribution) : Contribution :=
  if c.state = .waiting then { c with state := .unheard } else c

/-- R106, R107: a build closes with a cause. -/
def Build.close (cause : CloseCause) (b : Build) : Build :=
  { b with state := .closed, cause := some cause, timer := none,
           contributions := b.contributions.map Contribution.atClose }

/-- R103: a member that leaves the turn order is no longer expected where it is still WAITING. -/
def Build.notExpected (leaving : List Addr) (b : Build) : Build :=
  { b with contributions := b.contributions.map fun c =>
      if c.member ∈ leaving ∧ c.state = .waiting then { c with state := .notExpected } else c }

/-- R106: every PRESENT acquirer has finished the event. -/
def State.finished (s : State) (n : Nat) : Bool := s.order.all fun a => n ≤ s.mark a

/-- R103 and then R106 for one build. -/
def State.settleBuild (s : State) (leaving : List Addr) (b : Build) : Build :=
  if b.state = .opened then
    let b' := b.notExpected leaving
    if s.finished b.number then b'.close .complete else b'
  else b

/-- R103, R106: every OPEN build after a change of the turn order from `before`, or of the marks. -/
def State.settleBuilds (before : List Addr) (s : State) : State :=
  s.setBuild { s.build with
    builds := s.build.builds.map (s.settleBuild (before.filter fun a => a ∉ s.order)) }

/-! ## The port (R116 to R118, R121) -/

/-- R116: a word goes onto the pins with a new assertion of WORD-VALID. -/
def State.offerWord (state : PortState) (w : Word) (s : State) : State :=
  s.setPort { state := state, lp := w, offers := s.port.offers + 1 }

/-- R109, R118: with the port IDLE and a CLOSED head, the head becomes DELIVERING and its header is offered. -/
def State.startDelivery (s : State) : State :=
  match s.port.state, s.build.builds with
  | .idle, b :: rest =>
    if b.state = .closed then
      (s.setBuild { s.build with builds := { b with state := .delivering } :: rest }).offerWord
        (.record 0 b.total) (headerWord b)
    else s
  | _, _ => s

/-- The DELIVERING build, which stands behind the port in RECORD (R115). -/
def BuildUnit.delivering (u : BuildUnit) : Option Build := u.builds.find? fun b => b.state = .delivering

/-- R121: the end word was taken: the build leaves the table, last delivered takes its number, the port is IDLE. -/
def State.endRecord (s : State) : State :=
  let s' := s.setPort { s.port with state := .idle }
  match s.build.delivering with
  | some b =>
    s'.setBuild { builds := s.build.builds.filter fun x => x.state ≠ .delivering
                  lastDelivered := b.number }
  | none => s'

/-- R117: the offered word is taken. -/
def State.takeWord (s : State) : State :=
  match s.port.state with
  | .idle => s
  | .abort _ => (s.setPort { s.port with state := .idle }).startDelivery
  | .record cursor total =>
    if cursor + 1 < total then
      match s.build.delivering with
      | some b => s.offerWord (.record (cursor + 1) total) (b.words.getD (cursor + 1) 0)
      | none => s
    else s.endRecord.startDelivery

/-- TAKING_EVENT (R117): a rising edge of LACK. In the ACQUIRER role, under RST and in LOADING and HALTED it is
ignored (R114, R126). -/
def execTakingEvent (s : State) : Host.Outcome State Fault Refusal :=
  .next (if s.drivesPort then s.takeWord else s)

/-! ## The close timer -/

/-- R107: the build for N, when OPEN with its timer running, closes TIMEOUT. -/
def State.timeoutBuild (n : Nat) (s : State) : State :=
  s.setBuild { s.build with
    builds := s.build.builds.map fun b =>
      if b.number = n ∧ b.state = .opened ∧ b.timer.isSome then b.close .timeout else b }

/-- CLOSE_TIMER_EXPIRY (R107): the build closes, and the head is handed over if the port is IDLE (R109). -/
def execCloseTimerExpiry (number : BitVec 32) (s : State) : Host.Outcome State Fault Refusal :=
  .next (if s.pins.rst then s else (s.timeoutBuild number.toNat).startDelivery)

end Sys2Proof.Machine
end

