-- ==== Sys2Proof/Machine/Turns.lean ====
section
/-! DEFINITION. The agreement unit's removals (R39), the turn unit's evaluation of its own turn and of its timer
(Chapter 3), the settling that follows a change of marks, take list or roster (R88), and TURN_TIMER_EXPIRY. -/

namespace Sys2Proof.Machine

/-! ## Removal (R39) -/

/-- R39: entries that every PRESENT acquirer has finished leave the list; the reason TAKE_LIST_FULL falls when fewer
than 48 are left (R33). -/
def State.removeDrained (s : State) : State :=
  let left := s.agree.takeList.filter fun e => !s.finished e.number
  s.setAgree { s.agree with
    takeList := left, listFull := s.agree.listFull && Config.takeListLow ≤ left.length }

/-! ## The turn timer (R58, R59, R61) -/

/-- TURN in ticks (R173). -/
def State.turnTicks (s : State) : Nat := s.config.turn * Config.ticksPerMicro

/-- The skipped member with its next event (R47, R58). -/
def State.watchedNow (s : State) : Option (Addr × Nat) :=
  if s.takesTurns then
    (skippedMember s.order s.pins.address).bind fun m => (s.nextEvent m).map fun n => (m, n)
  else none

/-- The skipped member's turn for its next event is open in this view (R59). -/
def State.watchedOpen (s : State) : Bool :=
  match s.watchedNow with
  | some (m, n) => s.turnOpen m n
  | none => false

/-- R59, "re-evaluated": the timer starts with time TURN when the skipped member's turn is open, and else is STOPPED. -/
def State.freshTimer (s : State) : TurnTimer :=
  match s.watchedNow with
  | some (m, n) => if s.turnOpen m n then .running m n s.turnTicks else .stopped
  | none => .stopped

/-- R59: the timer goes on as it is when it is bound to the skipped member's next event and that turn is open. -/
def State.timerStands (s : State) : Bool :=
  match s.turn.timer with
  | .stopped => false
  | .running m n _ => s.watchedNow = some (m, n) && s.watchedOpen
  | .skipping m n => s.watchedNow = some (m, n) && s.watchedOpen

/-- R58: parts heard start at 0 whenever the skipped member or its next event changes. -/
def State.heardNow (s : State) : Nat := if s.watchedNow = s.turn.watched then s.turn.heard else 0

/-- R61: the SKIP of a timer that was SKIPPING is withdrawn. -/
def State.dropSkip (s : State) : State :=
  match s.turn.timer with
  | .skipping _ _ => s.withdrawSkip
  | _ => s

/-- R59, R61, R67: the timer follows the skipped member's turn as this station sees it. -/
def State.evalTimer (s : State) : State :=
  let turn : Turn :=
    { timer := if s.timerStands then s.turn.timer else s.freshTimer
      watched := s.watchedNow, heard := s.heardNow }
  (if s.timerStands then s else s.dropSkip).setTurn turn

/-- R59, R62, R63: the timer is STOPPED and its SKIP, if any, withdrawn. -/
def State.stopTimer (s : State) : State := s.dropSkip.setTurn { s.turn with timer := .stopped }

/-! ## The station's own parts (R49 to R53) -/

/-- R51: a LOST part. -/
def State.lostPart (s : State) (n : Nat) : FragFrame :=
  { number := BitVec.ofNat 32 n, sender := s.pins.address, index := 0, last := true, lost := true,
    flags := noFlags, samples := [] }

/-- R15: the number of parts of a record, 1 to 4. -/
def Record.parts (r : Record) : Nat := max 1 ((r.samples.length + 15) / Config.partSamples)

/-- R15, R51: the part whose index equals the record's parts sent. -/
def State.recordPart (s : State) (r : Record) : FragFrame :=
  { number := BitVec.ofNat 32 r.number, sender := s.pins.address, index := BitVec.ofNat 3 r.partsSent,
    last := r.parts ≤ r.partsSent + 1, lost := false, flags := r.flags,
    samples := (r.samples.drop (Config.partSamples * r.partsSent)).take Config.partSamples }

/-- R50: the part due in the open turn for N, if any: nothing while the record is CAPTURING. -/
def State.duePart (s : State) (n : Nat) : Option FragFrame :=
  match s.record? n with
  | none => some (s.lostPart n)
  | some r => if r.state = .capturing then none else some (s.recordPart r)

/-- The part the FRAG place holds or will hold. -/
def State.offeredPart (s : State) : Option FragFrame := s.frames.queue.frag.bind Place.due

/-- R51: an offered part stands until it is sent or withdrawn, so the same part is not offered again: a part is known
by its number and index, also where a renumbering has moved its record away (DESIGN CHOICE, log 39). -/
def State.alreadyOffered (s : State) (f : FragFrame) : Bool :=
  match s.offeredPart with
  | some g => g.number = f.number && g.index = f.index
  | none => false

/-- R15, R50: a record whose part is offered is SENDING. -/
def State.markSending (n : Nat) (s : State) : State :=
  s.setStore (s.store.modify n fun r => { r with state := .sending })

/-- R49 to R53: the part due in the own open turn is offered, and any other offered part is withdrawn: a LOST part
too, where an edge then takes the open turn's number and its record is CAPTURING (DESIGN CHOICE, log 42). -/
def State.offerParts (s : State) : State :=
  match s.ownTurn with
  | none => s.withdrawFrag
  | some n =>
    match s.duePart n with
    | none => s.withdrawFrag
    | some f => if s.alreadyOffered f then s else (s.offerFrag f).markSending n

/-! ## Settling (R88) -/

/-- R88: removals first, then the turn unit's timer, on the list as the removals leave it. How often within one
reception is log 54. -/
def State.reassess (s : State) : State := s.removeDrained.evalTimer

/-- R88, R106, R109: what follows a change of marks, take list or roster, in the same action. `before` is the turn
order before the change (R103). -/
def State.settle (before : List Addr) (s : State) : State :=
  ((s.reassess.offerParts.refreshRoll).settleBuilds before).startDelivery

/-! ## TURN_TIMER_EXPIRY -/

/-- R60: the SKIP offered at the expiry. -/
def State.skipFrame (s : State) (subject : Addr) (n : Nat) : SkipFrame :=
  { number := BitVec.ofNat 32 n, sender := s.pins.address, subject := subject
    reason := if s.turn.heard = 0 then .noStart else .stalled
    heard := BitVec.ofNat 3 s.turn.heard }

/-- R60: the timer expires on its subject. -/
def State.expireTurn (s : State) : State :=
  match s.turn.timer with
  | .running m n _ => (s.offerSkip (s.skipFrame m n)).setTurn { s.turn with timer := .skipping m n }
  | _ => s

/-- TURN_TIMER_EXPIRY (R60). With no timer RUNNING there is no expiry (log 7). -/
def execTurnTimerExpiry (s : State) : Host.Outcome State Fault Refusal :=
  .next (if s.pins.rst then s else s.expireTurn)

end Sys2Proof.Machine
end

