-- ==== Sys2Proof/Machine/Building.lean ====
section
/-! DEFINITION. The build unit's handling of FRAG parts and SKIPs that reach it (Chapter 5, R94 to R105). -/

namespace Sys2Proof.Machine

/-- R95: the delivery floor: the number of the build in DELIVERING while one is in the table, else last delivered. -/
def BuildUnit.floor (u : BuildUnit) : Nat :=
  match u.delivering with
  | some b => b.number
  | none => u.lastDelivered

/-- R94: a collector takes FRAG parts and SKIPs in JOINING and RUNNING. -/
def State.builds (s : State) : Bool :=
  s.isCollector && (s.start.station = .joining || s.start.station = .running)

/-- R91, R107: 4 × TURN. -/
def State.closeTicks (s : State) : Nat := 4 * s.turnTicks

/-- R96, R102: a contribution of which nothing has been received. -/
def Contribution.fresh (m : Addr) (joined : Bool) : Contribution :=
  { member := m, state := .waiting, flags := noFlags, samples := [], parts := 0, joined := joined }

/-- R96: a new build: one WAITING contribution for each member of the turn order. -/
def State.newBuild (s : State) (n : Nat) (stamp : Option Time) : Build :=
  { number := n, time := stamp, state := .opened
    contributions := s.order.map fun m => .fresh m false
    truncated := false, cause := none, timer := some s.closeTicks }

/-- R91: builds stand in ascending event number. -/
def insertBuild (b : Build) : List Build → List Build
  | [] => [b]
  | x :: l => if b.number < x.number then b :: x :: l else x :: insertBuild b l

/-- R92, R102: contributions stand in ascending member address, one per address. -/
def putContribution (c : Contribution) : List Contribution → List Contribution
  | [] => [c]
  | x :: l =>
    if c.member < x.member then c :: x :: l
    else if c.member = x.member then c :: l
    else x :: putContribution c l

/-- R102: the contribution of an address, or a WAITING one with JOINED set where the list holds none. -/
def Build.contribution (b : Build) (m : Addr) : Contribution :=
  (b.contributions.find? fun c => c.member = m).getD (.fresh m true)

/-- R92: the final states. -/
def Contribution.isFinal (c : Contribution) : Bool :=
  match c.state with
  | .waiting | .partly => false
  | .done | .lost | .skipped | .unheard | .notExpected => true

/-- R99: the union of two sets of flags. -/
def unionFlags (a b : RecordFlags) : RecordFlags :=
  { ovr := a.ovr || b.ovr, dbl := a.dbl || b.dbl, tsus := a.tsus || b.tsus,
    renum := a.renum || b.renum, trunc := a.trunc || b.trunc }

/-- R99's table has no row for a final part that brings more parts than its index + 1: a free value (log 16). -/
def Contribution.surplus (c : Contribution) (f : FragFrame) : Bool :=
  f.last && !f.lost && f.index.toNat < c.parts

/-- R99, R100: the state after a part. `surplusDone` is used only where `surplus` holds. -/
def Contribution.stateAfter (c : Contribution) (f : FragFrame) (surplusDone : Bool) : ContributionState :=
  if f.lost then .lost
  else if !f.last then .partly
  else if c.parts = f.index.toNat then .done
  else if c.parts < f.index.toNat then .partly
  else if surplusDone then .done else .partly

/-- R99, R100, R104: a part applied to a contribution that is not final, with this many free entries of memory. Parts
received and samples go on rising beyond the ranges of R92 where a member repeats parts (DESIGN CHOICE, log 40). The
record flags of a LOST part, which R100 holds to be clear, are not united where a frame has them set (DESIGN CHOICE,
log 47). -/
def Contribution.applyPart (c : Contribution) (f : FragFrame) (free : Nat) (surplusDone : Bool) : Contribution :=
  { c with
    state := c.stateAfter f surplusDone
    parts := c.parts + 1
    flags := if f.lost then c.flags
      else unionFlags (unionFlags c.flags f.flags) { noFlags with trunc := free < f.samples.length }
    samples := c.samples ++ f.samples.take free }

/-- R101: a SKIP settles a contribution that is not final. -/
def Contribution.applySkip (c : Contribution) (heard : Nat) : Contribution :=
  match c.state with
  | .waiting => { c with state := if heard = 0 then .skipped else .partly }
  | _ => c

/-- One build of the table replaced by its number. -/
def State.putBuild (b : Build) (s : State) : State :=
  s.setBuild { s.build with builds := s.build.builds.map fun x => if x.number = b.number then b else x }

/-- R99, R100, R102, R104, R107: a FRAG part applied to an OPEN build. -/
def State.applyPart (f : FragFrame) (b : Build) (s : State) : State :=
  let c := b.contribution f.sender
  if c.isFinal then s
  else
    let free := s.build.freeEntries
    let cut : Bool := free < f.samples.length
    let b' := { b with
      contributions := putContribution (c.applyPart f free (Config.surplusPartIsDone s.freeIndex)) b.contributions
      truncated := b.truncated || cut
      timer := some s.closeTicks }
    let s' := s.putBuild b'
    let s' := if cut && !b.truncated then s'.bump .truncatedBuilds else s'
    if c.surplus f then s'.setFreeIndex (s.freeIndex + 1) else s'

/-- R101, R102, R107: a SKIP applied to an OPEN build. One that meets a final contribution, which R101 holds to be
impossible, changes nothing (DESIGN CHOICE, log 44). -/
def State.applySkip (f : SkipFrame) (b : Build) (s : State) : State :=
  let c := b.contribution f.subject
  if c.isFinal then s
  else s.putBuild { b with
    contributions := putContribution (c.applySkip f.heard.toNat) b.contributions
    timer := some s.closeTicks }

/-- R94 to R97, R105: a frame for event N reaching the build unit. `stamp` is the timestamp of N's take-list entry
as the implied-take check left it (log 19); `apply` applies the frame to the OPEN build. -/
def State.buildFrame (n : Nat) (stamp : Option Time) (apply : Build → State → State) (s : State) : State :=
  if !s.builds then s
  else if n ≤ s.build.floor then s.bump .lateFrags
  else
    match s.build.builds.find? fun b => b.number = n with
    | some b => if b.state = .opened then apply b s else s.bump .lateFrags
    | none =>
      if Config.buildCapacity ≤ s.build.builds.length then
        (s.bump .buildOverflows).raise .buildOverflow n
      else
        let b := s.newBuild n stamp
        apply b (s.setBuild { s.build with builds := insertBuild b s.build.builds })

/-- R98: OPEN builds for N without a timestamp take it from the TAKE that filled or appended the entry. -/
def State.fillBuilds (n : Nat) (t : Time) (s : State) : State :=
  s.setBuild { s.build with
    builds := s.build.builds.map fun b =>
      if b.number = n ∧ b.state = .opened ∧ b.time = none then { b with time := some t } else b }

end Sys2Proof.Machine
end

