-- ==== Sys2Proof/Machine/Agreement.lean ====
section
/-! DEFINITION. The agreement unit with the time base (Chapters 2 and 10): accepting an edge, taking a TAKE with
matching, renumbering and catch-up, implied takes, and the raise of the high take while JOINING. -/

namespace Sys2Proof.Machine

/-! ## Accepting an edge (R25) -/

/-- R11: the record an accepted edge creates. -/
def newRecord (n : Nat) (t : Time) : Record :=
  { number := n, state := .capturing, edgeTime := t, answered := false, flags := noFlags, samples := [],
    partsSent := 0 }

/-- CAPWIN in ticks (R3). -/
def State.windowTicks (s : State) : Nat := s.config.capwin * Config.ticksPerMicro

/-- R11, R12, R18: the store's part of an acceptance: a record and its window, or the missed event. -/
def State.storeEdge (n : Nat) (t : Time) (s : State) : State :=
  let ended := s.store.endWindow
  if s.store.records.length < Config.recordCapacity then
    s.setStore { window := some s.windowTicks, records := ended.records ++ [newRecord n t] }
  else ((s.setStore ended).bump .missedEvents).raise .storeOverrun n

/-- R25, effect 1: the edge takes EVN, which rises by one, or the station becomes run-exhausted (R40). -/
def State.countEdge (s : State) : State :=
  if s.agree.evn = maxEvent then s.becomeExhausted maxEvent
  else s.setAgree { s.agree with evn := s.agree.evn + 1 }

/-- R25, effect 4: the pending entry. -/
def State.appendPending (n : Nat) (t : Time) (s : State) : State :=
  s.setAgree { s.agree with pendingTakes := s.agree.pendingTakes ++ [{ number := n, edgeTime := t }] }

/-- R25, R193: an accepted edge, its five effects in order. The edge time is the counter's value. -/
def State.acceptEdge (s : State) : State :=
  let n := s.agree.evn
  let t := s.time.counter
  (((s.countEdge.storeEdge n t).appendPending n t).offerTake n t).offerParts

/-- R24: the conditions of acceptance for a RUNNING acquirer. -/
def State.accepts (s : State) (othersHold : Bool) : Bool :=
  !s.readsHld othersHold && !s.agree.exhausted && s.agree.pendingTakes.length < Config.pendingCapacity

/-! ## The pair at a match (R37, R194 to R196) -/

/-- R196: the distance of two times: the smaller of the two differences modulo 2^48. -/
def timeDistance (t e : Time) : Nat := min (t - e).toNat (e - t).toNat

/-- R14: the record of the pair is time-suspect. -/
def State.markSuspect (n : Nat) (s : State) : State :=
  s.setStore (s.store.modify n fun r => { r with flags := { r.flags with tsus := true } })

/-- R194: the time base acts on a pair: alignment while UNSET (R195), the skew check while SET (R196). -/
def State.takePair (n : Nat) (t e : Time) (s : State) : State :=
  match s.time.state with
  | .unset => s.setTime { counter := s.time.counter + (t - e), state := .set }
  | .set =>
    if s.config.skewlim ≠ 0 ∧ s.config.skewlim < timeDistance t e then
      (s.markSuspect n).bump .timeSuspects
    else s

/-! ## Matching (R34 to R36) -/

/-- R34: the oldest pending entry, whose number is N, is answered. -/
def State.answer (n : Nat) (t : Time) (s : State) : State :=
  match s.agree.pendingTakes with
  | [] => s
  | p :: rest =>
    let s := (s.setAgree { s.agree with pendingTakes := rest }).withdrawTake n
    let s := s.setStore (s.store.modify n fun r => { r with answered := true })
    s.takePair n t p.edgeTime

/-- R35: the shift of a number, from P to N for the oldest; none beyond the last number. A number that the shift would
carry below 1, which only a PENDING record outside the pending queue can have (log 28), becomes 0 (DESIGN CHOICE,
log 53). -/
def shiftNumber (oldest n k : Nat) : Option Nat :=
  if k + n - oldest ≤ maxEvent then some (k + n - oldest) else none

/-- R13, R35: a record whose TAKE is pending is renumbered (below 1: log 53); beyond the last number it is discarded. -/
def Record.shift (oldest n : Nat) (r : Record) : Option Record :=
  if r.answered then some r
  else (shiftNumber oldest n r.number).map fun k =>
    { r with number := k, flags := { r.flags with renum := true } }

/-- R35: the pending entries after a shift. -/
def shiftPending (oldest n : Nat) (l : List PendingTake) : List PendingTake :=
  l.filterMap fun p => (shiftNumber oldest n p.number).map fun k => { p with number := k }

/-- R35, R40: the lowest pending number that the shift carries beyond the last number, before the shift. -/
def firstDiscarded (oldest n : Nat) (l : List PendingTake) : Option Nat :=
  (l.find? fun p => (shiftNumber oldest n p.number).isNone).map (·.number)

/-- R35, R40: EVN and run exhaustion after a shift from `oldest` to `n` of the pending entries `l`. -/
def State.shiftEvn (oldest n : Nat) (l : List PendingTake) (s : State) : State :=
  match firstDiscarded oldest n l with
  | some k => s.becomeExhausted k
  | none =>
    if s.agree.exhausted then s
    else if maxEvent < s.agree.evn + n - oldest then s.becomeExhausted maxEvent
    else s.setAgree { s.agree with evn := s.agree.evn + n - oldest }

/-- R35: renumbering from the oldest pending number to N. -/
def State.renumber (oldest n : Nat) (s : State) : State :=
  let l := s.agree.pendingTakes
  let s := s.setAgree { s.agree with pendingTakes := shiftPending oldest n l }
  let s := s.shiftTakes (shiftNumber oldest n)
  let records := s.store.records.filterMap (Record.shift oldest n)
  let s := s.setStore { window := s.store.windowOver records, records := records }
  (s.shiftEvn oldest n l).bump .numberSlips

/-- R36: catch-up with an empty pending queue. -/
def State.catchUp (n : Nat) (s : State) : State :=
  if s.agree.exhausted || n < s.agree.evn then s
  else if n = maxEvent then (s.bump .missedEdges).becomeExhausted n
  else (s.bump .missedEdges).setAgree { s.agree with evn := n + 1 }

/-- R32, step 5: matching applies to acquirers in RUNNING, SILENCED and MUTE. -/
def State.matches (s : State) : Bool :=
  s.isAcquirer &&
    (s.start.station = .running || s.start.station = .silenced || s.start.station = .mute)

/-- R34 to R37: steps 5 and 6 of R32. -/
def State.matchTake (n : Nat) (t : Time) (s : State) : State :=
  if !s.matches then s
  else
    match s.agree.pendingTakes with
    | [] => s.catchUp n
    | p :: _ => (if n = p.number then s else s.renumber p.number n).answer n t

/-! ## TAKE frames (R32, R33) -/

/-- R32, step 1: a NO_TIME entry takes its timestamp, and an OPEN build for the event with it (R98). -/
def State.fillTake (n : Nat) (t : Time) (s : State) : State :=
  if s.takeTime n = none then
    (s.setAgree { s.agree with
      takeList := s.agree.takeList.map fun e => if e.number = n then { e with time := some t } else e }).fillBuilds n t
  else s

/-- R32, step 4: a new number is appended and becomes the high take; an OPEN build takes the time (R98). -/
def State.appendTake (n : Nat) (t : Time) (s : State) : State :=
  (s.setAgree { s.agree with
    takeList := s.agree.takeList ++ [{ number := n, time := some t }], highTake := n }).fillBuilds n t

/-- R32: the agreement unit's handling of a received TAKE. -/
def State.handleTake (n : Nat) (t : Time) (s : State) : State :=
  if s.listed n then s.fillTake n t
  else if n ≤ s.agree.highTake then s.bump .staleTakes
  else if Config.takeListCapacity ≤ s.agree.takeList.length then (s.refuseTake n).matchTake n t
  else (s.appendTake n t).matchTake n t

/-! ## Implied takes and the joiner's high take (R38, R79) -/

/-- R38, last case: an acquirer's own pending numbers would fall below its high take. -/
def State.awaitsOwnTake (s : State) (n : Nat) : Bool :=
  s.isAcquirer &&
    match s.agree.pendingTakes with
    | [] => false
    | p :: _ => p.number ≤ n

/-- R38: the implied-take check. -/
def State.impliedTake (n : Nat) (s : State) : State :=
  match s.lowestMark with
  | none => s
  | some low =>
    if s.listed n || n ≤ low then s
    else if Config.takeListCapacity ≤ s.agree.takeList.length then s.refuseTake n
    else if s.awaitsOwnTake n then s
    else s.setAgree { s.agree with
      takeList := insertTake { number := n, time := none } s.agree.takeList
      highTake := max s.agree.highTake n }

/-- R79: a JOINING station raises its high take as the trunk's frames show how far it has counted. -/
def State.raiseHighTake (n : Nat) (s : State) : State :=
  if s.start.station = .joining then s.setAgree { s.agree with highTake := max s.agree.highTake n } else s

end Sys2Proof.Machine
end

