-- ==== Sys2Proof/Machine/Capture.lean ====
section
/-! DEFINITION. The capture port: SAMPLE_ARRIVAL and CAPTURE_WINDOW_EXPIRY (Chapter 1). -/

namespace Sys2Proof.Machine

/-- R2: the channel is in the enable set. -/
def State.enabled (s : State) (c : BitVec 6) : Bool := s.config.channelEnable.getLsbD c.toNat

/-- R2: the threshold of a channel. -/
def State.threshold (s : State) (c : BitVec 6) : BitVec 14 := s.config.thresholds.getD c.toNat 0

/-- R4, step 3: below the threshold, with the overrange flag clear. -/
def State.suppresses (s : State) (x : Sample) : Bool :=
  !x.overrange && s.threshold x.channel ≠ 0 && x.value.toNat < (s.threshold x.channel).toNat

/-- R4, step 4: the record already holds a sample of the channel. -/
def Record.hasChannel (r : Record) (c : BitVec 6) : Bool := r.samples.any fun x => x.channel = c

/-- R5: DBL is set. -/
def Record.double (r : Record) : Record := { r with flags := { r.flags with dbl := true } }

/-- R7: TRUNC is set. -/
def Record.truncate (r : Record) : Record := { r with flags := { r.flags with trunc := true } }

/-- R6: the sample is appended, and OVR set with an overrange sample. -/
def Record.append (x : Sample) (r : Record) : Record :=
  { r with samples := r.samples ++ [x], flags := { r.flags with ovr := r.flags.ovr || x.overrange } }

/-- R4 to R7: one sample arrival through the six steps. -/
def State.filterSample (x : Sample) (s : State) : State :=
  match s.store.window, s.store.capturing with
  | some _, some r =>
    if !s.enabled x.channel then s
    else if s.suppresses x then s.bump .suppressed
    else if r.hasChannel x.channel then
      (s.setStore (s.store.modifyCapturing Record.double)).bump .doubles
    else if s.store.freeEntries = 0 then
      let s' := s.setStore (s.store.modifyCapturing Record.truncate)
      if r.flags.trunc then s' else s'.raise .storeOverrun r.number
    else s.setStore (s.store.modifyCapturing (Record.append x))
  | _, _ => s.bump .straySamples

/-- R1: the capture port takes arrivals in the ACQUIRER role, outside RST, LOADING and HALTED. -/
def State.capturesSamples (s : State) : Bool := !s.pins.rst && s.isAcquirer && !s.unloaded

/-- SAMPLE_ARRIVAL (R1, R4, R203). -/
def execSampleArrival (lp : Word) (s : State) : Host.Outcome State Fault Refusal :=
  .next (if s.capturesSamples then s.filterSample (sampleOfPins lp) else s)

/-- R12: the window expires: the CAPTURING record becomes READY, and its part is offered if its turn is open (R50). -/
def State.expireWindow (s : State) : State :=
  match s.store.window with
  | some _ => (s.setStore s.store.endWindow).offerParts
  | none => s

/-- CAPTURE_WINDOW_EXPIRY (R12). With no window open there is no expiry (log 7). -/
def execCaptureWindowExpiry (s : State) : Host.Outcome State Fault Refusal :=
  .next (if s.pins.rst then s else s.expireWindow)

end Sys2Proof.Machine
end

