-- ==== Sys2Proof/Machine/Clock.lean ====
section
/-! DEFINITION. TICK: the 48-bit counter and the time remaining of every running timer (R190; log 6). -/

namespace Sys2Proof.Machine

/-- One tick of a timer: the time remaining falls by one, and rests at 0 until the expiry is taken (log 5). -/
def tickTimer (t : Option Nat) : Option Nat := t.map (· - 1)

/-- One tick of the turn timer. -/
def TurnTimer.tick : TurnTimer → TurnTimer
  | .stopped => .stopped
  | .running m n r => .running m n (r - 1)
  | .skipping m n => .skipping m n

/-- The time remaining of every timer outside the time base, one tick on. -/
def State.tickTimers (s : State) : State :=
  let s := s.setStart { s.start with
    listenTimer := tickTimer s.start.listenTimer, rollTimer := tickTimer s.start.rollTimer }
  let s := s.setTrig { s.trig with
    normalPulse := tickTimer s.trig.normalPulse, restartPulse := tickTimer s.trig.restartPulse
    detector := tickTimer s.trig.detector }
  let s := s.setStore { s.store with window := tickTimer s.store.window }
  let s := s.setTurn { s.turn with timer := s.turn.timer.tick }
  s.setBuild { s.build with builds := s.build.builds.map fun b => { b with timer := tickTimer b.timer } }

/-- TICK (R190): the counter rises by one, wrapping after 2^48 − 1. While RST is asserted it is held at 0. -/
def execTick (s : State) : Host.Outcome State Fault Refusal :=
  .next (if s.pins.rst then s
    else (s.setTime { s.time with counter := s.time.counter + 1 }).tickTimers)

end Sys2Proof.Machine
end

