-- ==== Sys2Proof/Machine/Changes.lean ====
section
/-! DEFINITION. The changes of the station's state that several commands make: MUTE and the mute attribute, SILENCED,
ROLLCALL, JOINING and the epoch (Chapters 4, 7 and 9). -/

namespace Sys2Proof.Machine

/-- R20, R45, R69, R86, R142, R155: an acquirer enters MUTE: its store is discarded, its pending queue and transmit
queue are emptied, its timers stop and its pulses end. Take list, high take, EVN, roster and the roll-call reason are
kept (R155, R156), the last without a drive; the wait for the epoch ends (log 24). -/
def State.enterMute (s : State) : State :=
  ((((s.setStart { s.start with
        station := .mute, listenTimer := none, rollTimer := none, rollMet := false }).setTrig
      { s.trig with normalPulse := none, restartPulse := none }).setStore Store.empty).setAgree
    { s.agree with pendingTakes := [] }).setTurn Turn.blank |>.setQueue Queue.empty

/-- R142, R180, R186: a collector takes the mute attribute: the transmit queue is emptied; in ROLLCALL a roll timer not
yet started starts, also while restarting (log 15); in JOINING the station enters RUNNING at once. -/
def State.takeMuteAttr (s : State) : State :=
  let start := { s.start with muteAttr := true }
  let start :=
    match s.start.station with
    | .rollcall =>
      if s.start.rollTimer.isNone && !s.start.rollMet then
        { start with rollTimer := some (Config.msTicks s.config.rolltime) }
      else start
    | .joining => { start with station := .running }
    | _ => start
  (s.setStart start).setQueue Queue.empty

/-- R86, R142: the station gives up sending. -/
def State.giveUpSending (s : State) : State := if s.isAcquirer then s.enterMute else s.takeMuteAttr

/-- R84, R67, R69: an acquirer in RUNNING enters SILENCED; its pending TAKE entries and their frames are kept. -/
def State.enterSilenced (s : State) : State :=
  ((((s.setStation .silenced).setStore Store.empty).withdrawFrag).withdrawSkip).setTurn Turn.blank

/-- R179, R180: entry to ROLLCALL. Every block holds the values of R179's table; a CALL is offered, or a collector with
the mute attribute starts its roll timer. -/
def State.enterRollcall (s : State) : State :=
  let s := s.setStart { s.start with
    station := .rollcall, listenTimer := none, rollCallReason := true, rollMet := false
    rollTimer := if s.start.muteAttr then some (Config.msTicks s.config.rolltime) else none }
  let s := (((s.setStore Store.empty).setAgree Agreement.blank).setTurn Turn.blank).setRoster Roster.blank
  let s := (s.setBuild BuildUnit.empty).setTime { s.time with state := .unset }
  s.offerRoll .call

/-- R184: an entry that roll call made PRESENT becomes CALLING. -/
def RosterEntry.toCalling (e : RosterEntry) : RosterEntry :=
  if e.state = .present then { e with state := .calling } else e

/-- R184, R185: entry to JOINING, from LISTENING or from ROLLCALL. A JOIN is offered with the high take at 0; a
collector with the mute attribute passes through to RUNNING. -/
def State.enterJoining (s : State) : State :=
  let s := s.setStart { s.start with
    station := if s.start.muteAttr then .running else .joining
    listenTimer := none, rollTimer := none, rollCallReason := false, rollMet := false }
  let s := ((s.setRoster (s.roster.each RosterEntry.toCalling)).setAgree Agreement.blank).setStore Store.empty
  let s := s.setBuild BuildUnit.empty
  s.offerRoll .join

/-- R183: the epoch clears the mark and the miss count of every PRESENT entry. -/
def RosterEntry.atEpoch (e : RosterEntry) : RosterEntry :=
  if e.state = .present then { e with misses := 0, mark := 0 } else e

/-- R183, R192, R69: the epoch. -/
def State.epoch (s : State) : State :=
  let s := s.setStart { s.start with
    station := .running, rollTimer := none, rollCallReason := false, rollMet := false }
  let s := s.setTime { counter := 0, state := .set }
  let s := s.setAgree { Agreement.blank with evn := if s.isAcquirer then 1 else 0 }
  let s := ((s.setRoster (s.roster.each RosterEntry.atEpoch)).setTurn Turn.blank).setBuild BuildUnit.empty
  s.settle []

end Sys2Proof.Machine
end

