-- ==== Sys2Proof/Machine/Members.lean ====
section
/-! DEFINITION. What a received FRAG, SKIP or ROLL frame does in the roster and the turn unit: learning, marks, parts
heard, misses and silence (Chapters 3 and 4), and the ROLL frames' handling (R75 to R80, R181, R184). -/

namespace Sys2Proof.Machine

/-! ## Learning from traffic (R81) -/

/-- R47, R87: a collector's own entry, which no frame of another station changes (log 37). -/
def State.ownsEntry (s : State) (m : Addr) : Bool := s.isCollector && m = s.pins.address

/-- R81: an ABSENT sender of a part, or subject of a SKIP, becomes a PRESENT acquirer; but not a collector's own
entry (R47, R87, log 37). -/
def State.learn (m : Addr) (n : Nat) (s : State) : State :=
  let e := s.entry m
  if e.state = .absent && !s.ownsEntry m then
    s.setEntry m { e with
      state := .present, role := some .acquirer, misses := 0, mark := max e.mark ((s.entryBelow n).getD 0) }
  else s

/-- R38, R79: what a FRAG part or SKIP naming N shows of the trunk's count, and the implied take. -/
def State.hearEvent (n : Nat) (s : State) : State := (s.raiseHighTake (n - 1)).impliedTake n

/-- R81, R88: the sender of a part, or the subject of a SKIP, is learned, and turns are evaluated again. So within one
reception the turn timer is evaluated here, before the marks move, and once more after them, while the own part is
evaluated only at the end of the reception: R49, R59 and R67 evaluate at every change of a ground, and R147 has the
evaluations follow the marks (DESIGN CHOICE, log 54). -/
def State.hearMember (m : Addr) (n : Nat) (s : State) : State := (s.learn m n).reassess

/-! ## FRAG parts (R55 to R57, R15, R16) -/

/-- R55: the part concerns a member. -/
def State.isMember (s : State) (m : Addr) : Bool := (s.entry m).isMember

/-- R56: the members before m are raised to N, and m itself to the highest entry below N. -/
def State.passImplied (m : Addr) (n : Nat) (s : State) : State :=
  let s' := ((s.order.filter (· < m)).foldl (fun s a => s.raiseMark a n) s)
  s'.raiseMark m ((s.entryBelow n).getD 0)

/-- R57: a final part sets the sender's mark to N and its miss count to 0. -/
def State.finishPart (m : Addr) (n : Nat) (s : State) : State :=
  s.setEntry m { s.entry m with mark := n, misses := 0 }

/-- R57, R59: a non-final part of the watched turn counts as heard, and a timer on it restarts; a SKIP it had offered
is withdrawn. The count stays below 4 (R58, log 17). -/
def State.countPart (m : Addr) (n : Nat) (s : State) : State :=
  if s.turn.watched = some (m, n) then
    let heard := min 3 (s.turn.heard + 1)
    match s.turn.timer with
    | .stopped => s.setTurn { s.turn with heard := heard }
    | .running _ _ _ => s.setTurn { s.turn with heard := heard, timer := .running m n s.turnTicks }
    | .skipping _ _ => s.withdrawSkip.setTurn { s.turn with heard := heard, timer := .running m n s.turnTicks }
  else s

/-- R56, R57: a current part. -/
def State.currentPart (f : FragFrame) (s : State) : State :=
  let n := f.number.toNat
  let s := s.passImplied f.sender n
  if f.last then (s.finishPart f.sender n).reassess else s.reassess.countPart f.sender n

/-- R15, R16: the store takes its own part back. A LOST part changes nothing for want of a record (R18, R52). Where an
edge took its number while it was on the wire and the new record became SENDING by a kept offer, the LOST part carries
LAST for a SENDING record, and R16 frees it (DESIGN CHOICE, log 46). -/
def State.storePart (f : FragFrame) (s : State) : State :=
  let n := f.number.toNat
  match s.record? n with
  | some r =>
    if r.state = .sending then
      if f.last then s.setStore (s.store.remove n)
      else s.setStore (s.store.modify n fun x => { x with partsSent := x.partsSent + 1 })
    else s
  | none => s

/-- R94: a part from a non-member reaches the build unit when the sender's entry is SILENT or CALLING and not a
collector's. Two rows of R94's table match a SILENT or CALLING entry with role COLLECTOR, and the second, which
discards the part, is followed (DESIGN CHOICE, log 51). No row names an ABSENT entry, which after the learning of R81
is the collector's own alone, and its part is not built either (DESIGN CHOICE, log 52). -/
def RosterEntry.heardOutside (e : RosterEntry) : Bool :=
  (e.state = .silent || e.state = .calling) && e.role ≠ some .collector

/-- R55, R94, R147: the owners of a FRAG part, in order; `own` says whether this station sent it. Which parts from
outside the turn order are built is `RosterEntry.heardOutside` (log 51, log 52). -/
def State.handleFrag (own : Bool) (f : FragFrame) (s : State) : State :=
  let n := f.number.toNat
  let m := f.sender
  if !s.tracks then s
  else
    let s := s.hearEvent n
    let stamp := s.takeTime n
    let s := s.hearMember m n
    let member := s.isMember m
    let late : Bool := member && n ≤ s.mark m
    let toBuild : Bool := (member && !late) || (s.entry m).heardOutside
    let s := if !member then s else if late then s.bump .lateFrags else s.currentPart f
    let s := if own then s.storePart f else s
    if toBuild then s.buildFrame n stamp (State.applyPart f) else s

/-! ## SKIPs (R62 to R64, R82 to R84) -/

/-- R19, R64: the station's own record for N is discarded, and LATE_DROPS counts it. -/
def State.dropRecord (n : Nat) (s : State) : State :=
  match s.record? n with
  | some _ => (s.setStore (s.store.remove n)).bump .lateDrops
  | none => s

/-- R63, R82: the subject's mark becomes N and its miss count rises by one; at MISSLIM it is SILENT. -/
def State.missTurn (m : Addr) (n : Nat) (s : State) : State :=
  let e := s.entry m
  s.setEntry m { e with
    mark := n, misses := e.misses + 1
    state := if s.config.misslim ≤ e.misses + 1 then .silent else e.state }

/-- R63: any SKIP this station has offered for the subject is withdrawn. Where the SKIP received names an event below
the offered one's, which stays the subject's next event, R59 has no row for the timer: it is STOPPED and evaluated
again, with the parts heard kept (DESIGN CHOICE, log 43). -/
def State.withdrawSkipFor (m : Addr) (s : State) : State :=
  match s.turn.timer with
  | .skipping x _ => if x = m then s.stopTimer else s
  | _ => s

/-- R84: the station's own entry became SILENT. -/
def State.ownSilence (n : Nat) (s : State) : State :=
  let s := s.raise .silenced n
  let s := if s.isAcquirer && s.start.station = .running then s.enterSilenced else s
  s.offerRoll .join

/-- R63, R64, R82, R84: a SKIP taking effect. -/
def State.skipTurn (m : Addr) (n : Nat) (s : State) : State :=
  let s := (s.missTurn m n).withdrawSkipFor m
  if m = s.pins.address then
    let s := s.dropRecord n
    if (s.entry m).state = .silent then s.ownSilence n else s
  else s

/-- R62: the station's own SKIP received back is counted, and the timer is STOPPED. -/
def State.ownSkip (s : State) : State :=
  match s.turn.timer with
  | .skipping _ _ => (s.bump .skipsSent).setTurn { s.turn with timer := .stopped }
  | _ => s.bump .skipsSent

/-- R62, R63, R94, R147: the owners of a SKIP, in order. -/
def State.handleSkip (own : Bool) (f : SkipFrame) (s : State) : State :=
  let n := f.number.toNat
  let m := f.subject
  if !s.tracks then s
  else
    let s := s.hearEvent n
    let stamp := s.takeTime n
    let s := s.hearMember m n
    let s := if own then s.ownSkip else s
    if s.isMember m && s.mark m < n then
      (s.skipTurn m n).reassess.buildFrame n stamp (State.applySkip f)
    else s

/-! ## ROLL frames (R75 to R80) -/

/-- R71: role and count are stored from the frame. -/
def RosterEntry.withRoll (f : RollFrame) (e : RosterEntry) : RosterEntry :=
  { e with role := some f.role, count := f.count }

/-- The sender's entry changed by one function. -/
def State.modifyEntry (a : Addr) (f : RosterEntry → RosterEntry) (s : State) : State := s.setEntry a (f (s.entry a))

/-- A ROLL of another station changes its sender's entry, but not a collector's own (R47, R87, log 37). -/
def State.hearRoll (a : Addr) (f : RosterEntry → RosterEntry) (s : State) : State :=
  if s.ownsEntry a then s else s.modifyEntry a f

/-- R75, R181: a differing signature makes the entry MISMATCHED. -/
def RosterEntry.mismatched (f : RollFrame) (e : RosterEntry) : RosterEntry :=
  { e.withRoll f with state := .mismatched }

/-- R75, R181: a differing signature marks the sender; the fault is raised where its entry was not MISMATCHED. -/
def State.mismatch (f : RollFrame) (s : State) : State :=
  let s' := s.hearRoll f.sender (RosterEntry.mismatched f)
  if (s.entry f.sender).state = .mismatched then s' else s'.raise .signatureMismatch f.sender.val

/-- R80: a RUNNING station offers an ECHO when its ROLL place is empty. -/
def State.offerEcho (s : State) : State :=
  if s.start.station = .running && s.frames.queue.roll.isNone then s.offerRoll .echo else s

/-- R76: a CALL from another station. -/
def RosterEntry.called (f : RollFrame) (e : RosterEntry) : RosterEntry :=
  match e.state with
  | .silent => e.withRoll f
  | .present => { e.withRoll f with state := .calling, mark := 0, misses := 0 }
  | .absent | .calling | .mismatched => { e.withRoll f with state := .calling, misses := 0 }

/-- R77: the mark that a join point stands for: J − 1, or the last number for a field of 0. -/
def joinMark (field : BitVec 32) : Nat := if field = 0 then maxEvent else field.toNat - 1

/-- R77, R78: a JOIN makes the entry PRESENT. -/
def RosterEntry.joined (f : RollFrame) (e : RosterEntry) : RosterEntry :=
  { e.withRoll f with state := .present, misses := 0, mark := max e.mark (joinMark f.field) }

/-- R80: an ECHO updates an entry that is PRESENT. -/
def RosterEntry.echoed (f : RollFrame) (e : RosterEntry) : RosterEntry :=
  if e.state = .present then e.withRoll f else e

/-- R28, R78: EVN at the own JOIN. -/
def State.joinEvn (field : BitVec 32) (s : State) : State :=
  if !s.isAcquirer || s.agree.exhausted then s
  else if field = 0 then s.becomeExhausted maxEvent
  else s.setAgree { s.agree with evn := max s.agree.evn field.toNat }

/-- R78: the station's own JOIN received back. -/
def State.ownJoin (f : RollFrame) (s : State) : State :=
  let s' := s.modifyEntry f.sender (RosterEntry.joined f)
  if s.start.station = .joining || s.start.station = .silenced then
    (s'.setStation .running).joinEvn f.field
  else s'

/-- R75 to R80: a ROLL frame of another station. -/
def State.otherRoll (f : RollFrame) (s : State) : State :=
  if f.signature ≠ s.config.signature then
    let s := s.mismatch f
    if f.mode = .call then s.offerEcho else s
  else
    match f.mode with
    | .call => (s.hearRoll f.sender (RosterEntry.called f)).offerEcho
    | .join => (s.raiseHighTake (joinMark f.field)).hearRoll f.sender (RosterEntry.joined f)
    | .echo => ((s.raiseHighTake (joinMark f.field)).hearRoll f.sender (RosterEntry.echoed f)).withdrawEcho

/-- R78, R80: a ROLL frame this station sent. -/
def State.ownRoll (f : RollFrame) (s : State) : State :=
  match f.mode with
  | .call => s
  | .join => s.ownJoin f
  | .echo => s.modifyEntry f.sender (RosterEntry.echoed f)

/-- R181: a CALL in ROLLCALL makes the caller PRESENT with mark 0. -/
def RosterEntry.rollCalled (f : RollFrame) (e : RosterEntry) : RosterEntry :=
  { e.withRoll f with state := .present, mark := 0, misses := 0 }

/-- R180, R181: the own CALL received back enters the station itself and starts the roll timer. -/
def State.ownCall (f : RollFrame) (s : State) : State :=
  (s.modifyEntry f.sender (RosterEntry.rollCalled f)).setStart
    { s.start with rollTimer := some (Config.msTicks s.config.rolltime) }

/-- R181, R184: a ROLL frame in ROLLCALL. An ECHO with a differing signature has marked its sender before the station
joins (R184), and marks it once. -/
def State.rollcallRoll (own : Bool) (f : RollFrame) (s : State) : State :=
  if own then
    if f.mode = .call then s.ownCall f else s
  else
    let differs : Bool := f.signature ≠ s.config.signature
    let s := if differs then s.mismatch f else s
    match f.mode with
    | .call => if differs then s else s.hearRoll f.sender (RosterEntry.rollCalled f)
    | .join => s
    | .echo => if differs then s.enterJoining else s.enterJoining.otherRoll f

/-- R147: the owners of a ROLL frame. -/
def State.handleRoll (own : Bool) (f : RollFrame) (s : State) : State :=
  if s.start.station = .rollcall then s.rollcallRoll own f
  else if !s.tracks then s
  else if own then s.ownRoll f
  else s.otherRoll f

end Sys2Proof.Machine
end

