-- ==== Sys2Proof/Machine/Reception.lean ====
section
/-! DEFINITION. DAT: the idle gap, contention, abandoned and bad frames, and the reception of the four kinds
(Chapter 7): DAT_IDLE, CONTENTION_START, LOST_CONTENTION, FRAME_ABANDONED, BAD_FRAME, TAKE_RECEPTION, FRAG_RECEPTION,
SKIP_RECEPTION and ROLL_RECEPTION. -/

namespace Sys2Proof.Machine

/-! ## DAT between frames -/

/-- R133: DAT is idle. A station that has a frame on the wire drives DAT, so it reads no idle gap then. Inside another
station's frame DAT cannot stay recessive that long (R133): the command then ends that frame, uncounted and handed to
no owner, and DAT is idle (DESIGN CHOICE, log 48). -/
def State.idleDat (s : State) : State :=
  if s.frames.dat = .stopped || s.frames.queue.onWire.isSome then s
  else s.setFrames { s.frames with dat := .idle }

/-- DAT_IDLE (R133). -/
def execDatIdle (s : State) : Host.Outcome State Fault Refusal :=
  .next (if s.pins.rst then s else s.idleDat)

/-- R137: the station takes part in the contention with its selected frame. -/
def State.takePart (s : State) : State :=
  s.setFrames { s.frames with queue := s.frames.queue.driveSelected, dat := .inFrame }

/-- R133, R137: the first marker. A station in a sending state with a pending frame takes part, also before its own
reading of the gap has ended; another takes the marker as a frame's start only when DAT was idle just before. -/
def State.startFrame (s : State) : State :=
  match s.frames.dat with
  | .idle =>
    if s.sending && !s.frames.queue.isEmpty then s.takePart else s.setFrames { s.frames with dat := .inFrame }
  | .busy => if s.sending && !s.frames.queue.isEmpty then s.takePart else s
  | .stopped | .inFrame | .abandoned => s

/-- CONTENTION_START (R137). -/
def execContentionStart (s : State) : Host.Outcome State Fault Refusal :=
  .next (if s.pins.rst then s else s.startFrame)

/-- R136: the frame on the wire leaves it unsent; a kept withdrawal or offer takes effect, and a pending JOIN or ECHO
is refreshed (R74). -/
def State.leaveWire (s : State) : State := (s.setQueue s.frames.queue.leaveUnsent).refreshRoll

/-- LOST_CONTENTION (R138): the frame stays pending, and nothing is counted. With no frame of this station on the wire
there is none to lose (log 7). -/
def execLostContention (s : State) : Host.Outcome State Fault Refusal :=
  .next (if s.pins.rst || s.frames.queue.onWire.isNone then s else s.leaveWire)

/-- R142: the eighth consecutive failure. -/
def State.failLimit (f : Frame) (s : State) : State :=
  ((s.raise .trunkDrive (frameField f).toNat).giveUpSending).settle s.order

/-- R140, R141: the station abandons its frame f. -/
def State.abandon (f : Frame) (s : State) : State :=
  let failures := min Config.failureLimit (s.frames.failures + 1)
  let s' := s.leaveWire
  let s' := (s'.setFrames { s'.frames with failures := failures, dat := .abandoned }).bump .txRetries
  if failures = Config.failureLimit then s'.failLimit f else s'

/-- FRAME_ABANDONED (R141, R142). With no frame of this station on the wire there is none to abandon (log 7). -/
def execFrameAbandoned (s : State) : Host.Outcome State Fault Refusal :=
  .next (if s.pins.rst then s else
    match s.frames.queue.onWire with
    | some f => s.abandon f
    | none => s)

/-! ## The end of a frame -/

/-- R133, R144: a frame that ends is taken when it began after an idle DAT. -/
def State.takesFrame (s : State) : Bool :=
  !s.pins.rst &&
    match s.frames.dat with
    | .idle | .inFrame | .abandoned => true
    | .stopped | .busy => false

/-- A frame ended that this station did not send: what it had on the wire has left it unsent. -/
def State.endOther (s : State) : State :=
  let s' := s.leaveWire
  s'.setFrames { s'.frames with dat := .busy }

/-- R139: the station's own frame is sent. -/
def State.endOwn (s : State) : State :=
  s.setFrames { queue := s.frames.queue.leaveSent, failures := 0, dat := .busy }

/-- R141, R145: a frame that fails the checks is counted, unless it is the rest of one this station abandoned. So is a
rest that another station at the same address drove to its end, and that fails the checks (DESIGN CHOICE, log 50). -/
def State.discardFrame (c : Counter) (s : State) : State :=
  if s.frames.dat = .abandoned then s.endOther else s.endOther.bump c

/-- R147: the frame is this station's own when the station sent it (R139). -/
def State.isOwn (f : Frame) (s : State) : Bool := s.frames.queue.onWire = some f

/-- R86: the states in which a clash is detected, and not by a collector carrying the mute attribute. -/
def State.detectsClash (s : State) : Bool :=
  match s.start.station with
  | .listening | .rollcall | .joining | .running | .silenced => !(s.isCollector && s.start.muteAttr)
  | .loading | .halted | .mute => false

/-- R86: an address clash: a frame of another station carries this station's address. -/
def State.clashCheck (own : Bool) (f : Frame) (s : State) : State :=
  if !own && frameSender f = s.pins.address && s.detectsClash then
    (s.raise .addressClash (frameField f).toNat).giveUpSending
  else s

/-- R178: a frame heard in LISTENING moves the station on before its owners see it. -/
def State.leaveListening (f : Frame) (s : State) : State :=
  if s.start.station = .listening then
    match f with
    | .roll r => if r.mode = .call then s.enterRollcall else s.enterJoining
    | .take _ | .frag _ | .skip _ => s.enterJoining
  else s

/-- R147: a well-formed frame goes to its owners. -/
def State.giveOwners (own : Bool) (f : Frame) (s : State) : State :=
  match f with
  | .take t => if s.tracks then s.handleTake t.number.toNat t.time else s
  | .frag g => s.handleFrag own g
  | .skip k => s.handleSkip own k
  | .roll r => s.handleRoll own r

/-- R86, R147, R163, R178, R88: the clash check; then, but while restarting, leaving LISTENING, the owners, and what
follows from them. -/
def State.handleFrame (own : Bool) (f : Frame) (s : State) : State :=
  let s' := s.clashCheck own f
  if s.trig.restarting then s' else ((s'.leaveListening f).giveOwners own f).settle s.order

/-- R139, R144 to R147: a frame with these fields ends on DAT. A field value that R146 calls invalid makes it malformed.
-/
def State.receive (f : Frame) (s : State) : State :=
  if !s.takesFrame then s
  else if !frameValid f then s.discardFrame .malformed
  else
    let own := s.isOwn f
    (if own then s.endOwn else s.endOther).handleFrame own f

/-! ## The commands -/

/-- R145: a frame of these bytes ends on DAT. Bytes that pass every check are received as the frame they spell. -/
def State.receiveBytes (bytes : List Byte) (s : State) : State :=
  if !s.takesFrame then s
  else
    match checkFrame bytes with
    | .bad => s.discardFrame .badFrames
    | .malformed => s.discardFrame .malformed
    | .good f => s.receive f

/-- BAD_FRAME (R145, R146). -/
def execBadFrame (bytes : List Byte) (s : State) : Host.Outcome State Fault Refusal := .next (s.receiveBytes bytes)

/-- TAKE_RECEPTION (R32). -/
def execTakeReception (f : TakeFrame) (s : State) : Host.Outcome State Fault Refusal := .next (s.receive (.take f))

/-- FRAG_RECEPTION (R55). -/
def execFragReception (f : FragFrame) (s : State) : Host.Outcome State Fault Refusal := .next (s.receive (.frag f))

/-- SKIP_RECEPTION (R63). -/
def execSkipReception (f : SkipFrame) (s : State) : Host.Outcome State Fault Refusal := .next (s.receive (.skip f))

/-- ROLL_RECEPTION (R75). -/
def execRollReception (f : RollFrame) (s : State) : Host.Outcome State Fault Refusal := .next (s.receive (.roll f))

end Sys2Proof.Machine
end

