-- ==== Sys2Proof/Machine/StartUp.lean ====
section
/-! DEFINITION. Reset, the image and roll call (Chapter 9): RST_ASSERT, RST_RELEASE, IMAGE_READ_COMPLETE,
LISTEN_TIMER_EXPIRY, ROLL_TIMER_EXPIRY and HLD_FALL. -/

namespace Sys2Proof.Machine

/-! ## RST (R169) -/

/-- R206: at RST the inspection port is held, and a transaction in progress abandoned; ISCS keeps its level. -/
def InspectionLine.hold (line : InspectionLine) : InspectionLine := .held line.isLow

/-- R206: at the release of RST a port whose ISCS is high is free; one whose ISCS is low waits for it. -/
def InspectionLine.release : InspectionLine → InspectionLine
  | .held false => .released
  | .held true => .held true
  | .released => .released
  | .selected bits falls => .selected bits falls

/-- RST_ASSERT (R169): every block takes its RST value. The waiting commands are outside the part, and the index of
free values goes on. -/
def execRstAssert (s : State) : Host.Outcome State Fault Refusal :=
  .next ({ State.reset with freeIndex := s.freeIndex, pending := s.pending }.setLine s.insp.line.hold)

/-- RST_RELEASE (R169): the straps are sampled, and the first read of the image begins in LOADING. -/
def execRstRelease (straps : Addr) (roleStrap : Role) (s : State) : Host.Outcome State Fault Refusal :=
  .next (if s.pins.rst then
      ((s.setPins { rst := false, address := straps, role := roleStrap }).setStart
        { s.start with station := .loading, imagePort := .firstRead }).setLine s.insp.line.release
    else s)

/-! ## The image (R171 to R175, R205) -/

/-- A byte of the image. -/
def imageByte (img : List Byte) (i : Nat) : Nat := (img.getD i 0).toNat

/-- R205: two bytes, most significant first. -/
def imagePair (img : List Byte) (i : Nat) : Nat := imageByte img i * 256 + imageByte img (i + 1)

/-- R171: the check word over bytes 0 to 157 agrees with bytes 158 and 159. -/
def imageCheck (img : List Byte) : Bool := (img.drop 158).take 2 = crcBytes (img.take 158)

/-- R172: every trunk-wide field is in range. -/
def imageInRange (img : List Byte) : Bool :=
  imagePair img 0 ≠ 0 && imagePair img 0 ≤ 1023 && imageByte img 2 ≠ 0
    && imageByte img 3 ≠ 0 && imageByte img 3 ≤ 8 && imageByte img 4 ≠ 0 && imageByte img 4 ≤ 7
    && imageByte img 6 ≠ 0 && imageByte img 7 ≠ 0

/-- R205: TURN in µs as the image holds it. -/
def imageTurn (img : List Byte) : Nat := 10 * imageByte img 2

/-- R173: TURN must be longer than CAPWIN + 100 µs. -/
def turnTooShort (img : List Byte) : Bool := imageTurn img ≤ imagePair img 0 + 100

/-- R173: TURN as used: the lowest multiple of 10 µs longer than CAPWIN + 100 µs where it was not longer. -/
def adjustedTurn (img : List Byte) : Nat :=
  if turnTooShort img then ((imagePair img 0 + 100) / 10 + 1) * 10 else imageTurn img

/-- R152, R153: a personality code; 11 is prohibited and taken as LISTEN. -/
def personalityOf (code : Nat) : Personality :=
  match code with
  | 1 => .sink
  | 2 => .sinkTerm
  | _ => .listen

/-- R205: the code of a line in byte 8: TRG bits 5–4, HLD bits 3–2, DAT bits 1–0. -/
def lineCode (img : List Byte) (low : Nat) : Nat := imageByte img 8 / 2 ^ low % 4

/-- R205: bit b of byte 10 + k enables channel 8k + b. -/
def imageEnables (img : List Byte) : BitVec 64 :=
  (List.range 64).foldl (fun v c =>
    if (imageByte img (10 + c / 8)).testBit (c % 8) then v ||| BitVec.twoPow 64 c else v) 0

/-- R205: the threshold of channel c, bits 13–0 of its pair. -/
def imageThreshold (img : List Byte) (c : Nat) : BitVec 14 := BitVec.ofNat 14 (imagePair img (18 + 2 * c))

/-- R175: what a good image holds, TURN adjusted (R173) and the signature over the eight bytes as read (R174). -/
def loadImage (img : List Byte) : Image :=
  { capwin := imagePair img 0, turn := adjustedTurn img, lead := imageByte img 3, misslim := imageByte img 4
    skewlim := imageByte img 5, rolltime := imageByte img 6, listen := imageByte img 7
    signature := crc16 (img.take 8)
    trg := personalityOf (lineCode img 4), hld := personalityOf (lineCode img 2)
    dat := personalityOf (lineCode img 0)
    triggerEnable := (imageByte img 9).testBit 0, channelEnable := imageEnables img
    thresholds := (List.range 64).map (imageThreshold img) }

/-- R153: a line whose code is 11 raises LINE_PROHIBITED. -/
def State.checkLine (img : List Byte) (low : Nat) (s : State) : State :=
  if lineCode img low = 3 then s.raise .lineProhibited 0 else s

/-- R175, step 8, R177: the station leaves LOADING. -/
def State.leaveLoading (s : State) : State :=
  if s.isAcquirer && s.config.dat = .listen then
    s.setStart { s.start with station := .mute, imagePort := .idle }
  else
    s.setStart { s.start with
      station := .listening, imagePort := .idle
      muteAttr := s.isCollector && s.config.dat = .listen
      listenTimer := some (Config.msTicks s.config.listen) }

/-- R175: a good image completes loading, its effects in the order given. -/
def State.loadGood (img : List Byte) (trg : Bool) (s : State) : State :=
  let s := if turnTooShort img then s.raise .imageAdjusted 0 else s
  let s := s.setConfig (loadImage img)
  let s := ((s.checkLine img 4).checkLine img 2).checkLine img 0
  let s := s.setTrig { s.trig with level := trg, detector := if trg then some Config.detectorTicks else none }
  let s := s.setFrames { s.frames with dat := .busy }
  s.leaveLoading

/-- R171, R172, R176: the station is HALTED. -/
def State.halt (s : State) : State :=
  (s.setStart { s.start with station := .halted, imagePort := .idle }).raise .imageBad 0

/-- R171: the completion of a read. -/
def State.completeRead (img : List Byte) (trg : Bool) (s : State) : State :=
  let full := s.setStart { s.start with imageBuffer := img }
  if imageCheck img then
    if imageInRange img then full.loadGood img trg else full.halt
  else if s.start.imagePort = .firstRead then
    s.setStart { s.start with imageBuffer := [], imagePort := .secondRead }
  else full.halt

/-- IMAGE_READ_COMPLETE (R171). With no read under way there is no completion (log 7). -/
def execImageReadComplete (bytes : List Byte) (trg : Bool) (s : State) : Host.Outcome State Fault Refusal :=
  .next (if s.pins.rst || s.start.imagePort = .idle then s else s.completeRead bytes trg)

/-! ## Listening and roll call -/

/-- LISTEN_TIMER_EXPIRY (R178): nothing was heard: ROLLCALL. -/
def execListenTimerExpiry (s : State) : Host.Outcome State Fault Refusal :=
  .next (if s.pins.rst || s.start.station ≠ .listening || s.start.listenTimer.isNone then s else s.enterRollcall)

/-- R182: the roll conditions are met and the roll-call reason falls; with HLD read released at that moment this is
the epoch. -/
def State.meetRoll (othersHold : Bool) (s : State) : State :=
  if s.readsHld othersHold then
    s.setStart { s.start with rollTimer := none, rollCallReason := false, rollMet := true }
  else s.epoch

/-- ROLL_TIMER_EXPIRY (R182). -/
def execRollTimerExpiry (othersHold : Bool) (s : State) : Host.Outcome State Fault Refusal :=
  .next (if s.pins.rst || s.start.station ≠ .rollcall || s.start.rollTimer.isNone then s else s.meetRoll othersHold)

/-- HLD_FALL (R158, R182): the epoch for a station in ROLLCALL whose roll conditions are met; else nothing. -/
def execHldFall (s : State) : Host.Outcome State Fault Refusal :=
  .next (if !s.pins.rst && s.start.station = .rollcall && s.start.rollMet then s.epoch else s)

end Sys2Proof.Machine
end

