-- ==== Sys2Proof/Machine/Triggers.lean ====
section
/-! DEFINITION. TRG: edges, local requests, the two pulses, the restart detector and the trunk restart
(Chapters 2 and 8): TRIGGER_EDGE, LOCAL_TRIGGER_REQUEST, NORMAL_PULSE_EXPIRY, RESTART_TRUNK, RESTART_PULSE_EXPIRY,
TRUNK_RESTART_DETECTION and TRG_RELEASE. -/

namespace Sys2Proof.Machine

/-! ## Trigger edges -/

/-- R24: the agreement unit accepts the edge, counts it as held, or ignores it. -/
def State.decideEdge (othersHold : Bool) (s : State) : State :=
  if s.isAcquirer && s.start.station = .running then
    if s.accepts othersHold then s.acceptEdge else s.bump .heldEdges
  else s

/-- R160, R162: the edge detector takes the rise, the restart detector starts, and the edge is decided. -/
def State.takeEdge (othersHold : Bool) (s : State) : State :=
  (s.setTrig { s.trig with level := true, detector := some Config.detectorTicks }).decideEdge othersHold

/-- TRIGGER_EDGE (R24, R160, R162). TRG is not read under RST, in LOADING and in HALTED (R151), and an assertion
already taken is no edge (R160). -/
def execTriggerEdge (othersHold : Bool) (s : State) : Host.Outcome State Fault Refusal :=
  .next (if s.pins.rst || s.unloaded || s.trig.level then s else s.takeEdge othersHold)

/-! ## Local requests and pulses -/

/-- R26: one of the pulses of the station's own runs. -/
def State.pulseRuns (s : State) : Bool := s.trig.normalPulse.isSome || s.trig.restartPulse.isSome

/-- R26: the conditions from the top of the table down. -/
def State.requestTrigger (othersHold : Bool) (s : State) : State :=
  if s.start.station ≠ .running || s.trig.restarting then s.bump .refusedTriggers
  else if s.pulseRuns then s
  else if !s.config.triggerEnable || s.config.trg = .listen || s.agree.exhausted || s.readsHld othersHold then
    s.bump .refusedTriggers
  else s.setTrig { s.trig with normalPulse := some Config.normalPulseTicks }

/-- LOCAL_TRIGGER_REQUEST (R26). A collector ignores it, and so does a HALTED station (R176). -/
def execLocalTriggerRequest (othersHold : Bool) (s : State) : Host.Outcome State Fault Refusal :=
  .next (if s.pins.rst || s.isCollector || s.start.station = .halted then s else s.requestTrigger othersHold)

/-- NORMAL_PULSE_EXPIRY (R27): the pulse ends and with it the drive. -/
def execNormalPulseExpiry (s : State) : Host.Outcome State Fault Refusal :=
  .next (if s.pins.rst then s else s.setTrig { s.trig with normalPulse := none })

/-- RESTART_PULSE_EXPIRY (R166): the pulse ends and with it the drive. -/
def execRestartPulseExpiry (s : State) : Host.Outcome State Fault Refusal :=
  .next (if s.pins.rst then s else s.setTrig { s.trig with restartPulse := none })

/-- R165: RESTART TRUNK, the conditions from the top of the table down. -/
def State.restartTrunk (s : State) : State :=
  match s.start.station with
  | .loading | .halted | .listening | .mute => s.setTrig { s.trig with outcome := .refused }
  | .rollcall | .joining | .running | .silenced =>
    if s.config.trg = .listen then s.setTrig { s.trig with outcome := .refused }
    else if s.trig.restartPulse.isSome then s.setTrig { s.trig with outcome := .driven }
    else s.setTrig { s.trig with
      outcome := .driven, normalPulse := none, restartPulse := some Config.restartPulseTicks }

/-- RESTART_TRUNK (R165), taken at the rise of ISCS. Under RST the inspection port is held (R206). -/
def execRestartTrunk (s : State) : Host.Outcome State Fault Refusal :=
  .next (if s.pins.rst then s else s.restartTrunk.setLine .released)

/-! ## Trunk restart -/

/-- R124: the delivery port at the detection: a record in progress is replaced by the abort word. -/
def State.abortRecord (s : State) : State :=
  match s.port.state with
  | .record cursor _ => s.offerWord (.abort cursor) (abortWord cursor)
  | _ => s

/-- R149: at the detection a frame in progress is dropped, and the receive path waits for an idle DAT; a DAT that is
idle stays so (log 12). -/
def DatState.atRestart : DatState → DatState
  | .stopped => .stopped
  | .idle => .idle
  | .busy | .inFrame | .abandoned => .busy

/-- R163: the detection of a trunk restart: each block takes its trunk-restart values. -/
def State.detectRestart (s : State) : State :=
  let s := s.setTrig { s.trig with detector := none, restarting := true, normalPulse := none }
  let s := s.setStart { s.start with
    listenTimer := none, rollTimer := none, rollCallReason := false, rollMet := false }
  let s := (((s.setStore Store.empty).setAgree Agreement.blank).setTurn Turn.blank).setRoster Roster.blank
  let s := s.setFrames { queue := Queue.empty, failures := 0, dat := s.frames.dat.atRestart }
  ((s.setBuild BuildUnit.empty).setTime { s.time with state := .unset }).abortRecord

/-- TRUNK_RESTART_DETECTION (R162, R163): the detector's timer, while it runs, runs out. -/
def execTrunkRestartDetection (s : State) : Host.Outcome State Fault Refusal :=
  .next (if s.pins.rst || s.trig.detector.isNone then s else s.detectRestart)

/-- R164, R187: the release ends a restarting span: ROLLCALL, or MUTE kept. -/
def State.endRestart (s : State) : State :=
  match s.start.station with
  | .listening | .rollcall | .joining | .running | .silenced => s.enterRollcall
  | .loading | .halted | .mute => s

/-- R162, R164: TRG is read released. -/
def State.releaseTrg (s : State) : State :=
  let s' := s.setTrig { s.trig with level := false, detector := none, restarting := false }
  if s.trig.restarting then s'.endRestart else s'

/-- TRG_RELEASE (R162, R164). While the station itself pulls TRG the level it reads is asserted (Chapter 8), so no
release is read then (log 8). -/
def execTrgRelease (s : State) : Host.Outcome State Fault Refusal :=
  .next (if s.pins.rst || s.unloaded || s.drivesTrg then s else s.releaseTrg)

end Sys2Proof.Machine
end

