-- ==== Sys2Proof/Machine/Window.lean ====
section
/-! DEFINITION. The inspection port (Chapter 11): the words of the window (R208, R213), the reads of the lead words
(R207), the commands CLEAR COUNTERS and ACK FAULT, and writes that are no command (R206). -/

namespace Sys2Proof.Machine

/-! ## Codes (R208) -/

def StationState.code : StationState → Nat
  | .loading => 0 | .halted => 1 | .listening => 2 | .rollcall => 3
  | .joining => 4 | .running => 5 | .silenced => 6 | .mute => 7

def RestartOutcome.code : RestartOutcome → Nat
  | .none => 0 | .driven => 1 | .refused => 2

def TimeState.code : TimeState → Nat
  | .unset => 0 | .set => 1

def RecordState.code : RecordState → Nat
  | .capturing => 0 | .ready => 1 | .sending => 2

def BuildState.code : BuildState → Nat
  | .opened => 0 | .closed => 1 | .delivering => 2

def EntryState.code : EntryState → Nat
  | .absent => 0 | .calling => 1 | .present => 2 | .silent => 3 | .mismatched => 4

/-! ## The words (R208, R213) -/

/-- STATUS. The mute attribute's bit reads 0 in an acquirer. -/
def State.statusWord (s : State) : Word :=
  packWord [(0, 3, s.start.station.code), (3, 1, roleCode s.pins.role), (4, 4, s.pins.address.val),
    (8, 1, s.time.state.code), (9, 1, (s.isCollector && s.start.muteAttr).toNat),
    (10, 2, s.trig.outcome.code), (12, 1, s.trig.restarting.toNat), (13, 1, s.faultPin.toNat)]

/-- R23, R208: a collector's store reads as an empty store. -/
def State.shownStore (s : State) : Store := if s.isCollector then Store.empty else s.store

/-- STORE (R23): the head is the record with the lowest number (R10). -/
def State.storeWord (s : State) : Word :=
  let st := s.shownStore
  let v := s.setStore st
  packWord [(0, 6, st.records.length), (6, 11, st.freeEntries),
    (17, 2, (st.head?.map fun r => r.state.code).getD 0),
    (19, 1, st.capturing.isSome.toNat), (20, 1, (HoldReason.windowOpen.stands v).toNat),
    (21, 1, (HoldReason.descriptorsLow.stands v).toNat), (22, 1, (HoldReason.entriesLow.stands v).toNat)]

/-- STORE_HEAD's copy: the head record's number, 0 with none. -/
def State.storeHead (s : State) : Word := BitVec.ofNat 32 ((s.shownStore.head?.map (·.number)).getD 0)

/-- TAKES (R46). -/
def State.takesWord (s : State) : Word :=
  packWord [(0, 7, s.agree.takeList.length), (7, 3, s.agree.pendingTakes.length),
    (10, 1, (HoldReason.pendingFull.stands s).toNat), (11, 1, (HoldReason.takeListFull.stands s).toNat),
    (12, 1, (HoldReason.runExhausted.stands s).toNat)]

/-- TAKES_HEAD's copy: the head entry's number, 0 with none. -/
def State.takesHead (s : State) : Word := BitVec.ofNat 32 ((s.agree.takeList.head?.map (·.number)).getD 0)

/-- R113, R208: an acquirer's build table reads as empty. -/
def State.shownBuild (s : State) : BuildUnit := if s.isAcquirer then BuildUnit.empty else s.build

/-- BUILDS (R113). -/
def State.buildsWord (s : State) : Word :=
  let u := s.shownBuild
  let v := s.setBuild u
  packWord [(0, 4, u.builds.length), (4, 13, u.freeEntries),
    (17, 2, (u.builds.head?.map fun b => b.state.code).getD 0),
    (19, 1, (HoldReason.buildsHigh.stands v).toNat), (20, 1, (HoldReason.memoryLow.stands v).toNat)]

/-- BUILDS_HEAD's copy: the head build's number, 0 with none. -/
def State.buildsHead (s : State) : Word := BitVec.ofNat 32 ((s.shownBuild.builds.head?.map (·.number)).getD 0)

/-- FAULTS (R213). -/
def State.faultsWord (s : State) : Word :=
  let r := s.insp.faults
  packWord [(0, 11, r.flags.toNat), (12, 4, (r.first.map fun f => f.code.number).getD 0), (16, 8, r.further)]

/-- FAULT_CONTEXT's copy. -/
def State.faultContext (s : State) : Word := BitVec.ofNat 32 ((s.insp.faults.first.map (·.context)).getD 0)

/-- FAULT_TIME_LO's copy. -/
def State.faultTimeLo (s : State) : Word := BitVec.ofNat 32 ((s.insp.faults.first.map fun f => f.time.toNat).getD 0)

/-- The upper 16 bits of a time with a time state in bit 31 (TIME_HI, FAULT_TIME_HI). -/
def timeHigh (t : Time) (x : TimeState) : Word := packWord [(0, 16, t.toNat / 2 ^ 32), (31, 1, x.code)]

/-- FAULT_TIME_HI's copy. -/
def State.faultTimeHi (s : State) : Word := (s.insp.faults.first.map fun f => timeHigh f.time f.state).getD 0

/-- TIME_LO (R198). -/
def State.timeLoWord (s : State) : Word := BitVec.ofNat 32 s.time.counter.toNat

/-- A roster word (R90). The role reads 0 while ABSENT. -/
def State.rosterWord (s : State) (a : Addr) : Word :=
  let e := s.entry a
  packWord [(0, 3, e.state.code), (3, 1, if e.role = some .collector then 1 else 0), (4, 7, e.count.toNat),
    (11, 3, e.misses)]

/-- A counter word (R209). -/
def State.counterWord (s : State) (i : Nat) : Word :=
  if h : i < 18 then BitVec.setWidth 32 s.insp.counters[i] else 0

/-- R206, R208: the word that a read of an address takes. An address that holds no word, a command's included,
reads 0. -/
def State.windowWord (s : State) (address : BitVec 7) : Word :=
  let a := address.toNat
  match a with
  | 0x00 => s.statusWord
  | 0x01 => s.storeWord
  | 0x02 => s.insp.ext.storeHead
  | 0x03 => s.takesWord
  | 0x04 => s.insp.ext.takesHead
  | 0x05 => s.insp.ext.takesHigh
  | 0x06 => s.insp.ext.takesEvn
  | 0x07 => s.buildsWord
  | 0x08 => s.insp.ext.buildsHead
  | 0x09 => s.insp.ext.buildsLast
  | 0x0A => s.faultsWord
  | 0x0B => s.insp.ext.faultContext
  | 0x0C => s.insp.ext.faultTimeLo
  | 0x0D => s.insp.ext.faultTimeHi
  | 0x0E => s.timeLoWord
  | 0x0F => s.insp.ext.timeHi
  | _ =>
    if a < 0x20 then s.rosterWord (Fin.ofNat 16 (a - 0x10))
    else if a = 0x20 then s.insp.ext.rosterMark
    else if a ≤ 0x32 then s.counterWord (a - 0x21)
    else 0

/-! ## Reads of the lead words (R207) -/

/-- A read takes a word, and copies into the extension words. -/
def State.takeRead (w : Word) (ext : Extensions) (s : State) : State :=
  s.setInsp { s.insp with taken := w, ext := ext }

/-- STORE (R207). -/
def State.readStore (s : State) : State := s.takeRead s.storeWord { s.insp.ext with storeHead := s.storeHead }

/-- TAKES (R207). -/
def State.readTakes (s : State) : State :=
  s.takeRead s.takesWord { s.insp.ext with
    takesHead := s.takesHead, takesHigh := BitVec.ofNat 32 s.agree.highTake
    takesEvn := BitVec.ofNat 32 s.agree.evn }

/-- BUILDS (R207). -/
def State.readBuilds (s : State) : State :=
  s.takeRead s.buildsWord { s.insp.ext with
    buildsHead := s.buildsHead, buildsLast := BitVec.ofNat 32 s.shownBuild.lastDelivered }

/-- FAULTS (R207, R213). -/
def State.readFaults (s : State) : State :=
  s.takeRead s.faultsWord { s.insp.ext with
    faultContext := s.faultContext, faultTimeLo := s.faultTimeLo, faultTimeHi := s.faultTimeHi }

/-- TIME_LO (R198). -/
def State.readTimeLo (s : State) : State :=
  s.takeRead s.timeLoWord { s.insp.ext with timeHi := timeHigh s.time.counter s.time.state }

/-- A roster word (R207). -/
def State.readRoster (a : Addr) (s : State) : State :=
  s.takeRead (s.rosterWord a) { s.insp.ext with rosterMark := BitVec.ofNat 32 (s.mark a) }

/-- R206: the address byte of a transaction: the write indication, and bits 6 to 0 of the word address. The order of
these bits on ISDI, bit 7 first, is the model's (DESIGN CHOICE, log 49). -/
def addressByte (write : Bool) (address : BitVec 7) : List Bool :=
  write :: (List.range 7).map fun i => address.getLsbD (6 - i)

/-- R206: a read takes its word at the completion of the address byte, before the falling edge that follows. -/
def readLine (address : BitVec 7) : InspectionLine := .selected (addressByte false address) 0

/-- STORE_READ (R207). -/
def execStoreRead (s : State) : Host.Outcome State Fault Refusal :=
  .next (if s.pins.rst then s else s.readStore.setLine (readLine 0x01))

/-- TAKES_READ (R207). -/
def execTakesRead (s : State) : Host.Outcome State Fault Refusal :=
  .next (if s.pins.rst then s else s.readTakes.setLine (readLine 0x03))

/-- BUILDS_READ (R207). -/
def execBuildsRead (s : State) : Host.Outcome State Fault Refusal :=
  .next (if s.pins.rst then s else s.readBuilds.setLine (readLine 0x07))

/-- FAULTS_READ (R207, R213). -/
def execFaultsRead (s : State) : Host.Outcome State Fault Refusal :=
  .next (if s.pins.rst then s else s.readFaults.setLine (readLine 0x0A))

/-- TIME_LO_READ (R198). -/
def execTimeLoRead (s : State) : Host.Outcome State Fault Refusal :=
  .next (if s.pins.rst then s else s.readTimeLo.setLine (readLine 0x0E))

/-- ROSTER_READ (R207). -/
def execRosterRead (a : Addr) (s : State) : Host.Outcome State Fault Refusal :=
  .next (if s.pins.rst then s else (s.readRoster a).setLine (readLine (BitVec.ofNat 7 (0x10 + a.val))))

/-- R206, R207: the read of any address. One that is no lead word takes its word and copies nothing. -/
def State.readTransaction (address : BitVec 7) (s : State) : State :=
  let a := address.toNat
  match a with
  | 0x01 => s.readStore
  | 0x03 => s.readTakes
  | 0x07 => s.readBuilds
  | 0x0A => s.readFaults
  | 0x0E => s.readTimeLo
  | _ =>
    if 0x10 ≤ a ∧ a < 0x20 then s.readRoster (Fin.ofNat 16 (a - 0x10))
    else s.takeRead (s.windowWord address) s.insp.ext

/-! ## Commands and other writes -/

/-- R210: every counter becomes 0. -/
def State.clearCounters (s : State) : State := s.setInsp { s.insp with counters := Inspection.zeroCounters }

/-- R212: the fault record becomes empty. -/
def State.ackFault (s : State) : State := s.setInsp { s.insp with faults := FaultRecord.empty }

/-- CLEAR_COUNTERS (R210), taken at the rise of ISCS (R206). -/
def execClearCounters (s : State) : Host.Outcome State Fault Refusal :=
  .next (if s.pins.rst then s else s.clearCounters.setLine .released)

/-- ACK_FAULT (R212), taken at the rise of ISCS (R206). -/
def execAckFault (s : State) : Host.Outcome State Fault Refusal :=
  .next (if s.pins.rst then s else s.ackFault.setLine .released)

/-- R206: a write transaction ends: the command of the address is taken when exactly 40 bits were sampled. -/
def State.writeTransaction (address : BitVec 7) (bits : Nat) (s : State) : State :=
  if bits = 40 then
    match address.toNat with
    | 0x40 => s.clearCounters
    | 0x41 => s.ackFault
    | 0x42 => s.restartTrunk
    | _ => s
  else s

/-- INSPECTION_WRITE_OTHER (R206): the transaction ends at the rise of ISCS. A write that is a command
after all is that command (log 32). -/
def execInspectionWriteOther (address : BitVec 7) (bits : Nat) (s : State) : Host.Outcome State Fault Refusal :=
  .next (if s.pins.rst then s else (s.writeTransaction address bits).setLine .released)

end Sys2Proof.Machine
end

