-- ==== Sys2Proof/Machine/Dispatch.lean ====
section
/-! DEFINITION. One arm per command, each one direct call of its meaning. -/

namespace Sys2Proof.Machine

/-- The meaning of every command: its effect on everything but the queue of waiting commands. -/
def exec (i : Instr) (s : State) : Host.Outcome State Fault Refusal :=
  match i with
  | .rstAssert => Sys2Proof.Machine.execRstAssert s
  | .rstRelease straps roleStrap => Sys2Proof.Machine.execRstRelease straps roleStrap s
  | .imageReadComplete bytes trg => Sys2Proof.Machine.execImageReadComplete bytes trg s
  | .sampleArrival lp => Sys2Proof.Machine.execSampleArrival lp s
  | .captureWindowExpiry => Sys2Proof.Machine.execCaptureWindowExpiry s
  | .triggerEdge othersHold => Sys2Proof.Machine.execTriggerEdge othersHold s
  | .localTriggerRequest othersHold => Sys2Proof.Machine.execLocalTriggerRequest othersHold s
  | .normalPulseExpiry => Sys2Proof.Machine.execNormalPulseExpiry s
  | .restartTrunk => Sys2Proof.Machine.execRestartTrunk s
  | .restartPulseExpiry => Sys2Proof.Machine.execRestartPulseExpiry s
  | .trunkRestartDetection => Sys2Proof.Machine.execTrunkRestartDetection s
  | .trgRelease => Sys2Proof.Machine.execTrgRelease s
  | .listenTimerExpiry => Sys2Proof.Machine.execListenTimerExpiry s
  | .rollTimerExpiry othersHold => Sys2Proof.Machine.execRollTimerExpiry othersHold s
  | .hldFall => Sys2Proof.Machine.execHldFall s
  | .turnTimerExpiry => Sys2Proof.Machine.execTurnTimerExpiry s
  | .closeTimerExpiry number => Sys2Proof.Machine.execCloseTimerExpiry number s
  | .datIdle => Sys2Proof.Machine.execDatIdle s
  | .contentionStart => Sys2Proof.Machine.execContentionStart s
  | .lostContention => Sys2Proof.Machine.execLostContention s
  | .frameAbandoned => Sys2Proof.Machine.execFrameAbandoned s
  | .badFrame bytes => Sys2Proof.Machine.execBadFrame bytes s
  | .takeReception f => Sys2Proof.Machine.execTakeReception f s
  | .fragReception f => Sys2Proof.Machine.execFragReception f s
  | .skipReception f => Sys2Proof.Machine.execSkipReception f s
  | .rollReception f => Sys2Proof.Machine.execRollReception f s
  | .takingEvent => Sys2Proof.Machine.execTakingEvent s
  | .clearCounters => Sys2Proof.Machine.execClearCounters s
  | .ackFault => Sys2Proof.Machine.execAckFault s
  | .inspectionWriteOther address bits => Sys2Proof.Machine.execInspectionWriteOther address bits s
  | .storeRead => Sys2Proof.Machine.execStoreRead s
  | .takesRead => Sys2Proof.Machine.execTakesRead s
  | .buildsRead => Sys2Proof.Machine.execBuildsRead s
  | .faultsRead => Sys2Proof.Machine.execFaultsRead s
  | .timeLoRead => Sys2Proof.Machine.execTimeLoRead s
  | .rosterRead entry => Sys2Proof.Machine.execRosterRead entry s
  | .tick => Sys2Proof.Machine.execTick s

end Sys2Proof.Machine
end

