-- ==== Sys2Proof/Machine/InspectionPins.lean ====
section
/-! DEFINITION. The inspection port on its pins (R206): how the levels of ISCS and the clocked bits of ISDI make the
transactions whose events are the commands of the table, and what stands on ISDO. The table has no row for a pin's own
step: a command is a transaction's event, which the port takes whatever stood on the pins before it (log 41). -/

namespace Sys2Proof.Machine

/-- What happens on the pins: ISCS is read low or high, ISCK rises with a level on ISDI, or ISCK falls. -/
inductive InspectionPin where
  | iscs (high : Bool)
  | isckRise (isdi : Bool)
  | isckFall
deriving DecidableEq, Repr

/-- R206: the word address, bits 6 to 0 of the address byte, taken as sampled bit 6 first (DESIGN CHOICE, log 49). -/
def transactionAddress (bits : List Bool) : BitVec 7 := BitVec.ofNat 7 (fieldAt bits 1 7)

/-- R206: bit 7 of the address byte is the write indication, taken as the first bit sampled (DESIGN CHOICE, log 49). -/
def isWrite (bits : List Bool) : Bool := bits.head? = some true

/-- R206: the transaction after one event on the pins, under RST or not. ISDI is sampled at a rising edge of ISCK; the
falling edges count from the completion of the address byte, at the rise of its eighth bit. -/
def InspectionLine.next (rst : Bool) (pin : InspectionPin) (line : InspectionLine) : InspectionLine :=
  match line, pin with
  | .held _, .iscs high => if high && !rst then .released else .held (!high)
  | .held low, .isckRise _ => .held low
  | .held low, .isckFall => .held low
  | .released, .iscs high => if high then .released else .selected [] 0
  | .released, .isckRise _ => .released
  | .released, .isckFall => .released
  | .selected bits falls, .iscs high => if high then .released else .selected bits falls
  | .selected bits falls, .isckRise b => .selected (bits ++ [b]) (if bits.length < 8 then 0 else falls)
  | .selected bits falls, .isckFall => .selected bits (if bits.length < 8 then 0 else falls + 1)

/-- R206: the event of a transaction: a read takes its word with the eighth bit sampled; a write is taken at the rise
of ISCS. -/
def State.transactionEvent (pin : InspectionPin) (s : State) : State :=
  match s.insp.line, pin with
  | .selected bits _, .isckRise b =>
    if bits.length = 7 && !isWrite bits then s.readTransaction (transactionAddress (bits ++ [b])) else s
  | .selected bits _, .iscs true =>
    if isWrite bits then s.writeTransaction (transactionAddress bits) bits.length else s
  | _, _ => s

/-- R206: one event on the pins. -/
def State.inspectPin (s : State) (pin : InspectionPin) : State :=
  (s.transactionEvent pin).setLine (s.insp.line.next s.pins.rst pin)

/-- R206: a run of events on the pins. -/
def State.inspectPins (s : State) (pins : List InspectionPin) : State := pins.foldl State.inspectPin s

/-- R206: ISDO is driven while ISCS is low, and not while RST is asserted. -/
def State.drivesIsdo (s : State) : Bool := !s.pins.rst && s.insp.line.isLow

/-- R206: the bit that the falling edge k of a read, counted from 0, brings on ISDO: the word taken, bit 31 first, and
then 0. -/
def shiftedOut (w : Word) (k : Nat) : Bool := k < 32 && w.getLsbD (31 - k)

/-- R206: the bit that a read in progress has on ISDO: it changes after each falling edge of ISCK, so bit 31 of the word
stands there from the fall that follows the address byte. `none` where ISDO is undriven, and where it is driven but the
spec states no bit: before that fall, and in a write (log 41). -/
def State.isdo (s : State) : Option Bool :=
  match s.insp.line with
  | .selected bits falls =>
    if s.drivesIsdo && !isWrite bits && 8 ≤ bits.length && falls ≠ 0 then some (shiftedOut s.insp.taken (falls - 1))
    else none
  | .held _ | .released => none

end Sys2Proof.Machine
end

