-- ==== Sys2Proof/Safety.lean ====
section
/-! DEFINITION. What holds of the station at every moment: the laws the spec states of its collections and blocks
(capacities, orders, what stands empty where), as decidable predicates of a state. Each is kept by every step. -/

namespace Sys2Proof

/-- The reception command that brings a frame. -/
def Frame.reception : Frame → Instr
  | .take f => .takeReception f
  | .skip f => .skipReception f
  | .frag f => .fragReception f
  | .roll f => .rollReception f

/-- The frame is a CALL. -/
def Frame.isCall : Frame → Bool
  | .roll f => f.mode = .call
  | .take _ | .skip _ | .frag _ => false

/-- The frame is an ECHO. -/
def Frame.isEcho : Frame → Bool
  | .roll f => f.mode = .echo
  | .take _ | .skip _ | .frag _ => false

/-- The frame is a ROLL frame. -/
def Frame.isRoll : Frame → Bool
  | .roll _ => true
  | .take _ | .skip _ | .frag _ => false

end Sys2Proof

namespace Sys2Proof.Machine

/-- Strictly ascending. -/
abbrev ascending (l : List Nat) : Prop := l.Pairwise (· < ·)

/-! ## The fragment store (R3, R8, R10) -/

/-- R8, R10, R3: at most 32 records and 1024 samples, at most one CAPTURING record, the window open exactly while one
is CAPTURING, and at most one sample of a channel in a record. -/
abbrev State.StoreInv (s : State) : Prop :=
  s.store.records.length ≤ 32
    ∧ (s.store.records.map fun r => r.samples.length).sum ≤ 1024
    ∧ (s.store.records.countP fun r => r.state = .capturing) ≤ 1
    ∧ s.store.window.isSome = s.store.records.any (fun r => r.state = .capturing)
    ∧ ∀ r ∈ s.store.records, (r.samples.map (·.channel)).Nodup

/-! ## What stands empty, and when -/

/-- Nothing of a trunk is held: no record, no number, no turn, no build (R163, R179). -/
abbrev State.Emptied (s : State) : Prop :=
  s.store = Store.empty ∧ s.agree = Agreement.blank ∧ s.turn = Turn.blank ∧ s.build = BuildUnit.empty

/-- R169: while RST is asserted the station is LOADING and no read is made. -/
abbrev State.ResetHeld (s : State) : Prop :=
  s.pins.rst = true → s.start.station = .loading ∧ s.start.imagePort = .idle

/-- R206: under RST the inspection port is held, and after it only while ISCS has not been read high. -/
abbrev State.LineInPlace (s : State) : Prop :=
  (s.pins.rst = true → s.insp.line = .held true ∨ s.insp.line = .held false)
    ∧ (s.pins.rst = false → s.insp.line ≠ .held false)

/-- R144, R152, R157, R162, R176: in LOADING and HALTED no line may be pulled, no timer runs, DAT is not read and the
port offers nothing. -/
abbrev State.UnloadedQuiet (s : State) : Prop :=
  s.unloaded = true →
    s.config.trg = .listen ∧ s.config.hld = .listen ∧ s.config.dat = .listen
      ∧ s.frames.dat = .stopped ∧ s.frames.failures = 0 ∧ s.port.state = .idle ∧ s.start.muteAttr = false
      ∧ s.trig.normalPulse = none ∧ s.trig.restartPulse = none ∧ s.trig.detector = none ∧ s.trig.restarting = false

/-- R162, R163, R187: the detector runs under an asserted TRG; from the detection to the release of TRG the level is
asserted, every collection is empty, nothing is offered, and start-up control's timers and its hold reason are at rest,
with the wait for the epoch ended (the model's reading, log 24); but a collector that takes the mute attribute in the
span starts its roll timer (R180, the model's reading, log 15). -/
abbrev State.RestartQuiet (s : State) : Prop :=
  (s.trig.detector.isSome = true → s.trig.level = true)
    ∧ (s.trig.restarting = true →
      s.trig.level = true ∧ s.trig.detector = none ∧ s.Emptied ∧ s.roster = Roster.blank
        ∧ s.frames.queue = Queue.empty ∧ s.start.listenTimer = none ∧ s.start.rollCallReason = false
        ∧ (s.start.muteAttr = false → s.start.rollTimer = none ∧ s.start.rollMet = false))

/-- R177, R179: before JOINING and RUNNING nothing is numbered, stored, timed or built; before ROLLCALL the roster and
the transmit queue are empty too. -/
abbrev State.StartQuiet (s : State) : Prop :=
  (s.start.station = .loading ∨ s.start.station = .halted ∨ s.start.station = .listening
      ∨ s.start.station = .rollcall → s.Emptied)
    ∧ (s.start.station = .loading ∨ s.start.station = .halted ∨ s.start.station = .listening →
        s.roster = Roster.blank ∧ s.frames.queue = Queue.empty)

/-- R17, R20, R29, R45, R58, R142: a store holds records, and a turn timer runs, in RUNNING alone; pending entries stand
in RUNNING and SILENCED alone; a MUTE station is an acquirer with an empty transmit queue. -/
abbrev State.StateQuiet (s : State) : Prop :=
  (s.start.station ≠ .running → s.store = Store.empty ∧ s.turn.timer = .stopped)
    ∧ (s.start.station ≠ .running ∧ s.start.station ≠ .silenced → s.agree.pendingTakes = [])
    ∧ (s.start.station = .mute → s.isAcquirer = true ∧ s.frames.queue = Queue.empty)

/-- R24, R28, R40, R58, R129: a collector stores, numbers, times and announces nothing. An acquirer builds and delivers
nothing and carries no mute attribute (Chapter 5, Chapter 6, R86). -/
abbrev State.RoleQuiet (s : State) : Prop :=
  (s.isCollector = true →
      s.store = Store.empty ∧ s.agree.evn = 0 ∧ s.agree.pendingTakes = [] ∧ s.agree.exhausted = false
        ∧ s.turn.timer = .stopped ∧ s.frames.queue.takes = [])
    ∧ (s.isAcquirer = true →
      s.build = BuildUnit.empty ∧ s.port.state = .idle ∧ s.start.muteAttr = false)

/-- R155, R156, R161, R177, R182: the roll timer and the wait for the epoch belong to ROLLCALL, the roll-call reason to
ROLLCALL and to the MUTE entered from it, the listen timer to LISTENING, and at most one pulse of TRG runs. (That the
reason stands on in MUTE, and the wait for the epoch does not, is the model's reading, log 24.) -/
abbrev State.TimersInPlace (s : State) : Prop :=
  (s.start.station ≠ .rollcall → s.start.rollTimer = none ∧ s.start.rollMet = false)
    ∧ (s.start.rollCallReason = true → s.start.station = .rollcall ∨ s.start.station = .mute)
    ∧ (s.start.station ≠ .listening → s.start.listenTimer = none)
    ∧ ¬ (s.trig.normalPulse.isSome = true ∧ s.trig.restartPulse.isSome = true)

/-- R170: the image is read in LOADING alone. -/
abbrev State.ReadsInLoading (s : State) : Prop := s.start.station ≠ .loading → s.start.imagePort = .idle

/-- Blocks hold only what their state and role allow. -/
abbrev State.Coherent (s : State) : Prop :=
  s.ResetHeld ∧ s.UnloadedQuiet ∧ s.RestartQuiet ∧ s.StartQuiet ∧ s.StateQuiet ∧ s.RoleQuiet ∧ s.TimersInPlace
    ∧ s.ReadsInLoading ∧ s.LineInPlace

/-! ## The agreement unit (R28, R29, R31, R33, R40) -/

/-- R31: at most 64 entries, distinct, ascending, event numbers, none above the high take; and the reason
TAKE_LIST_FULL stands only over 48 entries or more (R33). -/
abbrev State.ListInv (s : State) : Prop :=
  s.agree.takeList.length ≤ 64
    ∧ ascending (s.agree.takeList.map (·.number))
    ∧ (∀ e ∈ s.agree.takeList, 1 ≤ e.number ∧ e.number ≤ s.agree.highTake)
    ∧ s.agree.highTake ≤ maxEvent
    ∧ (s.agree.listFull = true → 48 ≤ s.agree.takeList.length)

/-- R29, R28, R40: at most 4 pending entries, ascending event numbers, below EVN unless the run is exhausted; an
exhausted run has EVN 0, and a RUNNING or SILENCED acquirer that is neither exhausted nor restarting numbers on. -/
abbrev State.PendingInv (s : State) : Prop :=
  s.agree.pendingTakes.length ≤ 4
    ∧ ascending (s.agree.pendingTakes.map (·.number))
    ∧ (∀ p ∈ s.agree.pendingTakes,
        1 ≤ p.number ∧ p.number ≤ maxEvent ∧ (s.agree.exhausted = true ∨ p.number < s.agree.evn))
    ∧ s.agree.evn ≤ maxEvent
    ∧ (s.agree.exhausted = true → s.agree.evn = 0)
    ∧ (s.isAcquirer = true ∧ (s.start.station = .running ∨ s.start.station = .silenced)
        ∧ s.agree.exhausted = false ∧ s.trig.restarting = false → 1 ≤ s.agree.evn)

/-- The agreement unit's laws. -/
abbrev State.AgreeInv (s : State) : Prop := s.ListInv ∧ s.PendingInv

/-! ## The order of the store (R10) -/

/-- R10: the records stand in ascending event number, and one whose TAKE is pending is above the high take and above
every record whose TAKE is answered. -/
abbrev State.RecordsInOrder (s : State) : Prop :=
  ascending (s.store.records.map (·.number))
    ∧ ∀ r ∈ s.store.records, r.answered = false →
        s.agree.highTake < r.number ∧ ∀ q ∈ s.store.records, q.answered = true → q.number < r.number

/-- R10, R29, R35, R38: what that order rests on: a record whose TAKE is pending is a pending entry's, pending entries
are above the high take, answered records are not, and a numbering station's EVN is above it. -/
abbrev State.OrderInv (s : State) : Prop :=
  s.RecordsInOrder
    ∧ (∀ r ∈ s.store.records, r.answered = false → r.number ∈ s.agree.pendingTakes.map (·.number))
    ∧ (∀ p ∈ s.agree.pendingTakes, s.agree.highTake < p.number)
    ∧ (∀ r ∈ s.store.records, r.answered = true → r.number ≤ s.agree.highTake)
    ∧ (s.isAcquirer = true ∧ (s.start.station = .running ∨ s.start.station = .silenced)
        ∧ s.agree.exhausted = false ∧ s.trig.restarting = false → s.agree.highTake < s.agree.evn)

/-- The frame that a command brings, if it brings one: a reception's own, or the one that the bytes spell. -/
def heardFrame : Instr → Option Frame
  | .takeReception f => some (.take f)
  | .fragReception f => some (.frag f)
  | .skipReception f => some (.skip f)
  | .rollReception f => some (.roll f)
  | .badFrame bytes =>
    match checkFrame bytes with
    | .good f => some f
    | .bad | .malformed => none
  | _ => none

/-- Outside the two cases of log 28: the take list refuses no number (R33), and no FRAG or SKIP with nothing pending
names an event at or beyond EVN (R38). -/
abbrev State.OrderIsSafe (s : State) (c : Instr) : Prop :=
  s.agree.takeList.length < 64
    ∧ ∀ f ∈ heardFrame c, frameKind f = 1 ∨ frameKind f = 2 →
        s.isAcquirer = true → s.start.station = .running ∨ s.start.station = .silenced →
        s.agree.exhausted = false → s.agree.pendingTakes = [] → (frameField f).toNat < s.agree.evn

/-! ## The roster (R47, R71, R82) -/

/-- R47, R71, R73, R82: MISSLIM is 1 to 7 once loaded, no miss count passes it, a PRESENT entry is below it, and counts
and marks stay in their ranges. Before loading every entry is ABSENT. A collector's own entry is no acquirer's. -/
abbrev State.RosterInv (s : State) : Prop :=
  (s.unloaded = true → s.roster = Roster.blank)
    ∧ (s.unloaded = false → 1 ≤ s.config.misslim ∧ s.config.misslim ≤ 7
        ∧ ∀ a : Addr, (s.entry a).misses ≤ s.config.misslim
            ∧ ((s.entry a).state = .present → (s.entry a).misses < s.config.misslim)
            ∧ (s.entry a).count.toNat ≤ 64 ∧ (s.entry a).mark ≤ maxEvent)
    ∧ (s.isCollector = true → s.ownEntry.role ≠ some .acquirer)

/-! ## The build table and the delivery port (R91, R95, R109, R115) -/

/-- R91, R93, R95: at most 8 builds and 4096 samples, in ascending order above last delivered; only the head may be
DELIVERING; an OPEN build has no close cause and a running timer, any other a cause and none. -/
abbrev State.TableInv (s : State) : Prop :=
  s.build.builds.length ≤ 8
    ∧ s.build.samples ≤ 4096
    ∧ ascending (s.build.lastDelivered :: s.build.builds.map (·.number))
    ∧ (∀ b ∈ s.build.builds.tail, b.state ≠ .delivering)
    ∧ (∀ b ∈ s.build.builds,
        (b.state = .opened ↔ b.cause = none) ∧ (b.state = .opened ↔ b.timer.isSome = true)
          ∧ (b.state ≠ .opened → ∀ c ∈ b.contributions, c.state ≠ .waiting)
          ∧ b.contributions.Pairwise (fun c d => c.member < d.member))

/-- The total word count held in RECORD. -/
def PortState.total : PortState → Option Nat
  | .idle => none
  | .record _ total => some total
  | .abort _ => none

/-- The cursor held in RECORD. -/
def PortState.cursor : PortState → Option Nat
  | .idle => none
  | .record cursor _ => some cursor
  | .abort _ => none

/-- R115, R118, R109: the port is in RECORD exactly while a build is DELIVERING, with a cursor below the total word
count of that build; and it is never IDLE before a CLOSED head. -/
abbrev State.PortInv (s : State) : Prop :=
  s.build.delivering.map Build.total = s.port.state.total
    ∧ (∀ cursor ∈ s.port.state.cursor, ∀ total ∈ s.port.state.total, cursor < total)
    ∧ (s.port.state = .idle → ∀ b ∈ s.build.builds.head?, b.state ≠ .closed)

/-- The build unit's and the delivery port's laws. -/
abbrev State.BuildInv (s : State) : Prop := s.TableInv ∧ s.PortInv

/-! ## The transmit queue (R134, R136, R137, R140) -/

/-- The number of places whose frame is on the wire. -/
def Queue.wires (q : Queue) : Nat :=
  (q.takes.countP (·.onWire)) + (q.skip.toList.countP (·.onWire)) + (q.frag.toList.countP (·.onWire))
    + (q.roll.toList.countP (·.onWire))

/-- The frames of a place: the one it holds and the one kept for it. -/
def Place.frames {φ : Type} (p : Place φ) : List φ :=
  match p.kept with
  | .nothing | .withdrawal => [p.frame]
  | .offer f => [p.frame, f]

/-- R74, R128, R132: every frame of the queue carries the station's address, and a ROLL frame its role, its enabled
channel count, its signature and the join point of the moment, a CALL 0. -/
abbrev State.FramesAreOwn (s : State) : Prop :=
  (∀ p ∈ s.frames.queue.takes, p.frame.sender = s.pins.address)
    ∧ (∀ p ∈ s.frames.queue.skip, ∀ f ∈ p.frames, f.sender = s.pins.address)
    ∧ (∀ p ∈ s.frames.queue.frag, ∀ f ∈ p.frames, f.sender = s.pins.address)
    ∧ (∀ p ∈ s.frames.queue.roll, ∀ f ∈ p.frames, f = s.rollFrame f.mode)

/-- R30, R134, R136, R137: the TAKE frames are those of pending entries, none with a kept request; a request is kept
for a frame on the wire alone; at most one frame is on the wire, and only while a frame is under way on DAT. R140, R142:
the failure count ends at 8, and with it the station sends no more. -/
abbrev State.QueueInv (s : State) : Prop :=
  (s.frames.queue.takes.map fun p => p.frame.number.toNat).Sublist (s.agree.pendingTakes.map (·.number))
    ∧ (∀ p ∈ s.frames.queue.takes, p.kept = .nothing)
    ∧ (∀ p ∈ s.frames.queue.skip, p.onWire = false → p.kept = .nothing)
    ∧ (∀ p ∈ s.frames.queue.frag, p.onWire = false → p.kept = .nothing)
    ∧ (∀ p ∈ s.frames.queue.roll, p.onWire = false → p.kept = .nothing)
    ∧ s.frames.queue.wires ≤ 1
    ∧ (s.frames.dat ≠ .inFrame → s.frames.queue.wires = 0)
    ∧ s.frames.failures ≤ 8
    ∧ (s.frames.failures = 8 → s.start.station = .mute ∨ s.start.muteAttr = true)
    ∧ s.FramesAreOwn

/-! ## Turns (R49, R50, R58, R59) -/

/-- The subject and event a turn timer is bound to. -/
def TurnTimer.bound : TurnTimer → Option (Addr × Nat)
  | .stopped => none
  | .running m n _ => some (m, n)
  | .skipping m n => some (m, n)

/-- R58, R59: the turn timer is bound to the skipped member's next event exactly while that turn is open in this
station's view, and parts are counted for that member and event, below 4. -/
abbrev State.TimerInv (s : State) : Prop :=
  s.turn.watched = s.watchedNow
    ∧ s.turn.timer.bound = (if s.watchedOpen then s.watchedNow else none)
    ∧ s.turn.heard ≤ 3

/-- R49, R50: the part that is offered (a kept request counted) is the one due in the station's own open turn, and none
is offered without one. -/
abbrev State.OfferInv (s : State) : Prop :=
  (s.offeredPart.map fun f => (f.number, f.index))
    = ((s.ownTurn.bind s.duePart).map fun f => (f.number, f.index))

/-- The subject and event that a SKIPPING timer's SKIP names. -/
def TurnTimer.skips : TurnTimer → Option (Addr × BitVec 32)
  | .stopped => none
  | .running _ _ _ => none
  | .skipping m n => some (m, BitVec.ofNat 32 n)

/-- R60, R61, R63: the SKIP place holds a frame exactly while the turn timer is SKIPPING, one that names the timer's
subject and event, and no request is kept for it. -/
abbrev State.SkipInv (s : State) : Prop :=
  (∀ p ∈ s.frames.queue.skip, p.kept = .nothing)
    ∧ s.frames.queue.skip.map (fun p => (p.frame.subject, p.frame.number)) = s.turn.timer.skips

/-- R15, R51, R18: the contents of an offered part: of the SENDING record of its number the samples in places 16k to
16k + 15 and the flags, or with no such record a LOST part. -/
abbrev State.PartIsDue (s : State) (f : FragFrame) : Prop :=
  (∀ r ∈ s.record? f.number.toNat, r.state = .sending ∧ f = {
      number := f.number, sender := s.pins.address, index := BitVec.ofNat 3 r.partsSent
      last := decide (r.samples.length ≤ 16 * (r.partsSent + 1)), lost := false, flags := r.flags
      samples := (r.samples.drop (16 * r.partsSent)).take 16 })
    ∧ (s.record? f.number.toNat = none → f = {
      number := f.number, sender := s.pins.address, index := 0, last := true, lost := true
      flags := { ovr := false, dbl := false, tsus := false, renum := false, trunc := false }, samples := [] })

/-! ## What the statements speak of -/

/-- R136, R139: the frame that is offered for a place while its frame is on the wire. -/
def Place.keptOffer {φ : Type} (p : Place φ) : Option φ :=
  match p.kept with
  | .nothing => none
  | .withdrawal => none
  | .offer f => some f

/-- R145, R146, R163: a frame that ends on DAT is well-formed and is handed to its owners. -/
abbrev State.Hears (s : State) (f : Frame) : Prop :=
  s.takesFrame = true ∧ frameValid f = true ∧ s.trig.restarting = false

/-- R86: the frame is this station's own or carries another address, or the station detects no clash (MUTE, or a
collector with the mute attribute), so none is found. -/
abbrev State.NoClash (s : State) (f : Frame) : Prop :=
  s.isOwn f = true ∨ frameSender f ≠ s.pins.address ∨ s.detectsClash = false

/-- The frame is another station's and carries another address. -/
abbrev State.Foreign (s : State) (f : Frame) : Prop := s.isOwn f = false ∧ frameSender f ≠ s.pins.address

/-- The frames pending in the transmit queue (section 7.3). -/
def Queue.frames (q : Queue) : List Frame :=
  (q.takes.map fun p => Frame.take p.frame) ++ (q.skip.toList.map fun p => Frame.skip p.frame)
    ++ (q.frag.toList.map fun p => Frame.frag p.frame) ++ (q.roll.toList.map fun p => Frame.roll p.frame)

/-- A record without its state: number, times, flags, samples, parts sent (an offered part alone changes the state). -/
def Record.content (r : Record) : Record := { r with state := .ready }

/-- The take-list entries that not every PRESENT acquirer of `s` has finished (R39). -/
abbrev State.undrained (s : State) (l : List TakeEntry) : List TakeEntry := l.filter fun e => !s.finished e.number

/-- R55, R63, R81: an address whose parts and SKIPs count for the marks: a member's, or an ABSENT one, which is learned
as a member at the reception. -/
def State.heeds (s : State) (m : Addr) : Bool :=
  s.isMember m || ((s.entry m).state = .absent && !(s.isCollector && m = s.pins.address))

/-- R81: the entry of such an address as the frame's other owners find it, but for its mark. -/
def State.heardEntry (s : State) (m : Addr) : RosterEntry :=
  if (s.entry m).state = .absent then { s.entry m with state := .present, role := some .acquirer, misses := 0 }
  else s.entry m

/-- R38: an event that is not in the list and that some PRESENT acquirer has not finished. -/
abbrev State.Unlisted (s : State) (n : Nat) : Prop :=
  s.listed n = false ∧ ∃ a : Addr, s.isMember a = true ∧ s.mark a < n

/-- R38: a FRAG or SKIP naming `n` places it in the list, with no time. -/
abbrev State.Implies (s : State) (n : Nat) : Prop :=
  s.Unlisted n ∧ s.agree.takeList.length < 64
    ∧ ¬ (s.isAcquirer = true ∧ ∃ p ∈ s.agree.pendingTakes.head?, p.number ≤ n)

/-- R33, R38: the fault record after the implied-take check for `n`: a full list that refuses `n` raises TAKE_LIST_FULL
with `n` as its context, where it does not stand already. -/
def State.refusalFaults (s : State) (n : Nat) : FaultRecord :=
  if s.Unlisted n ∧ 64 ≤ s.agree.takeList.length ∧ s.agree.listFull = false then
    s.insp.faults.enter { code := .takeListFull, context := n, time := s.time.counter, state := s.time.state }
  else s.insp.faults

/-- R38, R39, R79: what a FRAG or SKIP naming `n` does to the take list, from `s` to `t`: the high take is raised while
JOINING, the implied take enters in its ascending place, and what every PRESENT acquirer has finished leaves. The
refusal of a full list is the one fault, but for a build that finds no room in a collector (R33, R97). -/
abbrev State.CountsFrom (s t : State) (n : Nat) : Prop :=
  t.agree.highTake = max (if s.start.station = .joining then max s.agree.highTake (n - 1) else s.agree.highTake)
      (if s.Implies n then n else 0)
    ∧ (ascending (s.agree.takeList.map (·.number)) → t.agree.takeList = t.undrained (if s.Implies n
        then s.agree.takeList.filter (fun e => e.number < n) ++ [{ number := n, time := none }]
          ++ s.agree.takeList.filter (fun e => n < e.number)
        else s.agree.takeList))
    ∧ t.agree.listFull = ((s.agree.listFull || decide (s.Unlisted n ∧ 64 ≤ s.agree.takeList.length))
        && decide (48 ≤ t.agree.takeList.length))
    ∧ (t.insp.faults = s.refusalFaults n ∨ s.builds = true ∧ t.insp.faults = (s.refusalFaults n).enter
        { code := .buildOverflow, context := n, time := s.time.counter, state := s.time.state })

/-- R106: of the builds that were OPEN in `s`, or are new, those that every PRESENT acquirer of `t` has finished are
closed COMPLETE in `t`, with nothing WAITING, and the others are OPEN. -/
abbrev State.ClosesFinished (s t : State) : Prop :=
  ∀ b ∈ t.build.builds, (∀ x ∈ s.build.builds.find? (fun x : Build => x.number = b.number), x.state = .opened) →
    (b.state = .opened ↔ ∃ a : Addr, t.isMember a = true ∧ t.mark a < b.number)
      ∧ (b.state ≠ .opened → b.cause = some .complete ∧ ∀ c ∈ b.contributions, c.state ≠ .waiting)

/-- R103, R106: the contributions of a build of `s` as `t` has them: in an OPEN build one that was WAITING is
NOT_EXPECTED where its member left the turn order, and else UNHEARD where every PRESENT acquirer of `t` has finished the event. -/
def State.settledContributions (s t : State) (x : Build) : List Contribution :=
  x.contributions.map fun c =>
    if x.state = .opened ∧ c.state = .waiting then
      { c with state :=
          if s.isMember c.member = true ∧ t.isMember c.member = false then .notExpected
          else if ∀ a : Addr, t.isMember a = true → x.number ≤ t.mark a then .unheard
          else .waiting }
    else c

/-- R99, R101, R107: the builds of `t` are those of `s`, settled: nothing is stored, and no close timer starts again. -/
abbrev State.SettlesBuilds (s t : State) : Prop :=
  t.build.builds.map (fun b => (b.number, b.time, b.contributions, b.truncated))
      = s.build.builds.map (fun x => (x.number, x.time, s.settledContributions t x, x.truncated))
    ∧ (∀ b ∈ t.build.builds, b.state = .opened → ∃ x ∈ s.build.builds, x.number = b.number ∧ b.timer = x.timer)
    ∧ s.ClosesFinished t

/-- A build without its state, its cause, its timer and its contributions' states: what a close leaves (R106, R107). -/
def Build.content (b : Build) : Build :=
  { b with
    state := .opened, cause := none, timer := none
    contributions := b.contributions.map fun c => { c with state := .waiting } }

/-- R96, R102: the contribution that a frame for event N meets: that of an OPEN build, or a fresh one. `outside` says
whether the address stands outside the turn order when a new build is created. None where no OPEN build is to be had. -/
def State.contributionBefore (s : State) (n : Nat) (m : Addr) (outside : Bool) : Option Contribution :=
  match s.build.builds.find? fun b => b.number = n with
  | some b => if b.state = .opened then some (b.contribution m) else none
  | none => if s.build.builds.length < 8 then some (.fresh m outside) else none

/-- A fault with this code and context was raised between `s` and `t` (R211). -/
abbrev State.Raised (s t : State) (code : FaultCode) (context : Nat) : Prop :=
  t.insp.faults = s.insp.faults.enter
    { code := code, context := context, time := s.time.counter, state := s.time.state }

/-- The blocks that no frame, timer or line changes: the straps, the image, and the index of free values. -/
abbrev State.SameSetting (s t : State) : Prop :=
  t.pins = s.pins ∧ t.config = s.config ∧ t.freeIndex = s.freeIndex

/-- R179: `t` is `s` after the entry to ROLLCALL. -/
abbrev State.CallsRoll (s t : State) : Prop :=
  t.start.station = .rollcall ∧ t.start.rollCallReason = true ∧ t.start.listenTimer = none ∧ t.start.rollMet = false
    ∧ t.start.rollTimer = (if s.start.muteAttr then some (Config.msTicks s.config.rolltime) else none)
    ∧ t.Emptied ∧ (∀ a : Addr, t.entry a = RosterEntry.blank)
    ∧ t.time = { counter := s.time.counter, state := .unset }
    ∧ t.frames = { s.frames with queue := { s.frames.queue with
        roll := if s.start.muteAttr then s.frames.queue.roll
          else Place.offer (s.rollFrame .call) s.frames.queue.roll } }
    ∧ t.port = s.port ∧ t.insp = s.insp ∧ t.start.muteAttr = s.start.muteAttr ∧ s.SameSetting t

end Sys2Proof.Machine
end

