-- ==== Sys2Proof/WellFormed.lean ====
section
/-! DEFINITION. What the row of a command asks of its operands. Every command has a meaning on every operand; these
checks say which operands make the event the row names. -/

namespace Sys2Proof

/-- R208: the three command addresses of the inspection window. -/
def isCommandAddress (address : BitVec 7) : Bool := address = 0x40 || address = 0x41 || address = 0x42

/-- The operands are those of the event the row names: an image has 160 bytes (R170), a bad frame fails a check of
R145, a received frame passes R146, a build's number is an event number, and another write is no command (R206). -/
def Instr.wellFormed : Instr → Bool
  | .imageReadComplete bytes _ => bytes.length = 160
  | .badFrame bytes => Machine.checkFrame bytes = .bad || Machine.checkFrame bytes = .malformed
  | .takeReception f => Machine.frameValid (.take f)
  | .fragReception f => Machine.frameValid (.frag f)
  | .skipReception f => Machine.frameValid (.skip f)
  | .rollReception f => Machine.frameValid (.roll f)
  | .closeTimerExpiry number => number ≠ 0
  | .inspectionWriteOther address bits => !(isCommandAddress address && bits = 40)
  | .rstAssert | .rstRelease _ _ | .sampleArrival _ | .captureWindowExpiry | .triggerEdge _
  | .localTriggerRequest _ | .normalPulseExpiry | .restartTrunk | .restartPulseExpiry | .trunkRestartDetection
  | .trgRelease | .listenTimerExpiry | .rollTimerExpiry _ | .hldFall | .turnTimerExpiry | .datIdle
  | .contentionStart | .lostContention | .frameAbandoned | .takingEvent | .clearCounters | .ackFault
  | .storeRead | .takesRead | .buildsRead | .faultsRead | .timeLoRead | .rosterRead _ | .tick => true

end Sys2Proof
end

