-- ==== Sys2Proof/Certificates/Slice0/Obligations.lean ====
section
/-! DEFINITION. The statements for the provers, from the spec's numbered rules. A statement that a command has its
effect ends in a next state; where it says `∃ t`, `t` is that state. -/

open Sys2Proof Sys2Proof.Machine

/-! ## The queue of commands -/

/-- A step takes the command at the front of the queue and runs it with the queue's rest
(95_what_each_step_holds.md: each step is whole and indivisible). -/
def Obligations.StepRunsFrontCommand : Prop :=
  ∀ (c : Instr) (rest : List Instr) (s : State),
    step { s with pending := c :: rest } = exec c { s with pending := rest }

/-- Every command completes in every state: it answers a next state and leaves the commands that wait behind it as
they are. From the release of RST to the next RST the straps stand (R169); from the end of loading the image stands
(R175), a mute attribute stands, and so do HALTED and MUTE (R176, R86, R142). -/
def Obligations.EveryCommandCompletes : Prop :=
  ∀ (c : Instr) (s : State),
    ∃ t, exec c s = .next t ∧
      t.pending = s.pending
        ∧ (c ≠ .rstAssert → s.pins.rst = false → s.Coherent →
          t.pins = s.pins
            ∧ (s.start.station ≠ .loading → t.config = s.config ∧ t.start.imageBuffer = s.start.imageBuffer
                ∧ t.start.station ≠ .loading ∧ (s.start.muteAttr = true → t.start.muteAttr = true))
            ∧ (s.start.station = .halted → t.start.station = .halted)
            ∧ (s.start.station = .mute → t.start.station = .mute))

/-! ## Reset and the image (Chapter 9) -/

/-- R169 with the RST rows of every block: RST_ASSERT in any state holds the station in LOADING with every block at
its RST value, the inspection port held with ISCS at its level (R206). The waiting commands are outside the part. The
index of free values goes on (log 16). -/
def Obligations.RstAssertTakesResetValues : Prop :=
  ∀ s : State,
    ∃ t, exec .rstAssert s = .next t ∧
      t.pins.rst = true ∧ t.pending = s.pending ∧ t.freeIndex = s.freeIndex
        ∧ t.start.station = .loading ∧ t.start.muteAttr = false ∧ t.start.imageBuffer = []
        ∧ t.start.imagePort = .idle ∧ t.start.listenTimer = none ∧ t.start.rollTimer = none
        ∧ t.start.rollCallReason = false ∧ t.start.rollMet = false ∧ t.imcs = false ∧ t.imsoBits = none
        ∧ t.config.trg = .listen ∧ t.config.hld = .listen ∧ t.config.dat = .listen
        ∧ t.config.triggerEnable = false ∧ t.config.channelEnable = 0
        ∧ (∀ c : Fin 64, t.config.thresholds[c]? = some 0)
        ∧ t.trig.normalPulse = none ∧ t.trig.restartPulse = none ∧ t.trig.detector = none
        ∧ t.trig.restarting = false ∧ t.trig.outcome = .none
        ∧ t.time = { counter := 0, state := .unset }
        ∧ t.store.records = [] ∧ t.store.window = none
        ∧ t.agree.evn = 0 ∧ t.agree.pendingTakes = [] ∧ t.agree.takeList = [] ∧ t.agree.highTake = 0
        ∧ t.agree.listFull = false ∧ t.agree.exhausted = false
        ∧ t.turn.timer = .stopped ∧ t.turn.heard = 0
        ∧ (∀ a : Addr, (t.entry a).state = .absent ∧ (t.entry a).role = none ∧ (t.entry a).count = 0
            ∧ (t.entry a).misses = 0 ∧ (t.entry a).mark = 0)
        ∧ t.frames.queue.frames = [] ∧ t.frames.failures = 0 ∧ t.frames.dat = .stopped
        ∧ t.build.builds = [] ∧ t.build.lastDelivered = 0 ∧ t.port.state = .idle ∧ t.port.lp = 0
        ∧ (∀ i : Fin 18, t.insp.counters[i] = 0)
        ∧ t.insp.faults = { first := none, further := 0, flags := 0 }
        ∧ t.insp.ext = Extensions.zero ∧ t.insp.line = .held s.insp.line.isLow ∧ t.drivesIsdo = false
        ∧ t.faultPin = false ∧ t.drivesHld = false ∧ t.drivesTrg = false ∧ t.sending = false ∧ t.drivesPort = false

/-- R169, R170: at the release of RST the straps are sampled and the first read of the image begins, with the request
0x03, 0x00, 0x00 on IMSO; the inspection port is free where ISCS is high, and waits for it else (R206). With RST not
asserted there is no release: the state stays (the model's choice, log 7). -/
def Obligations.RstReleaseSamplesStraps : Prop :=
  ∀ (s : State) (straps : Addr) (roleStrap : Role),
    (s.pins.rst = true →
      ∃ t, exec (.rstRelease straps roleStrap) s = .next t ∧
        t = { s with
          pins := { rst := false, address := straps, role := roleStrap }
          start := { s.start with station := .loading, imagePort := .firstRead }
          insp := { s.insp with line := if s.insp.line = .held false then .released else s.insp.line } }
        ∧ t.imcs = true
        ∧ t.imsoBits = some ([false, false, false, false, false, false, true, true] ++ List.replicate 16 false))
    ∧ (s.pins.rst = false → exec (.rstRelease straps roleStrap) s = .next s)

/-- R170 to R172, R176, R205: the check word stands in bytes 158 and 159 and is the cyclic check over bytes 0 to 157;
the ranges are those of R172. A first read with a bad check word is made again, with its request on IMSO; a second
one, and a good check word over a field out of range, halt the station with IMAGE_BAD, and the image port drives
nothing more. (A list of fewer than 160 bytes fails the check, log 35.) With no read under way there is no completion
(the model's choice, log 7). -/
def Obligations.BadImageIsRereadOrHalts : Prop :=
  ∀ (s : State) (img : List Byte) (trg : Bool), s.pins.rst = false →
    (imageCheck img = true ↔ 160 ≤ img.length ∧ img.getD 158 0 ++ img.getD 159 0 = crc16 (img.take 158))
    ∧ (imageInRange img = true ↔
        1 ≤ 256 * (img.getD 0 0).toNat + (img.getD 1 0).toNat
          ∧ 256 * (img.getD 0 0).toNat + (img.getD 1 0).toNat ≤ 1023
          ∧ img.getD 2 0 ≠ 0 ∧ img.getD 3 0 ≠ 0 ∧ (img.getD 3 0).toNat ≤ 8
          ∧ img.getD 4 0 ≠ 0 ∧ (img.getD 4 0).toNat ≤ 7 ∧ img.getD 6 0 ≠ 0 ∧ img.getD 7 0 ≠ 0)
    ∧ (s.start.imagePort = .firstRead ∧ imageCheck img = false →
      ∃ t, exec (.imageReadComplete img trg) s = .next t ∧
        t = { s with start := { s.start with imageBuffer := [], imagePort := .secondRead } }
        ∧ t.imsoBits = some ([false, false, false, false, false, false, true, true] ++ List.replicate 16 false))
    ∧ (s.start.imagePort = .secondRead ∧ imageCheck img = false
        ∨ s.start.imagePort ≠ .idle ∧ imageCheck img = true ∧ imageInRange img = false →
      ∃ t, exec (.imageReadComplete img trg) s = .next t ∧
        t.start.station = .halted ∧ t.start.imagePort = .idle ∧ t.imcs = false ∧ t.imsoBits = none
          ∧ s.Raised t .imageBad 0 ∧ t.faultPin = true
          ∧ t = { s with
              start := { s.start with station := .halted, imagePort := .idle, imageBuffer := img }
              insp := { s.insp with faults := t.insp.faults } })
    ∧ (s.start.imagePort = .idle → exec (.imageReadComplete img trg) s = .next s)

/-- R175, R205: a good image loads every field from its bytes and the station leaves LOADING: an acquirer whose DAT
is LISTEN to MUTE, any other to LISTENING with its timer running. -/
def Obligations.GoodImageLoads : Prop :=
  ∀ (s : State) (img : List Byte) (trg : Bool), s.pins.rst = false → s.start.imagePort ≠ .idle →
    imageCheck img = true → imageInRange img = true →
    ∃ t, exec (.imageReadComplete img trg) s = .next t ∧
      t.config.capwin = 256 * (img.getD 0 0).toNat + (img.getD 1 0).toNat
        ∧ t.config.lead = (img.getD 3 0).toNat ∧ t.config.misslim = (img.getD 4 0).toNat
        ∧ t.config.skewlim = (img.getD 5 0).toNat ∧ t.config.rolltime = (img.getD 6 0).toNat
        ∧ t.config.listen = (img.getD 7 0).toNat
        ∧ t.config.signature = crc16 (img.take 8)
        ∧ t.config.trg = (match (img.getD 8 0).extractLsb' 4 2 with
            | 1#2 => .sink | 2#2 => .sinkTerm | _ => .listen)
        ∧ t.config.hld = (match (img.getD 8 0).extractLsb' 2 2 with
            | 1#2 => .sink | 2#2 => .sinkTerm | _ => .listen)
        ∧ t.config.dat = (match (img.getD 8 0).extractLsb' 0 2 with
            | 1#2 => .sink | 2#2 => .sinkTerm | _ => .listen)
        ∧ t.config.triggerEnable = (img.getD 9 0).getLsbD 0
        ∧ (∀ c : Fin 64, t.config.channelEnable.getLsbD c = (img.getD (10 + c / 8) 0).getLsbD (c % 8))
        ∧ (∀ c : Fin 64, t.config.thresholds[c]? =
            some (((img.getD (18 + 2 * c) 0) ++ (img.getD (19 + 2 * c) 0)).extractLsb' 0 14))
        ∧ t.trig = { s.trig with level := trg, detector := if trg then some (100 * 50) else none }
        ∧ t.frames = { s.frames with dat := .busy }
        ∧ t.start = (if s.isAcquirer && t.config.dat = .listen then
              { s.start with station := .mute, imagePort := .idle, imageBuffer := img }
            else { s.start with
              station := .listening, imagePort := .idle, imageBuffer := img
              muteAttr := s.isCollector && t.config.dat = .listen
              listenTimer := some ((img.getD 7 0).toNat * 1000 * 50) })
        ∧ t = { s with
            start := t.start, config := t.config, trig := t.trig, frames := t.frames
            insp := { s.insp with faults := t.insp.faults } }

/-- R173: TURN stays as the image has it when it is longer than CAPWIN + 100 µs, else it becomes the lowest multiple
of 10 µs that is. R153, R175: the faults of a loading come in order: IMAGE_ADJUSTED, then LINE_PROHIBITED for TRG,
HLD and DAT, each a fault of its own. -/
def Obligations.ShortTurnIsRaisedAndFaultsComeInOrder : Prop :=
  ∀ (s : State) (img : List Byte) (trg : Bool), s.pins.rst = false → s.start.imagePort ≠ .idle →
    imageCheck img = true → imageInRange img = true →
    ∃ t, exec (.imageReadComplete img trg) s = .next t ∧
      (t.config.capwin + 100 < 10 * (img.getD 2 0).toNat → t.config.turn = 10 * (img.getD 2 0).toNat)
        ∧ (10 * (img.getD 2 0).toNat ≤ t.config.capwin + 100 →
            t.config.capwin + 100 < t.config.turn ∧ t.config.turn ≤ t.config.capwin + 110
              ∧ t.config.turn % 10 = 0)
        ∧ t.config.turn ≤ 2550
        ∧ t.turnTicks = 50 * t.config.turn ∧ t.closeTicks = 4 * (50 * t.config.turn)
        ∧ t.insp.faults =
            ((if 10 * (img.getD 2 0).toNat ≤ t.config.capwin + 100 then [FaultCode.imageAdjusted] else [])
              ++ (if (img.getD 8 0).extractLsb' 4 2 = 3#2 then [FaultCode.lineProhibited] else [])
              ++ (if (img.getD 8 0).extractLsb' 2 2 = 3#2 then [FaultCode.lineProhibited] else [])
              ++ (if (img.getD 8 0).extractLsb' 0 2 = 3#2 then [FaultCode.lineProhibited] else [])).foldl
              (fun r code => r.enter
                { code := code, context := 0, time := s.time.counter, state := s.time.state }) s.insp.faults

/-! ## Listening, roll call and the epoch (Chapter 9) -/

/-- R178: LISTENING ends when its timer expires, with the entry to ROLLCALL of R179, and at a frame heard: a CALL
leads to ROLLCALL, any other to JOINING, through which a collector with the mute attribute passes to RUNNING (R185).
The station offers a CALL or a JOIN of its own, unless it carries the attribute. The frame is then handled as in the
state it leads to: a CALL as after the entry to ROLLCALL, any other as after the entry to JOINING of R185, which the
statement spells. (The station is one whose blocks hold what its state and role allow.) With no listen timer running
nothing expires (the model's choice, log 7). -/
def Obligations.ListeningEnds : Prop :=
  ∀ (s : State) (f : Frame), s.pins.rst = false → s.start.station = .listening → s.Coherent →
    (s.start.listenTimer.isSome = true →
      ∃ t, exec .listenTimerExpiry s = .next t ∧ s.CallsRoll t ∧ t.trig = s.trig)
    ∧ (s.start.listenTimer = none → exec .listenTimerExpiry s = .next s)
    ∧ (s.Hears f → s.Foreign f →
      ∃ t, exec f.reception s = .next t ∧
        (f.isCall = true →
            t.start.station = .rollcall ∧ t.start.rollCallReason = true
              ∧ (s.start.muteAttr = false →
                  t.frames.queue.roll.map (fun p => (p.frame.mode, p.frame.field)) = some (.call, 0))
              ∧ (s.start.muteAttr = true → t.start.rollTimer = some (Config.msTicks s.config.rolltime)))
          ∧ (f.isCall = false →
            t.start.station = (if s.start.muteAttr then .running else .joining)
              ∧ t.start.rollCallReason = false
              ∧ (s.start.muteAttr = false →
                  t.frames.queue.roll.map (fun p => (p.frame.mode, p.frame.field)) = some (.join, t.joinPoint)))
          ∧ (s.start.muteAttr = true → t.frames.queue.roll = none)
          ∧ t.start.listenTimer = none ∧ t.frames.dat = .busy ∧ t.store = Store.empty
          ∧ t.time.counter = s.time.counter ∧ s.SameSetting t ∧ t.trig = s.trig)
    ∧ (s.Hears f → s.Foreign f → f.isCall = true → s.start.listenTimer.isSome = true →
      ∃ u, exec .listenTimerExpiry s = .next u ∧ exec f.reception s = exec f.reception u)
    ∧ (s.Hears f → s.Foreign f → f.isCall = false →
      exec f.reception s = exec f.reception { s with
        start := { s.start with
          station := if s.start.muteAttr then .running else .joining
          listenTimer := none, rollTimer := none, rollCallReason := false, rollMet := false }
        roster := Roster.blank, agree := Agreement.blank, store := Store.empty, build := BuildUnit.empty
        frames := { s.frames with queue := { Queue.empty with
          roll := if s.start.muteAttr then none else some {
            frame := {
              field := 1, sender := s.pins.address, mode := .join, role := s.pins.role, count := s.channelCount
              signature := s.config.signature }
            onWire := false, kept := .nothing } } } })

/-- R182, R183: a station in ROLLCALL whose roll timer runs out meets its conditions; reading HLD released then, or
reading it fall afterwards, is its epoch: RUNNING, time 0 and SET, EVN 1 in an acquirer, lists and builds empty,
every PRESENT mark and miss count 0. With HLD read asserted at the expiry the roll-call reason falls and the station
waits; a fall of HLD before the conditions are met, or in any other state, changes nothing (R158). (HLD at the
expiry is the own drive or the others', log 8, log 31.) -/
def Obligations.EpochStartsNumbering : Prop :=
  ∀ (s : State) (c : Instr) (othersHold : Bool), s.pins.rst = false →
    (s.start.station = .rollcall ∧ s.start.rollTimer.isSome = true ∧ s.readsHld othersHold = true →
      exec (.rollTimerExpiry othersHold) s = .next { s with start := { s.start with
        rollTimer := none, rollCallReason := false, rollMet := true } })
    ∧ (s.start.station ≠ .rollcall ∨ s.start.rollMet = false → exec .hldFall s = .next s)
    ∧ (s.start.station = .rollcall →
      (c = .hldFall ∧ s.start.rollMet = true
          ∨ c = .rollTimerExpiry othersHold ∧ s.start.rollTimer.isSome = true ∧ s.readsHld othersHold = false) →
      ∃ t, exec c s = .next t ∧
        t.start = { s.start with
            station := .running, rollTimer := none, rollCallReason := false, rollMet := false }
          ∧ t.time = { counter := 0, state := .set }
          ∧ t.agree = { evn := if s.isAcquirer then 1 else 0, pendingTakes := [], takeList := [], highTake := 0,
                        listFull := false, exhausted := false }
          ∧ (∀ a : Addr, t.entry a = if (s.entry a).state = .present then
              { s.entry a with misses := 0, mark := 0 } else s.entry a)
          ∧ t.turn.timer = .stopped ∧ t.turn.heard = 0
          ∧ t.build.builds = [] ∧ t.build.lastDelivered = 0
          ∧ t.trig = s.trig ∧ t.store = s.store ∧ t.port = s.port ∧ t.insp = s.insp ∧ s.SameSetting t
          ∧ t.frames.queue.takes = s.frames.queue.takes ∧ t.frames.queue.skip = s.frames.queue.skip
          ∧ t.frames.failures = s.frames.failures ∧ t.frames.dat = s.frames.dat)

/-! ## The capture port (Chapter 1) -/

/-- R4: a sample arrival in an acquirer outside RST, LOADING and HALTED goes through the steps of R4 in their order;
a collector, and a station in LOADING or HALTED, ignores it (R1). `x` is the word's sample (R203). -/
def Obligations.SamplesAreFiltered : Prop :=
  ∀ (s : State) (lp : Word) (x : Sample),
    x = { channel := lp.extractLsb' 16 6, value := lp.extractLsb' 0 14, overrange := lp.getLsbD 14 } →
    (s.pins.rst = true ∨ s.isCollector = true ∨ s.unloaded = true → exec (.sampleArrival lp) s = .next s)
    ∧ (s.pins.rst = false → s.isAcquirer = true → s.unloaded = false →
      (s.store.window = none → exec (.sampleArrival lp) s = .next (s.bump .straySamples))
      ∧ (s.store.window.isSome = true → ∀ r ∈ s.store.capturing,
        exec (.sampleArrival lp) s = .next (
          if s.config.channelEnable.getLsbD x.channel.toNat = false then s
          else if x.overrange = false ∧ (s.config.thresholds.getD x.channel.toNat 0).toNat ≠ 0
              ∧ x.value.toNat < (s.config.thresholds.getD x.channel.toNat 0).toNat then s.bump .suppressed
          else if ∃ y ∈ r.samples, y.channel = x.channel then
            State.bump .doubles { s with store := { s.store with records := s.store.records.map fun q : Record =>
                if q.state = .capturing then { q with flags := { q.flags with dbl := true } } else q } }
          else if 1024 ≤ (s.store.records.map fun q => q.samples.length).sum then
            let t : State := { s with store := { s.store with records := s.store.records.map fun q : Record =>
                if q.state = .capturing then { q with flags := { q.flags with trunc := true } } else q } }
            if r.flags.trunc = true then t else t.raise .storeOverrun r.number
          else
            { s with store := { s.store with records := s.store.records.map fun q : Record =>
                if q.state = .capturing then { q with
                  samples := q.samples ++ [x], flags := { q.flags with ovr := q.flags.ovr || x.overrange } }
                else q } })))

/-- R12, R50: at the expiry of the window its record becomes READY and takes no more samples; where the station's own
turn for it is open, its first part is offered and it is SENDING; where the open turn is for another event, the
expired record is READY and the part offered there stands. -/
def Obligations.WindowExpiryEndsCapture : Prop :=
  ∀ s : State, s.pins.rst = false → s.store.window.isSome = true →
    ∃ t, exec .captureWindowExpiry s = .next t ∧
      t.store.window = none
        ∧ t.store.records.map Record.content = s.store.records.map Record.content
        ∧ (∀ r ∈ t.store.records, r.state ≠ .capturing)
        ∧ (s.ownTurn = none → t.store.records = s.store.records.map Record.endWindow)
        ∧ (s.OfferInv → ∀ n ∈ s.ownTurn, (∀ r ∈ s.record? n, r.state ≠ .capturing) →
            t.store.records = s.store.records.map Record.endWindow ∧ t.frames = s.frames)
        ∧ (∀ n ∈ s.ownTurn, ∀ r ∈ s.record? n, r.state = .capturing → s.frames.queue.frag = none →
            t.record? n = some { r with state := .sending }
              ∧ t.frames.queue.frag = some { frame := s.recordPart r, onWire := false, kept := .nothing })
        ∧ t = { s with
            store := t.store
            frames := { s.frames with queue := { s.frames.queue with frag := t.frames.queue.frag } } }

/-! ## Trigger edges, local requests and the pulses of TRG (Chapters 2 and 8) -/

/-- R24: the trigger edges that are accepted, counted as held, and ignored. The detector starts at each (R162), and
an assertion that lasts is one edge (R160). -/
def Obligations.TriggerEdgeIsDecided : Prop :=
  ∀ (s : State) (othersHold : Bool) (e : State), s.pins.rst = false → s.unloaded = false →
    e = { s with trig := { s.trig with level := true, detector := some (100 * 50) } } →
    (s.trig.level = true → exec (.triggerEdge othersHold) s = .next s)
    ∧ (s.trig.level = false → ¬ (s.pins.role = .acquirer ∧ s.start.station = .running) →
        exec (.triggerEdge othersHold) s = .next e)
    ∧ (s.trig.level = false → s.pins.role = .acquirer → s.start.station = .running →
        ¬ (s.readsHld othersHold = false ∧ s.agree.exhausted = false ∧ s.agree.pendingTakes.length < 4) →
        exec (.triggerEdge othersHold) s = .next (e.bump .heldEdges))
    ∧ (s.trig.level = false → s.pins.role = .acquirer → s.start.station = .running →
        s.readsHld othersHold = false → s.agree.exhausted = false → s.agree.pendingTakes.length < 4 →
        ∃ t, exec (.triggerEdge othersHold) s = .next t ∧
          t.trig = e.trig ∧ t.count .heldEdges = s.count .heldEdges
            ∧ t.agree.pendingTakes = s.agree.pendingTakes ++ [{ number := s.agree.evn, edgeTime := s.time.counter }])

/-- R25 with R11, R18, R40 and R193: the five effects of an accepted edge, and what it leaves alone. -/
def Obligations.AcceptedEdgeHasFiveEffects : Prop :=
  ∀ (s : State) (othersHold : Bool), s.pins.rst = false → s.trig.level = false →
    s.isAcquirer = true → s.start.station = .running →
    s.readsHld othersHold = false → s.agree.exhausted = false → s.agree.pendingTakes.length < 4 →
    ∃ t, exec (.triggerEdge othersHold) s = .next t ∧
      t.agree = { s.agree with
          evn := if s.agree.evn = maxEvent then 0 else s.agree.evn + 1
          exhausted := decide (s.agree.evn = maxEvent)
          pendingTakes := s.agree.pendingTakes ++ [{ number := s.agree.evn, edgeTime := s.time.counter }] }
        ∧ t.frames.queue.takes = s.frames.queue.takes ++ [
            { frame := { number := BitVec.ofNat 32 s.agree.evn, sender := s.pins.address,
                         time := s.time.counter }, onWire := false, kept := .nothing }]
        ∧ (s.store.records.length < 32 →
            t.store.window = some (s.config.capwin * 50)
              ∧ (s.agree.takeList = [] → t.store.records = s.store.records.map Record.endWindow
                  ++ [newRecord s.agree.evn s.time.counter])
              ∧ t.store.records.map Record.content = s.store.records.map Record.content
                  ++ [(newRecord s.agree.evn s.time.counter).content])
        ∧ (32 ≤ s.store.records.length →
            t.store.window = none ∧ t.count .missedEvents = saturate (s.count .missedEvents)
              ∧ t.store.records.map Record.content = s.store.records.map Record.content
              ∧ (s.agree.evn ≠ maxEvent → s.Raised t .storeOverrun s.agree.evn))
        ∧ (s.store.records.length < 32 → s.agree.evn = maxEvent → s.Raised t .runExhausted maxEvent)
        ∧ (s.store.records.length < 32 → s.agree.evn ≠ maxEvent → t.insp = s.insp)
        ∧ t.frames = { s.frames with queue := { s.frames.queue with
              takes := t.frames.queue.takes, frag := t.frames.queue.frag } }
        ∧ t.start = s.start ∧ t.time = s.time ∧ t.roster = s.roster ∧ t.turn = s.turn ∧ t.build = s.build
        ∧ t.port = s.port ∧ s.SameSetting t

/-- R26: a local trigger request is decided by the first condition of the table that holds. A collector ignores it.
That a station in LOADING refuses and counts it, while a HALTED one ignores it (R176), is the model's reading, log
25. -/
def Obligations.LocalRequestTable : Prop :=
  ∀ (s : State) (othersHold : Bool), s.pins.rst = false →
    (s.pins.role = .collector ∨ s.start.station = .halted →
      exec (.localTriggerRequest othersHold) s = .next s)
    ∧ (s.pins.role = .acquirer → s.start.station ≠ .halted →
      exec (.localTriggerRequest othersHold) s = .next (
        if s.start.station ≠ .running then s.bump .refusedTriggers
        else if s.trig.restarting = true then s.bump .refusedTriggers
        else if s.trig.normalPulse.isSome = true ∨ s.trig.restartPulse.isSome = true then s
        else if s.config.triggerEnable = false then s.bump .refusedTriggers
        else if s.config.trg = .listen then s.bump .refusedTriggers
        else if s.agree.exhausted = true then s.bump .refusedTriggers
        else if s.readsHld othersHold = true then s.bump .refusedTriggers
        else { s with trig := { s.trig with normalPulse := some 50 } }))

/-- R165: the RESTART TRUNK command is refused, merged or driven by the first condition of its table that holds, and
the restart outcome keeps the result; a driven command pulls TRG. R27, R166: at the expiry of a pulse the drive it
made ends; the other pulse of TRG, if it runs, goes on driving. (The command is the end of its transaction, R206.) -/
def Obligations.RestartTrunkTableAndPulses : Prop :=
  ∀ s r : State, s.pins.rst = false → r = { s with insp := { s.insp with line := .released } } →
    exec .restartTrunk s = .next (
      if s.start.station = .loading ∨ s.start.station = .halted ∨ s.start.station = .listening
          ∨ s.start.station = .mute then { r with trig := { s.trig with outcome := .refused } }
      else if s.config.trg = .listen then { r with trig := { s.trig with outcome := .refused } }
      else if s.trig.restartPulse.isSome = true then { r with trig := { s.trig with outcome := .driven } }
      else { r with trig := { s.trig with
        outcome := .driven, normalPulse := none, restartPulse := some (200 * 50) } })
    ∧ (∃ t, exec .restartTrunk s = .next t ∧ (t.trig.outcome = .driven → t.drivesTrg = true))
    ∧ exec .normalPulseExpiry s = .next { s with trig := { s.trig with normalPulse := none } }
    ∧ exec .restartPulseExpiry s = .next { s with trig := { s.trig with restartPulse := none } }
    ∧ (s.trig.restartPulse = none → ∃ t, exec .normalPulseExpiry s = .next t ∧ t.drivesTrg = false)
    ∧ (s.trig.normalPulse = none → ∃ t, exec .restartPulseExpiry s = .next t ∧ t.drivesTrg = false)

/-- R163: the detection of a trunk restart: every block takes its restart values in the one action. With the
detector stopped nothing is detected (the model's choice, log 7); an idle DAT stays idle (the model's choice, log
12); the wait for the epoch and, in every state, the roll-call reason end with the timers (the model's reading, log
24). -/
def Obligations.DetectionEmptiesEveryBlock : Prop :=
  ∀ s : State, s.pins.rst = false →
    (s.trig.detector = none → exec .trunkRestartDetection s = .next s)
    ∧ (s.trig.detector.isSome = true →
      ∃ t, exec .trunkRestartDetection s = .next t ∧
        t.trig = { s.trig with detector := none, restarting := true, normalPulse := none }
          ∧ t.start = { s.start with
              listenTimer := none, rollTimer := none, rollCallReason := false, rollMet := false }
          ∧ t.store.records = [] ∧ t.store.window = none
          ∧ t.agree = { evn := 0, pendingTakes := [], takeList := [], highTake := 0, listFull := false,
                        exhausted := false }
          ∧ t.turn.timer = .stopped ∧ t.turn.heard = 0
          ∧ (∀ a : Addr, t.entry a = RosterEntry.blank)
          ∧ t.frames.queue = Queue.empty ∧ t.frames.failures = 0
          ∧ t.frames.dat = (match s.frames.dat with | .stopped => .stopped | .idle => .idle | _ => .busy)
          ∧ t.build.builds = [] ∧ t.build.lastDelivered = 0
          ∧ (∀ cursor ∈ s.port.state.cursor,
              t.port.state = .abort cursor ∧ t.port.offers = s.port.offers + 1
                ∧ t.port.lp.extractLsb' 29 3 = 5#3 ∧ t.port.lp.extractLsb' 0 11 = BitVec.ofNat 11 cursor
                ∧ t.port.lp.extractLsb' 11 18 = 0#18)
          ∧ (s.port.state.cursor = none → t.port = s.port)
          ∧ t.time = { counter := s.time.counter, state := .unset }
          ∧ t.insp = s.insp ∧ s.SameSetting t
          ∧ t.drivesHld = false)

/-- R162, R164: TRG read released stops the detector; where a restart was detected it ends the restarting span, and
a station in LISTENING, ROLLCALL, JOINING, RUNNING or SILENCED enters ROLLCALL, while a MUTE one stays MUTE. A
station that pulls TRG itself reads no release (the model's reading, log 8). -/
def Obligations.TrgReleaseEndsRestart : Prop :=
  ∀ (s r : State), s.pins.rst = false → s.unloaded = false → s.drivesTrg = false →
    r = { s with trig := { s.trig with level := false, detector := none, restarting := false } } →
    (s.trig.restarting = false ∨ s.start.station = .mute → exec .trgRelease s = .next r)
    ∧ (s.trig.restarting = true → s.start.station ≠ .mute →
        ∃ t, exec .trgRelease s = .next t ∧ s.CallsRoll t ∧ t.trig = r.trig)

/-! ## TAKE frames (Chapter 2, Chapter 10) -/

/-- R32, R33, R39: what a TAKE does to the list, by the first of its four steps that applies; entries that every
PRESENT acquirer has finished leave at once. A number refused by a full list raises TAKE_LIST_FULL with that number,
and nothing further while the reason stands (a run exhausted by the matching raises its own fault, R40). R98: an OPEN
build without a timestamp takes it from the TAKE that fills or appends the entry for its event, and every other build
keeps what it has. -/
def Obligations.TakeListSteps : Prop :=
  ∀ (s : State) (f : TakeFrame), s.Hears (.take f) → s.NoClash (.take f) → s.tracks = true →
    ∃ t, exec (.takeReception f) s = .next t ∧
      (s.listed f.number.toNat = true →
          t.agree.takeList = s.undrained (s.agree.takeList.map fun e =>
              if e.number = f.number.toNat ∧ s.takeTime f.number.toNat = none
              then { e with time := some f.time } else e)
            ∧ t.agree.highTake = s.agree.highTake ∧ t.agree.evn = s.agree.evn
            ∧ t.agree.pendingTakes = s.agree.pendingTakes ∧ t.insp = s.insp ∧ t.time = s.time)
        ∧ (s.listed f.number.toNat = false → f.number.toNat ≤ s.agree.highTake →
          t.agree.takeList = s.undrained s.agree.takeList
            ∧ t.agree.highTake = s.agree.highTake ∧ t.agree.evn = s.agree.evn
            ∧ t.agree.pendingTakes = s.agree.pendingTakes ∧ t.insp = (s.bump .staleTakes).insp ∧ t.time = s.time)
        ∧ (s.listed f.number.toNat = false → s.agree.highTake < f.number.toNat →
            64 ≤ s.agree.takeList.length →
          t.agree.takeList = s.undrained s.agree.takeList ∧ t.agree.highTake = s.agree.highTake
            ∧ t.agree.listFull = decide (48 ≤ t.agree.takeList.length)
            ∧ (s.agree.listFull = false → t.insp.faults.flags.getLsbD 7 = true
                ∧ (s.insp.faults.first = none → t.insp.faults.first = some {
                    code := .takeListFull, context := f.number.toNat
                    time := s.time.counter, state := s.time.state }))
            ∧ (s.agree.listFull = true → t.insp.faults.flags.getLsbD 7 = s.insp.faults.flags.getLsbD 7)
            ∧ (s.matches = false ∨ t.agree.exhausted = false →
                (s.agree.listFull = false → s.Raised t .takeListFull f.number.toNat)
                  ∧ (s.agree.listFull = true → t.insp.faults = s.insp.faults)))
        ∧ (s.listed f.number.toNat = false → s.agree.highTake < f.number.toNat →
            s.agree.takeList.length < 64 →
          t.agree.takeList = s.undrained (s.agree.takeList ++ [{ number := f.number.toNat, time := some f.time }])
            ∧ t.agree.highTake = f.number.toNat
            ∧ t.agree.listFull = (s.agree.listFull && decide (48 ≤ t.agree.takeList.length)))
        ∧ t.build.builds.map (fun b => (b.number, b.time)) = s.build.builds.map (fun b => (b.number,
            if b.number = f.number.toNat ∧ b.state = .opened ∧ b.time = none ∧ s.takeTime f.number.toNat = none
              ∧ (s.listed f.number.toNat = true
                ∨ s.agree.highTake < f.number.toNat ∧ s.agree.takeList.length < 64)
            then some f.time else b.time))
        ∧ t.build.lastDelivered = s.build.lastDelivered
        ∧ t.roster = s.roster ∧ t.start = s.start ∧ t.trig = s.trig ∧ s.SameSetting t ∧ t.frames.dat = .busy

/-- R34, R13, R37: a TAKE for a new number that equals the oldest pending one answers it: the entry and its TAKE
frame go, its record is ANSWERED, and the pair goes to the time base: alignment while UNSET (R195), the skew check
while SET (R196). Nothing else of the entry's record, of the other records, EVN or the other entries changes. -/
def Obligations.TakeAnswersOldestPending : Prop :=
  ∀ (s : State) (f : TakeFrame), s.Hears (.take f) → s.NoClash (.take f) → s.matches = true →
    s.listed f.number.toNat = false → s.agree.highTake < f.number.toNat →
    ∀ p ∈ s.agree.pendingTakes.head?, p.number = f.number.toNat →
    ∃ t, exec (.takeReception f) s = .next t ∧
      t.agree.pendingTakes = s.agree.pendingTakes.tail
        ∧ t.agree.evn = s.agree.evn ∧ t.agree.exhausted = s.agree.exhausted
        ∧ (∀ q ∈ t.frames.queue.takes, q.frame.number ≠ f.number)
        ∧ t.store.window = s.store.window ∧ t.store.records.length = s.store.records.length
        ∧ (t.store.records.filter fun q => q.number ≠ f.number.toNat).map Record.content
            = (s.store.records.filter fun q => q.number ≠ f.number.toNat).map Record.content
        ∧ (t.record? f.number.toNat).isSome = (s.record? f.number.toNat).isSome
        ∧ (∀ r ∈ s.record? f.number.toNat, ∀ q ∈ t.record? f.number.toNat,
            q.content = { r.content with
              answered := true
              flags := { r.flags with tsus := r.flags.tsus
                || (s.time.state = .set && s.config.skewlim ≠ 0
                  && s.config.skewlim < min (f.time - p.edgeTime).toNat (p.edgeTime - f.time).toNat) } })
        ∧ (s.time.state = .unset →
            t.time = { counter := s.time.counter + (f.time - p.edgeTime), state := .set }
              ∧ t.insp.counters = s.insp.counters)
        ∧ (s.time.state = .set → t.time = s.time
            ∧ t.insp.counters = (if s.config.skewlim ≠ 0
                ∧ s.config.skewlim < min (f.time - p.edgeTime).toNat (p.edgeTime - f.time).toNat
              then (s.bump .timeSuspects).insp.counters else s.insp.counters))
        ∧ t.roster = s.roster ∧ t.start = s.start ∧ t.trig = s.trig ∧ s.SameSetting t

/-- R35, R13, R40: a TAKE for a new number other than the oldest pending one moves every pending entry, every record
whose TAKE is pending and EVN by the difference and counts NUMBER_SLIPS; what would pass the last number is discarded
and the run is exhausted. Every TAKE frame that waits is replaced by one with the new number (R30). The oldest entry
is then answered: it and its frame go, its record is ANSWERED, and the pair goes to the time base (R34, R37, R194 to
R196). (That EVN beyond the last number exhausts the run is the model's reading, log 23; that no frame is offered for
an entry whose TAKE frame was sent before, its choice, log 38; where the store holds an answered record of that number
already, log 28, the first one of the number is meant; that in that corner a PENDING record carried below 1 has the
number 0, its choice, log 53.) -/
def Obligations.TakeRenumbersPending : Prop :=
  ∀ (s : State) (f : TakeFrame), s.Hears (.take f) → s.NoClash (.take f) → s.matches = true →
    s.listed f.number.toNat = false → s.agree.highTake < f.number.toNat →
    ∀ p ∈ s.agree.pendingTakes.head?, p.number ≠ f.number.toNat →
    ∃ t, exec (.takeReception f) s = .next t ∧
      t.agree.pendingTakes = s.agree.pendingTakes.tail.filterMap (fun q =>
          if q.number + f.number.toNat - p.number ≤ maxEvent
          then some { q with number := q.number + f.number.toNat - p.number } else none)
        ∧ t.agree.exhausted = (s.agree.exhausted
            || s.agree.pendingTakes.any (fun q => maxEvent < q.number + f.number.toNat - p.number)
            || maxEvent < s.agree.evn + f.number.toNat - p.number)
        ∧ (t.agree.exhausted = false → t.agree.evn = s.agree.evn + f.number.toNat - p.number)
        ∧ (s.agree.exhausted = false → t.agree.exhausted = true →
            t.agree.evn = 0 ∧ t.insp.faults.flags.getLsbD 8 = true)
        ∧ t.count .numberSlips = saturate (s.count .numberSlips)
        ∧ t.store.records.map (fun r => (r.number, r.edgeTime, r.samples, r.flags.renum,
              r.answered || decide (r.number = f.number.toNat)))
            = s.store.records.filterMap (fun r =>
              if r.answered = true then some (r.number, r.edgeTime, r.samples, r.flags.renum, true)
              else if r.number + f.number.toNat - p.number ≤ maxEvent
              then some (r.number + f.number.toNat - p.number, r.edgeTime, r.samples, true,
                decide (r.number + f.number.toNat - p.number = f.number.toNat)) else none)
        ∧ (∀ r ∈ t.record? f.number.toNat, r.answered = true)
        ∧ (∀ r ∈ s.store.records.find? (fun q : Record => q.number = p.number && !q.answered),
            (∀ q ∈ s.store.records, q.answered = true → q.number ≠ f.number.toNat) →
              (t.record? f.number.toNat).isSome = true ∧ ∀ q ∈ t.record? f.number.toNat,
                q.content = { r with
                  number := f.number.toNat, state := .ready, answered := true
                  flags := { r.flags with
                    renum := true
                    tsus := r.flags.tsus || (s.time.state = .set && s.config.skewlim ≠ 0
                      && s.config.skewlim < min (f.time - p.edgeTime).toNat (p.edgeTime - f.time).toNat) } })
        ∧ (s.time.state = .unset →
            t.time = { counter := s.time.counter + (f.time - p.edgeTime), state := .set }
              ∧ t.count .timeSuspects = s.count .timeSuspects)
        ∧ (s.time.state = .set → t.time = s.time
            ∧ t.count .timeSuspects = (if s.config.skewlim ≠ 0
                ∧ s.config.skewlim < min (f.time - p.edgeTime).toNat (p.edgeTime - f.time).toNat
              then saturate (s.count .timeSuspects) else s.count .timeSuspects))
        ∧ t.frames.queue.takes =
            (if s.isOwn (.take f) then s.frames.queue.leaveSent else s.frames.queue.leaveUnsent).takes.filterMap
              (fun q =>
                if q.frame.number.toNat + f.number.toNat - p.number ≤ maxEvent
                  ∧ q.frame.number.toNat + f.number.toNat - p.number ≠ f.number.toNat
                then some {
                  frame := { q.frame with
                    number := BitVec.ofNat 32 (q.frame.number.toNat + f.number.toNat - p.number) }
                  onWire := false, kept := .nothing }
                else none)
        ∧ t.roster = s.roster ∧ t.start = s.start ∧ t.trig = s.trig ∧ s.SameSetting t

/-- R36, R40, R41: with nothing pending, an acquirer that is not run-exhausted follows a TAKE for a new number at or
above EVN: EVN becomes N + 1, or 0 with run exhaustion at the last number. Below EVN, and when exhausted, EVN stays.
No pair goes to the time base and no record changes. -/
def Obligations.TakeCatchesUp : Prop :=
  ∀ (s : State) (f : TakeFrame), s.Hears (.take f) → s.NoClash (.take f) → s.matches = true →
    s.listed f.number.toNat = false → s.agree.highTake < f.number.toNat → s.agree.pendingTakes = [] →
    ∃ t, exec (.takeReception f) s = .next t ∧
      (s.agree.exhausted = true ∨ f.number.toNat < s.agree.evn →
          t.agree.evn = s.agree.evn ∧ t.agree.exhausted = s.agree.exhausted ∧ t.insp.counters = s.insp.counters)
        ∧ (s.agree.exhausted = false → s.agree.evn ≤ f.number.toNat → f.number.toNat < maxEvent →
          t.agree.evn = f.number.toNat + 1 ∧ t.agree.exhausted = false
            ∧ t.insp.counters = (s.bump .missedEdges).insp.counters)
        ∧ (s.agree.exhausted = false → s.agree.evn ≤ f.number.toNat → f.number.toNat = maxEvent →
          t.agree.evn = 0 ∧ t.agree.exhausted = true ∧ t.insp.counters = (s.bump .missedEdges).insp.counters
            ∧ t.insp.faults.flags.getLsbD 8 = true)
        ∧ t.agree.pendingTakes = [] ∧ t.time = s.time
        ∧ t.store.records.map Record.content = s.store.records.map Record.content
        ∧ t.roster = s.roster ∧ t.start = s.start ∧ t.trig = s.trig ∧ s.SameSetting t

/-! ## FRAG parts and SKIPs (Chapters 3, 4 and 1) -/

/-- R56, R57, R16: a member's current final part sets its mark to N and its miss count to 0, and raises every member
before it to N; the station's own one frees its SENDING record. No other entry changes. An ABSENT sender is a member
from this part on (R81). The part shows how far the trunk has counted (R38, R39, R79). (That a full list is decided
before the own pending numbers is the model's reading, log 18; that a collector's own address is not learned is its
choice, log 37; that an own LOST part frees a SENDING record of its number, its choice, log 46.) -/
def Obligations.FinalPartMovesMarks : Prop :=
  ∀ (s : State) (f : FragFrame), s.Hears (.frag f) → s.NoClash (.frag f) → s.tracks = true →
    s.heeds f.sender = true → s.mark f.sender < f.number.toNat → f.last = true →
    ∃ t, exec (.fragReception f) s = .next t ∧
      (∀ a : Addr, t.entry a =
          if a = f.sender then { s.heardEntry a with mark := f.number.toNat, misses := 0 }
          else if s.isMember a = true ∧ a < f.sender then
            { s.entry a with mark := max (s.mark a) f.number.toNat }
          else s.entry a)
        ∧ (s.isOwn (.frag f) = false →
            t.store.records.map Record.content = s.store.records.map Record.content
              ∧ t.store.window = s.store.window)
        ∧ (s.isOwn (.frag f) = true → ∀ r ∈ s.record? f.number.toNat, r.state = .sending →
            t.store.records.map Record.content
              = (s.store.records.eraseP fun q => q.number = f.number.toNat).map Record.content)
        ∧ (s.isOwn (.frag f) = true → s.record? f.number.toNat = none →
            t.store.records.map Record.content = s.store.records.map Record.content)
        ∧ s.CountsFrom t f.number.toNat
        ∧ t.agree.evn = s.agree.evn ∧ t.agree.pendingTakes = s.agree.pendingTakes
        ∧ t.agree.exhausted = s.agree.exhausted ∧ t.time = s.time ∧ t.start = s.start ∧ t.trig = s.trig
        ∧ t.count .txRetries = s.count .txRetries ∧ t.pins = s.pins ∧ t.config = s.config ∧ t.frames.dat = .busy
        ∧ (s.isOwn (.frag f) = true → t.frames.failures = 0)

/-- R57, R58, R59: a member's current part that is not final leaves its miss count and keeps its mark below N; where N
is the next event of the station's skipped member, one more part is heard (at most 3) and a timer on it starts again
with TURN. The station's own one raises parts sent (R15). An ABSENT sender is a member from this part on (R81), and
the part shows how far the trunk has counted (R38, R39, R79). (That the count rests at 3 is the model's reading, log
17; that a full list is decided before the own pending numbers, log 18; that a collector's own address is not learned,
its choice, log 37; that the timer is evaluated before the marks move and again after, its choice, log 54.) -/
def Obligations.NonFinalPartCountsAndRestarts : Prop :=
  ∀ (s : State) (f : FragFrame), s.Hears (.frag f) → s.NoClash (.frag f) → s.tracks = true → s.TimerInv →
    s.heeds f.sender = true → s.mark f.sender < f.number.toNat → f.last = false →
    ∃ t, exec (.fragReception f) s = .next t ∧
      t.mark f.sender < f.number.toNat ∧ s.mark f.sender ≤ t.mark f.sender
        ∧ t.entry f.sender = { s.heardEntry f.sender with mark := t.mark f.sender }
        ∧ (∀ a : Addr, a ≠ f.sender → t.entry a =
            if s.isMember a = true ∧ a < f.sender then { s.entry a with mark := max (s.mark a) f.number.toNat }
            else s.entry a)
        ∧ (t.turn.watched = some (f.sender, f.number.toNat) →
            t.turn.heard = min 3
                ((if s.turn.watched = some (f.sender, f.number.toNat) then s.turn.heard else 0) + 1)
              ∧ (t.turn.timer = .stopped
                ∨ t.turn.timer = .running f.sender f.number.toNat (s.config.turn * 50)))
        ∧ (s.isOwn (.frag f) = true → ∀ r ∈ s.record? f.number.toNat, r.state = .sending →
            (t.record? f.number.toNat).map Record.content
              = some { r.content with partsSent := r.partsSent + 1 })
        ∧ s.CountsFrom t f.number.toNat
        ∧ t.agree.evn = s.agree.evn ∧ t.agree.pendingTakes = s.agree.pendingTakes
        ∧ t.time = s.time ∧ t.start = s.start ∧ t.trig = s.trig ∧ s.SameSetting t

/-- R55, R63, R82, R94: a part of a member whose mark is at N or beyond is late: LATE_FRAGS counts it and no mark
moves; the store still takes the station's own part back (R15, R16, R66). A part whose sender is no member and not
ABSENT, and in a collector MISMATCHED or a COLLECTOR, moves and counts nothing, and reaches no build. A SKIP too late,
and one whose subject is neither a member nor ABSENT, is ignored: no mark, no miss count, no counter, no record; its
sender's own count of SKIPs alone rises (R62). Both show how far the trunk has counted (R38, R39, R79). None of these
reaches the build unit, whose builds are settled alone (R88, R106). A part from a collector's own ABSENT address,
which comes to one with the mute attribute, and a SKIP for such an address count here too: R81 by its letter would
learn it as an acquirer, and R47 keeps a collector out of its own turn order (that it is not learned is the model's
choice, log 37, and so is that its part is not built, log 52). That a part of a SILENT or CALLING sender with role
COLLECTOR reaches no build is a choice too, between two rows of R94's table (log 51). (A full list is decided before
the own pending numbers, log 18; the own SKIP stops the timer first, log 34; the model's readings. An own LOST part
frees a SENDING record of its number, its choice, log 46.) -/
def Obligations.LatePartsAndSkipsMoveNothing : Prop :=
  ∀ (s : State) (f : FragFrame) (k : SkipFrame), s.tracks = true →
    (s.Hears (.frag f) → s.NoClash (.frag f) → s.isMember f.sender = true → f.number.toNat ≤ s.mark f.sender →
      ∃ t, exec (.fragReception f) s = .next t ∧
        t.roster = s.roster ∧ t.insp.counters = (s.bump .lateFrags).insp.counters
          ∧ t.build.builds.map (fun b => (b.number, b.samples)) = s.build.builds.map (fun b => (b.number, b.samples))
          ∧ (s.TableInv → s.SettlesBuilds t)
          ∧ (s.isOwn (.frag f) = false ∨ (∀ r ∈ s.record? f.number.toNat, r.state ≠ .sending) →
              t.store.records.map Record.content = s.store.records.map Record.content)
          ∧ (s.isOwn (.frag f) = true → ∀ r ∈ s.record? f.number.toNat, r.state = .sending →
              (f.last = true → t.store.records.map Record.content
                = (s.store.records.eraseP fun q => q.number = f.number.toNat).map Record.content)
              ∧ (f.last = false → (t.record? f.number.toNat).map Record.content
                = some { r.content with partsSent := r.partsSent + 1 }))
          ∧ s.CountsFrom t f.number.toNat
          ∧ t.agree.evn = s.agree.evn ∧ t.agree.pendingTakes = s.agree.pendingTakes
          ∧ t.time = s.time ∧ t.start = s.start ∧ t.trig = s.trig ∧ s.SameSetting t)
    ∧ (s.Hears (.frag f) → s.NoClash (.frag f) → s.heeds f.sender = false →
      s.builds = false ∨ (s.entry f.sender).state ≠ .silent ∧ (s.entry f.sender).state ≠ .calling
        ∨ (s.entry f.sender).role = some .collector →
      ∃ t, exec (.fragReception f) s = .next t ∧
        t.roster = s.roster ∧ t.insp.counters = s.insp.counters ∧ (s.TableInv → s.SettlesBuilds t)
          ∧ (s.isOwn (.frag f) = false ∨ (∀ r ∈ s.record? f.number.toNat, r.state ≠ .sending) →
              t.store.records.map Record.content = s.store.records.map Record.content)
          ∧ (s.TimerInv → t.turn.heard = (if t.turn.watched = s.turn.watched then s.turn.heard else 0))
          ∧ s.CountsFrom t f.number.toNat
          ∧ t.agree.evn = s.agree.evn ∧ t.agree.pendingTakes = s.agree.pendingTakes
          ∧ t.time = s.time ∧ t.start = s.start ∧ t.trig = s.trig ∧ s.SameSetting t)
    ∧ (s.Hears (.skip k) → s.NoClash (.skip k) →
        s.heeds k.subject = false ∨ s.isMember k.subject = true ∧ k.number.toNat ≤ s.mark k.subject →
      ∃ t, exec (.skipReception k) s = .next t ∧
        t.roster = s.roster
          ∧ t.insp.counters = (if s.isOwn (.skip k) then (s.bump .skipsSent).insp.counters else s.insp.counters)
          ∧ t.build.builds.map (fun b => (b.number, b.samples)) = s.build.builds.map (fun b => (b.number, b.samples))
          ∧ (s.TableInv → s.SettlesBuilds t)
          ∧ t.store.records.map Record.content = s.store.records.map Record.content
          ∧ s.CountsFrom t k.number.toNat
          ∧ t.agree.evn = s.agree.evn ∧ t.agree.pendingTakes = s.agree.pendingTakes
          ∧ t.time = s.time ∧ t.start = s.start ∧ t.trig = s.trig ∧ s.SameSetting t)

/-- R63, R82: a SKIP that takes effect against another member sets its mark to N and raises its miss count; at MISSLIM
it is SILENT. The mark of no one else moves, no part of the station's own changes, and its own SKIP is counted (R62)
and leaves its place (R139). A SKIP this station has offered for the subject is withdrawn, and its timer is no longer
SKIPPING (R61). An ABSENT subject is a member from this SKIP on (R81), and the SKIP shows how far the trunk has
counted (R38, R39, R79). (A full list is decided before the own pending numbers, log 18; the own SKIP stops the timer
first, log 34; the model's readings.) -/
def Obligations.SkipTakesEffect : Prop :=
  ∀ (s : State) (k : SkipFrame), s.Hears (.skip k) → s.NoClash (.skip k) → s.tracks = true →
    s.heeds k.subject = true → s.mark k.subject < k.number.toNat → k.subject ≠ s.pins.address →
    ∃ t, exec (.skipReception k) s = .next t ∧
      (∀ a : Addr, t.entry a =
          if a = k.subject then { s.heardEntry a with
            mark := k.number.toNat, misses := (s.heardEntry a).misses + 1
            state := if s.config.misslim ≤ (s.heardEntry a).misses + 1 then .silent else .present }
          else s.entry a)
        ∧ t.count .skipsSent = (if s.isOwn (.skip k) then saturate (s.count .skipsSent) else s.count .skipsSent)
        ∧ t.count .lateDrops = s.count .lateDrops
        ∧ t.store.records.map Record.content = s.store.records.map Record.content
        ∧ t.turn.timer.bound ≠ some (k.subject, k.number.toNat)
        ∧ t.turn.timer.skips.map (fun x => x.1) ≠ some k.subject
        ∧ (s.SkipInv → (∀ p ∈ t.frames.queue.skip, p.frame.subject ≠ k.subject)
            ∧ (s.isOwn (.skip k) = true → t.frames.queue.skip = none))
        ∧ s.CountsFrom t k.number.toNat
        ∧ t.agree.evn = s.agree.evn ∧ t.agree.pendingTakes = s.agree.pendingTakes
        ∧ t.time = s.time ∧ t.start = s.start ∧ t.trig = s.trig ∧ s.SameSetting t

/-- R64, R19, R84: a SKIP that takes effect against the station itself discards its record of the event, counting
LATE_DROPS, and moves its own mark; at MISSLIM a RUNNING acquirer raises SILENCED, enters SILENCED with an empty
store, nothing offered but its TAKEs and a JOIN, and keeps its pending entries. A MUTE acquirer raises SILENCED there,
stays MUTE and offers nothing. -/
def Obligations.OwnSkipDropsAndSilences : Prop :=
  ∀ (s : State) (k : SkipFrame), s.Hears (.skip k) → s.Foreign (.skip k) → s.isAcquirer = true →
    s.start.station = .running ∨ s.start.station = .mute ∧ s.Coherent →
    k.subject = s.pins.address → s.isMember k.subject = true → s.mark k.subject < k.number.toNat →
    ∃ t, exec (.skipReception k) s = .next t ∧
      (s.start.station = .mute →
          t.start = s.start ∧ t.store = Store.empty ∧ t.frames.queue = Queue.empty ∧ t.turn.timer = .stopped
            ∧ (s.config.misslim ≤ s.ownEntry.misses + 1 → t.insp.faults.flags.getLsbD 6 = true
                ∧ (s.agree.takeList.length < 64 → s.Raised t .silenced k.number.toNat)))
        ∧ (s.start.station = .running → s.ownEntry.misses + 1 < s.config.misslim →
          t.start = s.start
            ∧ t.store.records.map Record.content
              = (s.store.records.eraseP fun q => q.number = k.number.toNat).map Record.content)
        ∧ (s.start.station = .running → s.config.misslim ≤ s.ownEntry.misses + 1 →
          t.start = { s.start with station := .silenced }
            ∧ t.store = Store.empty ∧ t.frames.queue.frag = none ∧ t.frames.queue.skip = none
            ∧ t.turn = Turn.blank
            ∧ t.frames.queue.roll.map (fun p => (p.frame.mode, p.frame.field)) =
                (if s.start.muteAttr then t.frames.queue.roll.map (fun p => (p.frame.mode, p.frame.field))
                 else some (.join, t.joinPoint))
            ∧ t.insp.faults.flags.getLsbD 6 = true)
        ∧ t.count .lateDrops = (if (s.record? k.number.toNat).isSome then saturate (s.count .lateDrops)
            else s.count .lateDrops)
        ∧ t.entry k.subject = { s.entry k.subject with
            mark := k.number.toNat, misses := s.ownEntry.misses + 1
            state := if s.config.misslim ≤ s.ownEntry.misses + 1 then .silent else .present }
        ∧ (∀ a : Addr, a ≠ k.subject → t.entry a = s.entry a)
        ∧ t.agree.evn = s.agree.evn ∧ t.agree.pendingTakes = s.agree.pendingTakes
        ∧ t.frames.queue.takes.map (·.frame) = s.frames.queue.leaveUnsent.takes.map (·.frame)
        ∧ t.time = s.time ∧ t.trig = s.trig ∧ s.SameSetting t

/-- R60: at the expiry of the turn timer a SKIP with the event, the subject, the reason and the parts heard enters
the SKIP place, and the timer is SKIPPING. With no timer RUNNING nothing expires (the model's choice, log 7). -/
def Obligations.TurnTimerExpiryOffersSkip : Prop :=
  ∀ (s : State) (m : Addr) (n left : Nat) (k : SkipFrame), s.pins.rst = false →
    k = { number := BitVec.ofNat 32 n, sender := s.pins.address, subject := m
          reason := if s.turn.heard = 0 then .noStart else .stalled, heard := BitVec.ofNat 3 s.turn.heard } →
    (s.turn.timer = .running m n left →
      exec .turnTimerExpiry s = .next { s with
        turn := { s.turn with timer := .skipping m n }
        frames := { s.frames with queue := { s.frames.queue with
          skip := Place.offer k s.frames.queue.skip } } })
    ∧ ((∀ x ∈ s.turn.timer.bound, s.turn.timer = .skipping x.1 x.2) → exec .turnTimerExpiry s = .next s)

/-! ## ROLL frames (Chapters 4 and 9) -/

/-- R76, R77, R80: a CALL, a JOIN or an ECHO of another station with a matching signature, in JOINING, RUNNING,
SILENCED and MUTE, changes the sender's entry by its mode and no other entry (in a MUTE acquirer, which detects no
clash, also at its own address, R86); role and count come from the frame. Where the sender leaves the turn order by
it, its WAITING contributions to OPEN builds become NOT_EXPECTED (R103), and the builds that every PRESENT acquirer
has then finished close COMPLETE (R106). -/
def Obligations.RollOfAnotherStation : Prop :=
  ∀ (s : State) (f : RollFrame), s.Hears (.roll f) → s.isOwn (.roll f) = false →
    f.sender ≠ s.pins.address ∨ s.isAcquirer = true ∧ s.detectsClash = false → s.tracks = true →
    f.signature = s.config.signature →
    ∃ t, exec (.rollReception f) s = .next t ∧
      (f.mode = .call → t.entry f.sender = { s.entry f.sender with
          role := some f.role, count := f.count
          state := if (s.entry f.sender).state = .silent then .silent else .calling
          mark := if (s.entry f.sender).state = .present then 0 else s.mark f.sender
          misses := if (s.entry f.sender).state = .silent then (s.entry f.sender).misses else 0 })
        ∧ (f.mode = .join → t.entry f.sender = { s.entry f.sender with
            role := some f.role, count := f.count, state := .present, misses := 0
            mark := max (s.mark f.sender) (if f.field = 0 then maxEvent else f.field.toNat - 1) })
        ∧ (f.mode = .echo → t.entry f.sender = if (s.entry f.sender).state = .present then
            { s.entry f.sender with role := some f.role, count := f.count } else s.entry f.sender)
        ∧ (∀ a : Addr, a ≠ f.sender → t.entry a = s.entry a)
        ∧ (f.mode = .call → s.start.station = .running → s.start.muteAttr = false →
            (s.frames.queue.roll.bind Place.leaveUnsent) = none →
            t.frames.queue.roll.map (fun p => (p.frame.mode, p.frame.field)) = some (.echo, t.joinPoint))
        ∧ (f.mode = .echo → ∀ p ∈ t.frames.queue.roll, p.frame.mode ≠ .echo)
        ∧ t.agree.highTake = (if s.start.station = .joining ∧ f.mode ≠ .call
            then max s.agree.highTake (if f.field = 0 then maxEvent else f.field.toNat - 1) else s.agree.highTake)
        ∧ t.agree.evn = s.agree.evn ∧ t.agree.pendingTakes = s.agree.pendingTakes ∧ t.insp = s.insp
        ∧ t.store.records.map Record.content = s.store.records.map Record.content
        ∧ (s.TableInv → s.SettlesBuilds t) ∧ t.build.lastDelivered = s.build.lastDelivered
        ∧ t.time = s.time ∧ t.start = s.start ∧ t.trig = s.trig ∧ s.SameSetting t

/-- R78, R28: the station's own JOIN received back in JOINING or SILENCED makes it RUNNING and its own entry PRESENT
with the mark J − 1 or its kept higher one; an acquirer's EVN becomes the larger of EVN and J, and the field 0
exhausts its run. In another state that takes ROLL frames the entry alone changes so. R80: its own ECHO received back
updates role and count of its own entry when that is PRESENT. R139: the sent frame leaves the ROLL place to a kept
offer, and the failure count is 0. (That an exhausted run is not exhausted again is the model's reading, log 22.) -/
def Obligations.OwnJoinEntersRunning : Prop :=
  ∀ (s : State) (f : RollFrame), s.Hears (.roll f) → s.isOwn (.roll f) = true → s.tracks = true → f.mode ≠ .call →
    ∃ t, exec (.rollReception f) s = .next t ∧
      (f.mode = .join → t.entry f.sender = { s.entry f.sender with
            role := some f.role, count := f.count, state := .present, misses := 0
            mark := max (s.mark f.sender) (if f.field = 0 then maxEvent else f.field.toNat - 1) })
        ∧ (f.mode = .echo → t.entry f.sender = if (s.entry f.sender).state = .present then
            { s.entry f.sender with role := some f.role, count := f.count } else s.entry f.sender)
        ∧ (∀ a : Addr, a ≠ f.sender → t.entry a = s.entry a)
        ∧ (f.mode = .join → s.start.station = .joining ∨ s.start.station = .silenced →
          t.start = { s.start with station := .running }
            ∧ (s.isCollector = true ∨ s.agree.exhausted = true →
                t.agree.evn = s.agree.evn ∧ t.agree.exhausted = s.agree.exhausted ∧ t.insp = s.insp)
            ∧ (s.isAcquirer = true → s.agree.exhausted = false → f.field ≠ 0 →
                t.agree.evn = max s.agree.evn f.field.toNat ∧ t.agree.exhausted = false ∧ t.insp = s.insp)
            ∧ (s.isAcquirer = true → s.agree.exhausted = false → f.field = 0 →
                t.agree.evn = 0 ∧ t.agree.exhausted = true ∧ s.Raised t .runExhausted maxEvent))
        ∧ (f.mode = .echo ∨ s.start.station = .running ∨ s.start.station = .mute →
          t.start = s.start ∧ t.agree.evn = s.agree.evn ∧ t.agree.exhausted = s.agree.exhausted ∧ t.insp = s.insp)
        ∧ t.frames.queue.roll.map (·.frame) = (s.frames.queue.roll.bind Place.keptOffer).map (fun g =>
            if g.mode = .call then g else { g with field := t.joinPoint })
        ∧ t.agree.pendingTakes = s.agree.pendingTakes ∧ t.agree.highTake = s.agree.highTake
        ∧ (s.TableInv → s.SettlesBuilds t)
        ∧ t.time = s.time ∧ t.trig = s.trig ∧ s.SameSetting t ∧ t.frames.failures = 0

/-- R75, R181: a ROLL of another station with a differing signature makes the sender MISMATCHED, with role and count
stored; SIGNATURE_MISMATCH is raised at the first such ROLL alone, and the frame moves no one else; a CALL still draws
an ECHO from a RUNNING station whose ROLL place is empty (R80); but an ECHO in ROLLCALL then ends the roll call like
any other (R184): JOINING, the PRESENT entries CALLING, and a JOIN offered. A MISMATCHED member's WAITING
contributions are no longer expected, and finished builds close (R103, R106). A frame at the address of a collector
with the mute attribute raises the fault, once for the frame, and leaves the collector's own entry alone (the model's
choice, log 37). -/
def Obligations.DifferingSignatureMismatches : Prop :=
  ∀ (s : State) (f : RollFrame), s.Hears (.roll f) → s.isOwn (.roll f) = false →
    f.sender ≠ s.pins.address ∨ s.detectsClash = false →
    s.tracks = true ∨ s.start.station = .rollcall → f.signature ≠ s.config.signature →
    ∃ t, exec (.rollReception f) s = .next t ∧
      (f.sender ≠ s.pins.address ∨ s.isAcquirer = true →
          t.entry f.sender = { s.entry f.sender with role := some f.role, count := f.count, state := .mismatched })
        ∧ (s.start.station ≠ .rollcall ∨ f.mode ≠ .echo →
            (∀ a : Addr, a ≠ f.sender → t.entry a = s.entry a)
              ∧ (f.sender = s.pins.address → s.isCollector = true → t.roster = s.roster)
              ∧ (s.TableInv → s.SettlesBuilds t)
              ∧ t.agree.evn = s.agree.evn ∧ t.agree.highTake = s.agree.highTake ∧ t.start = s.start)
        ∧ (s.start.station = .rollcall → f.mode = .echo →
            (∀ a : Addr, a ≠ f.sender ∨ f.sender = s.pins.address → t.entry a = { s.entry a with
                state := if (s.entry a).state = .present then .calling else (s.entry a).state })
              ∧ t.agree = Agreement.blank ∧ t.store = Store.empty ∧ t.build = BuildUnit.empty
              ∧ t.start = { s.start with
                  station := if s.start.muteAttr then .running else .joining, listenTimer := none
                  rollTimer := none, rollCallReason := false, rollMet := false }
              ∧ (s.start.muteAttr = false →
                  t.frames.queue.roll.map (fun p => (p.frame.mode, p.frame.field)) = some (.join, 1#32)))
        ∧ (f.mode = .call → s.start.station = .running → s.start.muteAttr = false →
            (s.frames.queue.roll.bind Place.leaveUnsent) = none →
            t.frames.queue.roll.map (fun p => (p.frame.mode, p.frame.field)) = some (.echo, t.joinPoint))
        ∧ ((s.entry f.sender).state = .mismatched → t.insp = s.insp)
        ∧ ((s.entry f.sender).state ≠ .mismatched → s.Raised t .signatureMismatch f.sender.val)
        ∧ t.insp.counters = s.insp.counters
        ∧ t.time = s.time ∧ t.trig = s.trig ∧ s.SameSetting t

/-- R181, R184, R180: in ROLLCALL a CALL of another station makes it PRESENT with mark and miss count 0; the station's
own CALL does so for itself and starts the roll timer; a matching ECHO ends the roll call: JOINING (a collector with
the mute attribute RUNNING), the PRESENT entries CALLING, a JOIN in the ROLL place. R32, R68, R73, R179: a TAKE, FRAG
or SKIP received in ROLLCALL moves no list, no mark, no roster entry and no build. -/
def Obligations.RollcallTakesRollFrames : Prop :=
  ∀ (s : State) (f : RollFrame) (g : Frame), s.start.station = .rollcall → s.agree = Agreement.blank →
   (s.Hears (.roll f) → s.isOwn (.roll f) = true ∨ f.sender ≠ s.pins.address → f.signature = s.config.signature →
    ∃ t, exec (.rollReception f) s = .next t ∧
      (f.mode = .call →
          t.entry f.sender = { s.entry f.sender with
              role := some f.role, count := f.count, state := .present, mark := 0, misses := 0 }
            ∧ (∀ a : Addr, a ≠ f.sender → t.entry a = s.entry a)
            ∧ t.start = (if s.isOwn (.roll f)
                then { s.start with rollTimer := some (Config.msTicks s.config.rolltime) } else s.start))
        ∧ (f.mode = .join → t.roster = s.roster ∧ t.start = s.start)
        ∧ (f.mode = .echo → s.isOwn (.roll f) = false →
          t.start = { s.start with
              station := if s.start.muteAttr then .running else .joining, listenTimer := none
              rollTimer := none, rollCallReason := false, rollMet := false }
            ∧ (∀ a : Addr, (s.entry a).state = .present → (t.entry a).state = .calling
                ∧ t.mark a = s.mark a ∧ (t.entry a).misses = (s.entry a).misses)
            ∧ (s.start.muteAttr = false → t.agree.highTake = (if f.field = 0 then maxEvent else f.field.toNat - 1)
                ∧ t.frames.queue.roll.map (fun p => (p.frame.mode, p.frame.field)) = some (.join, t.joinPoint)))
        ∧ t.agree.evn = 0 ∧ t.agree.takeList = [] ∧ t.insp = s.insp
        ∧ t.time = s.time ∧ t.trig = s.trig ∧ s.SameSetting t)
   ∧ (s.Hears g → s.NoClash g → g.isRoll = false →
    ∃ t, exec g.reception s = .next t ∧
      t.roster = s.roster ∧ t.agree = s.agree ∧ (s.Emptied → t.Emptied ∧ t.port = s.port)
        ∧ t.start = s.start ∧ t.insp = s.insp ∧ t.time = s.time ∧ t.trig = s.trig ∧ s.SameSetting t
        ∧ t.frames.dat = .busy)

/-- R86: a frame of another station that carries this station's address makes an acquirer MUTE, with its store, its
pending entries, its transmit queue, its timers and its pulses gone, while a roll-call reason stands on without a
drive (R155, R156), and gives a collector the mute attribute: a JOINING one is RUNNING at once, and one in ROLLCALL
starts a roll timer not yet started (R180), which every clashing frame but an ECHO leaves running (an ECHO ends the
roll call, R184). A JOINING or RUNNING collector's own entry stays as it was (R87; that it stays whatever the clashing
frame is, is the model's choice, log 37). While restarting, the clash check acts (R147), no owner has the frame
(R163), and a well-formed frame that is no clash changes nothing but DAT (that all the clash's effects come then too
is the model's reading, log 15). -/
def Obligations.AddressClashMutes : Prop :=
  ∀ (s : State) (f : Frame), s.takesFrame = true → frameValid f = true →
   (s.isOwn f = false → frameSender f = s.pins.address → s.detectsClash = true →
    ∃ t, exec f.reception s = .next t ∧
      t.insp.faults.flags.getLsbD 4 = true
        ∧ (s.insp.faults.first = none → t.insp.faults.first = some
            { code := .addressClash, context := (frameField f).toNat, time := s.time.counter, state := s.time.state })
        ∧ (s.isAcquirer = true →
            t.start.station = .mute ∧ t.start.listenTimer = none ∧ t.start.rollTimer = none
              ∧ t.start.rollCallReason = s.start.rollCallReason
              ∧ t.store = Store.empty ∧ t.agree.pendingTakes = []
              ∧ t.frames.queue = Queue.empty ∧ t.turn.timer = .stopped
              ∧ t.trig = { s.trig with normalPulse := none, restartPulse := none }
              ∧ t.drivesHld = false ∧ t.drivesTrg = false ∧ t.sending = false)
        ∧ (s.isCollector = true →
            t.start.muteAttr = true ∧ t.frames.queue = Queue.empty ∧ t.sending = false ∧ t.trig = s.trig
              ∧ (s.RosterInv → s.start.station = .joining ∨ s.start.station = .running → t.ownEntry = s.ownEntry)
              ∧ (s.start.station = .joining → t.start.station = .running)
              ∧ (s.start.station = .rollcall → s.start.rollTimer = none → s.start.rollMet = false →
                  s.trig.restarting = true ∨ f.isEcho = false →
                  t.start.station = .rollcall ∧ t.start.rollTimer = some (Config.msTicks s.config.rolltime)))
        ∧ (s.trig.restarting = true →
            t.roster = s.roster ∧ t.build = s.build ∧ t.port = s.port ∧ t.time = s.time ∧ t.freeIndex = s.freeIndex
              ∧ s.Raised t .addressClash (frameField f).toNat ∧ t.insp.counters = s.insp.counters
              ∧ (s.isAcquirer = true → t.agree = { s.agree with pendingTakes := [] })
              ∧ (s.isCollector = true → t.agree = s.agree ∧ t.store = s.store ∧ t.turn = s.turn
                ∧ (s.start.station ≠ .joining → t.start.station = s.start.station)))
        ∧ t.pins = s.pins ∧ t.config = s.config ∧ t.frames.failures = s.frames.failures)
   ∧ (s.trig.restarting = true → s.NoClash f →
    ∃ t, exec f.reception s = .next t ∧
      t = { s with frames := t.frames } ∧ t.frames.dat = .busy
        ∧ (s.RestartQuiet → t.frames.queue = Queue.empty))

/-! ## Event building (Chapter 5) -/

/-- R94, R96, R99, R100, R102, R104, R107: a part above the delivery floor, a member's current one or that of a SILENT
or CALLING sender that is no collector (log 51), is applied to its contribution in the OPEN build for the event, which
is created where there is none; an ABSENT sender is a member from this part on (R81). Every build that was OPEN or is
new closes COMPLETE when every PRESENT acquirer has finished its event (R106). Where the spec's table has no row (a
final part that brings more parts than its index + 1) the state is DONE or PARTIAL, a free value (log 16). A new build
takes the timestamp of the list as it stood before this reception's removals (the model's reading, log 19). The build
is TRUNCATED from the first drop on (R104), and a new one is clear (R96). A part that meets a final contribution
stores nothing, counts nothing and restarts no timer (R99, last row). Parts and samples rise beyond R92's ranges where
parts are repeated (the model's choice, log 40), and the flags of a LOST part are ignored (its choice, log 47). -/
def Obligations.PartEntersItsBuild : Prop :=
  ∀ (s : State) (f : FragFrame), s.Hears (.frag f) → s.NoClash (.frag f) → s.builds = true → s.TableInv →
    s.heeds f.sender = true ∧ s.mark f.sender < f.number.toNat
      ∨ ((s.entry f.sender).state = .silent ∨ (s.entry f.sender).state = .calling)
        ∧ (s.entry f.sender).role ≠ some .collector →
    s.build.floor < f.number.toNat →
    ∀ c ∈ s.contributionBefore f.number.toNat f.sender (!s.heeds f.sender),
    ∃ t, exec (.fragReception f) s = .next t ∧
      (c.isFinal = true → s.SettlesBuilds t ∧ t.insp.counters = s.insp.counters)
        ∧ (c.isFinal = false → ∃ b ∈ t.build.builds, b.number = f.number.toNat
          ∧ (s.build.builds.find? (fun y : Build => y.number = f.number.toNat) = none →
              b.time = s.takeTime f.number.toNat
                ∧ (∀ a : Addr, (∃ d ∈ b.contributions, d.member = a) ↔ t.isMember a = true ∨ a = f.sender)
                ∧ ∀ d ∈ b.contributions, d.member ≠ f.sender →
                    d.parts = 0 ∧ d.samples = [] ∧ d.flags = noFlags ∧ d.joined = false
                      ∧ (d.state = .waiting ∨ d.state = .unheard))
          ∧ (∀ x ∈ s.build.builds.find? (fun y : Build => y.number = f.number.toNat),
              b.time = x.time ∧ b.contributions.filter (fun d => d.member ≠ f.sender)
                = (s.settledContributions t x).filter (fun d => d.member ≠ f.sender))
          ∧ (b.state = .opened → b.timer = some (4 * (s.config.turn * 50)))
          ∧ b.truncated = ((s.build.builds.find? (fun y : Build => y.number = f.number.toNat)).any (·.truncated)
              || decide (4096 - s.build.samples < f.samples.length))
          ∧ ∃ d ∈ b.contributions, d.member = f.sender ∧ d.parts = c.parts + 1 ∧ d.joined = c.joined
            ∧ d.samples = c.samples ++ f.samples.take (4096 - s.build.samples)
            ∧ (f.lost = true → d.state = .lost ∧ d.flags = c.flags)
            ∧ (f.lost = false → d.flags =
                { ovr := c.flags.ovr || f.flags.ovr, dbl := c.flags.dbl || f.flags.dbl
                  tsus := c.flags.tsus || f.flags.tsus, renum := c.flags.renum || f.flags.renum
                  trunc := c.flags.trunc || f.flags.trunc || decide (4096 - s.build.samples < f.samples.length) })
            ∧ (f.last = false → d.state = .partly)
            ∧ (f.last = true → f.lost = false →
                (c.parts = f.index.toNat → d.state = .done) ∧ (c.parts < f.index.toNat → d.state = .partly)
                  ∧ (f.index.toNat < c.parts → d.state = .done ∨ d.state = .partly)))
        ∧ (t.build.builds.filter (fun x => x.number ≠ f.number.toNat)).map Build.content
            = (s.build.builds.filter (fun x => x.number ≠ f.number.toNat)).map Build.content
        ∧ (t.build.builds.filter (fun x => x.number ≠ f.number.toNat)).map (·.contributions)
            = (s.build.builds.filter (fun x => x.number ≠ f.number.toNat)).map (s.settledContributions t)
        ∧ s.ClosesFinished t
        ∧ t.build.lastDelivered = s.build.lastDelivered
        ∧ (c.isFinal = false → t.insp.counters = (if 4096 - s.build.samples < f.samples.length
              ∧ (∀ x ∈ s.build.builds.find? (fun y : Build => y.number = f.number.toNat), x.truncated = false)
            then (s.bump .truncatedBuilds).insp.counters else s.insp.counters))
        ∧ t.time = s.time ∧ t.start = s.start ∧ t.trig = s.trig ∧ t.pins = s.pins ∧ t.config = s.config

/-- R95, R97, R105: a part or a SKIP that reaches the build unit (R94) for an event at or below the delivery floor, or
for a build no longer OPEN, is late and counted as such; one that would need a ninth build is counted as an overflow,
with its fault. No build is added and none changes but by the marks. An ABSENT sender or subject is learned first
(R81). A SILENT or CALLING sender with role COLLECTOR is not meant: its part is discarded (the model's choice,
log 51). -/
def Obligations.PartsWithoutABuildAreCounted : Prop :=
  ∀ (s : State) (c : Instr) (n : Nat), s.builds = true → s.TableInv →
    (∃ f : FragFrame, c = .fragReception f ∧ n = f.number.toNat ∧ s.Hears (.frag f) ∧ s.NoClash (.frag f)
        ∧ (s.heeds f.sender = true ∧ s.mark f.sender < n
          ∨ ((s.entry f.sender).state = .silent ∨ (s.entry f.sender).state = .calling)
            ∧ (s.entry f.sender).role ≠ some .collector))
      ∨ (∃ k : SkipFrame, c = .skipReception k ∧ n = k.number.toNat ∧ s.Hears (.skip k) ∧ s.NoClash (.skip k)
        ∧ s.isOwn (.skip k) = false ∧ k.subject ≠ s.pins.address
        ∧ s.heeds k.subject = true ∧ s.mark k.subject < n) →
    (n ≤ s.build.floor ∨ s.contributionBefore n 0 false = none) →
    ∃ t, exec c s = .next t ∧
      (n ≤ s.build.floor ∨ (s.build.builds.find? (fun y : Build => y.number = n)).isSome = true →
        t.insp.counters = (s.bump .lateFrags).insp.counters)
        ∧ (s.build.floor < n → s.build.builds.find? (fun y : Build => y.number = n) = none →
          s.build.builds.length = 8 ∧ t.insp.counters = (s.bump .buildOverflows).insp.counters
            ∧ t.insp.faults.flags.getLsbD 10 = true
            ∧ (s.listed n = true → s.Raised t .buildOverflow n))
        ∧ t.build.builds.map Build.content = s.build.builds.map Build.content ∧ s.SettlesBuilds t
        ∧ t.build.lastDelivered = s.build.lastDelivered
        ∧ t.time = s.time ∧ t.start = s.start ∧ t.trig = s.trig ∧ s.SameSetting t

/-- R94, R96, R101, R102: a SKIP taking effect settles its subject's contribution in the OPEN build for the event,
which is created where there is none; samples, parts and flags stay, the build's TRUNCATED among them. An ABSENT
subject is a member from this SKIP on (R81). Every build that was OPEN or is new closes COMPLETE when every PRESENT
acquirer has finished its event (R106). A subject that the same SKIP silences stands outside a new build's turn order,
so its contribution is JOINED (the model's reading, log 20), and a SKIP on a PARTIAL contribution restarts the close
timer (its reading, log 21). A subject that the SKIP silences leaves the turn order: its WAITING contributions to
other OPEN builds become NOT_EXPECTED (R103). A SKIP that meets a final contribution settles nothing (its choice, log
44), and a new build takes the timestamp of log 19. -/
def Obligations.SkipSettlesContribution : Prop :=
  ∀ (s : State) (k : SkipFrame), s.Hears (.skip k) → s.NoClash (.skip k) → s.builds = true → s.TableInv →
    s.heeds k.subject = true → s.mark k.subject < k.number.toNat → s.build.floor < k.number.toNat →
    ∀ c ∈ s.contributionBefore k.number.toNat k.subject
      (decide (s.config.misslim ≤ (s.heardEntry k.subject).misses + 1)),
    ∃ t, exec (.skipReception k) s = .next t ∧
      (c.isFinal = true → s.SettlesBuilds t)
        ∧ (c.isFinal = false → ∃ b ∈ t.build.builds, b.number = k.number.toNat
          ∧ (s.build.builds.find? (fun y : Build => y.number = k.number.toNat) = none →
              b.time = s.takeTime k.number.toNat
                ∧ (∀ a : Addr, (∃ d ∈ b.contributions, d.member = a) ↔ t.isMember a = true ∨ a = k.subject)
                ∧ ∀ d ∈ b.contributions, d.member ≠ k.subject →
                    d.parts = 0 ∧ d.samples = [] ∧ d.flags = noFlags ∧ d.joined = false
                      ∧ (d.state = .waiting ∨ d.state = .unheard))
          ∧ (∀ x ∈ s.build.builds.find? (fun y : Build => y.number = k.number.toNat),
              b.time = x.time ∧ b.contributions.filter (fun d => d.member ≠ k.subject)
                = (s.settledContributions t x).filter (fun d => d.member ≠ k.subject))
          ∧ (b.state = .opened → b.timer = some (4 * (s.config.turn * 50)))
          ∧ b.truncated = (s.build.builds.find? (fun y : Build => y.number = k.number.toNat)).any (·.truncated)
          ∧ ∃ d ∈ b.contributions,
            d = { c with state := if c.state = .waiting ∧ k.heard = 0 then .skipped else .partly })
        ∧ (t.build.builds.filter (fun x => x.number ≠ k.number.toNat)).map Build.content
            = (s.build.builds.filter (fun x => x.number ≠ k.number.toNat)).map Build.content
        ∧ (t.build.builds.filter (fun x => x.number ≠ k.number.toNat)).map (·.contributions)
            = (s.build.builds.filter (fun x => x.number ≠ k.number.toNat)).map (s.settledContributions t)
        ∧ s.ClosesFinished t
        ∧ t.build.samples = s.build.samples ∧ t.build.lastDelivered = s.build.lastDelivered
        ∧ t.count .truncatedBuilds = s.count .truncatedBuilds ∧ t.count .lateFrags = s.count .lateFrags
        ∧ t.time = s.time ∧ t.start = s.start ∧ t.trig = s.trig ∧ s.SameSetting t

/-- R107, R109: at the expiry of its close timer an OPEN build closes TIMEOUT, WAITING contributions becoming
UNHEARD; where it is the head and the port is IDLE it is handed over at once (R118). With no OPEN build for the
number nothing expires (the model's choice, log 7). -/
def Obligations.CloseTimerClosesByTimeout : Prop :=
  ∀ (s : State) (number : BitVec 32), s.pins.rst = false → s.BuildInv →
    (∀ b ∈ s.build.builds.find? (fun y : Build => y.number = number.toNat), b.state = .opened →
      ∃ t, exec (.closeTimerExpiry number) s = .next t ∧
        t.build.builds = s.build.builds.map (fun x => if x.number = number.toNat then
            { b with
              state := if s.port.state = .idle ∧ s.build.builds.head? = some b then .delivering else .closed
              cause := some .timeout, timer := none
              contributions := b.contributions.map fun c =>
                if c.state = .waiting then { c with state := .unheard } else c }
            else x)
          ∧ t.build.lastDelivered = s.build.lastDelivered
          ∧ (if s.port.state = .idle ∧ s.build.builds.head? = some b then
              t.port.state = .record 0 b.total ∧ t.port.offers = s.port.offers + 1
                ∧ t.port.lp.extractLsb' 29 3 = 4#3 ∧ t.port.lp.extractLsb' 0 11 = BitVec.ofNat 11 b.total
            else t.port = s.port)
          ∧ t = { s with build := t.build, port := t.port })
    ∧ ((∀ b ∈ s.build.builds.find? (fun y : Build => y.number = number.toNat), b.state ≠ .opened) →
      exec (.closeTimerExpiry number) s = .next s)

/-! ## The delivery port (Chapter 6) -/

/-- R117, R121, R124, R126: a taking event offers the next word of the record; after the end word, or an abort word,
the port goes on to a CLOSED head, or IDLE. A taking event meets nothing where no word is offered. -/
def Obligations.TakingEventHandsOutWords : Prop :=
  ∀ s : State, s.BuildInv →
    (s.wordValid = false → exec .takingEvent s = .next s)
    ∧ (s.drivesPort = true → ∀ b ∈ s.build.builds.head?, ∀ cursor ∈ s.port.state.cursor,
      (cursor + 1 < b.total → exec .takingEvent s = .next { s with port :=
          { state := .record (cursor + 1) b.total, lp := b.words.getD (cursor + 1) 0
            offers := s.port.offers + 1 } })
      ∧ (cursor + 1 = b.total →
        ∃ t, exec .takingEvent s = .next t ∧
          t.build.lastDelivered = b.number
            ∧ (∀ d ∈ s.build.builds.tail.head?, d.state = .closed →
              t.build.builds = { d with state := .delivering } :: s.build.builds.tail.tail
                ∧ t.port = { state := .record 0 d.total, lp := d.words.getD 0 0, offers := s.port.offers + 1 })
            ∧ ((∀ d ∈ s.build.builds.tail.head?, d.state ≠ .closed) →
              t.build.builds = s.build.builds.tail ∧ t.port = { s.port with state := .idle })
            ∧ t = { s with build := t.build, port := t.port }))
    ∧ (s.wordValid = true → s.port.state.cursor = none →
      ∃ t, exec .takingEvent s = .next t ∧
        t.build.lastDelivered = s.build.lastDelivered
          ∧ (∀ d ∈ s.build.builds.head?, d.state = .closed →
            t.build.builds = { d with state := .delivering } :: s.build.builds.tail
              ∧ t.port = { state := .record 0 d.total, lp := d.words.getD 0 0, offers := s.port.offers + 1 })
          ∧ ((∀ d ∈ s.build.builds.head?, d.state ≠ .closed) →
            t.build.builds = s.build.builds ∧ t.port = { s.port with state := .idle })
          ∧ t = { s with build := t.build, port := t.port })

/-- R118, R119, R120, R204: the words of a record and their places: header, number, time-high, time-low, one word
for each contribution, every sample of the contributions in order, and the end word. (Counts and totals beyond their
fields show modulo the field, and a WAITING contribution, which no delivered record holds, has the code 6: the model's
choices, log 36.) -/
def Obligations.RecordWordsInOrder : Prop :=
  ∀ b : Build,
    b.words.length = 5 + b.contributions.length + (b.contributions.map fun c => c.samples.length).sum
    ∧ (b.words.getD 0 0).extractLsb' 29 3 = 4#3 ∧ (b.words.getD 0 0).extractLsb' 21 8 = 0#8
    ∧ (b.words.getD 0 0).extractLsb' 16 5 = BitVec.ofNat 5 b.contributions.length
    ∧ (b.words.getD 0 0).extractLsb' 11 5 = 0#5
    ∧ (b.words.getD 0 0).extractLsb' 0 11 = BitVec.ofNat 11 b.words.length
    ∧ b.words.getD 1 0 = BitVec.ofNat 32 b.number
    ∧ (b.time = none → b.words.getD 2 0 = 0x80000000#32 ∧ b.words.getD 3 0 = 0#32)
    ∧ (∀ x ∈ b.time, b.words.getD 2 0 = (x.extractLsb' 32 16).setWidth 32 ∧ b.words.getD 3 0 = x.extractLsb' 0 32)
    ∧ (∀ i < b.contributions.length, ∀ c ∈ b.contributions[i]?, ∀ w ∈ b.words[4 + i]?,
      w.extractLsb' 29 3 = 6#3 ∧ w.extractLsb' 28 1 = 0#1 ∧ w.extractLsb' 24 4 = BitVec.ofNat 4 c.member.val
        ∧ w.getLsbD 23 = false
        ∧ w.extractLsb' 20 3 = (match c.state with
            | .done => 0#3 | .partly => 1#3 | .lost => 2#3 | .skipped => 3#3 | .unheard => 4#3
            | .notExpected => 5#3 | .waiting => 6#3)
        ∧ w.extractLsb' 16 4 = 0#4
        ∧ w.getLsbD 15 = c.flags.ovr ∧ w.getLsbD 14 = c.flags.dbl ∧ w.getLsbD 13 = c.flags.tsus
        ∧ w.getLsbD 12 = c.flags.renum ∧ w.getLsbD 11 = c.flags.trunc ∧ w.extractLsb' 9 2 = 0#2
        ∧ w.getLsbD 8 = c.joined ∧ w.getLsbD 7 = false
        ∧ w.extractLsb' 0 7 = BitVec.ofNat 7 c.samples.length)
    ∧ (∀ i < b.contributions.length, ∀ c ∈ b.contributions[i]?, ∀ j < c.samples.length, ∀ x ∈ c.samples[j]?,
      ∀ w ∈ b.words[4 + b.contributions.length
        + ((b.contributions.take i).map fun d => d.samples.length).sum + j]?,
      w.extractLsb' 29 3 = 2#3 ∧ w.extractLsb' 28 1 = 0#1 ∧ w.extractLsb' 24 4 = BitVec.ofNat 4 c.member.val
        ∧ w.extractLsb' 22 2 = 0#2 ∧ w.extractLsb' 16 6 = x.channel ∧ w.getLsbD 15 = false
        ∧ w.getLsbD 14 = x.overrange ∧ w.extractLsb' 0 14 = x.value)
    ∧ (∀ w ∈ b.words.getLast?, w.extractLsb' 29 3 = 7#3 ∧ w.extractLsb' 18 11 = 0#11
        ∧ w.getLsbD 17 = decide (b.cause = some .timeout) ∧ w.getLsbD 16 = b.truncated
        ∧ w.extractLsb' 0 16 = BitVec.ofNat 16 b.number)

/-! ## Frames on DAT (Chapter 7) -/

/-- R133, R137, R139, R159: after the idle gap a frame may begin; at its first marker a station in a sending state
with a pending frame drives the one whose kind, and among its TAKEs whose number, is lowest, a marker and eight bits
for each of its bytes; another reads on and drives nothing. The queue keeps its frames. A busy DAT that has shown no
idle gap admits only a station with a pending frame. (That it takes no other station's frame up then is the model's
choice, log 11; that an idle gap met inside another station's frame drops that frame, its choice, log 48.) -/
def Obligations.ContentionSelectsLowestFrame : Prop :=
  ∀ s : State, s.pins.rst = false → s.QueueInv →
    (s.frames.dat ≠ .stopped → s.frames.queue.onWire = none →
      exec .datIdle s = .next { s with frames := { s.frames with dat := .idle } })
    ∧ (s.frames.dat = .stopped ∨ s.frames.queue.onWire.isSome = true → exec .datIdle s = .next s)
    ∧ (s.frames.dat = .idle ∨ s.frames.dat = .busy → s.sending = true → s.frames.queue.frames ≠ [] →
      ∃ t, exec .contentionStart s = .next t ∧
        (∃ g ∈ s.frames.queue.frames, t.frames.queue.onWire = some g
            ∧ t.datBits = some ((frameBytes g).flatMap fun b => false :: (List.range 8).map fun i => b.getLsbD (7 - i))
            ∧ ∀ h ∈ s.frames.queue.frames, frameKind g < frameKind h
              ∨ frameKind g = frameKind h ∧ (frameField g).toNat ≤ (frameField h).toNat)
          ∧ t.frames.queue.frames = s.frames.queue.frames ∧ t.frames.queue.wires = 1
          ∧ t.frames.dat = .inFrame ∧ t.frames.failures = s.frames.failures
          ∧ t = { s with frames := t.frames })
    ∧ (s.frames.dat = .idle → s.sending = false ∨ s.frames.queue.frames = [] →
      exec .contentionStart s = .next { s with frames := { s.frames with dat := .inFrame } })
    ∧ (s.sending = false ∨ s.frames.queue.onWire = none → s.datBits = none)
    ∧ (s.frames.dat = .busy → s.sending = false ∨ s.frames.queue.frames = [] →
      exec .contentionStart s = .next s)
    ∧ (s.frames.dat = .stopped ∨ s.frames.dat = .inFrame ∨ s.frames.dat = .abandoned →
      exec .contentionStart s = .next s)

/-- R136, R138, R141, R142: a frame that leaves the wire unsent stays pending, in every place, but for a kept
withdrawal or offer; a JOIN or ECHO is refreshed (R74). A loss counts nothing; an abandonment raises the failure count
and TX_RETRIES, and the eighth in a row ends the sending, with TRUNK_DRIVE: MUTE, or the mute attribute of a
collector, which starts a roll timer not yet started in ROLLCALL (R180). With no frame on the wire there is none to
lose or abandon (the model's choice, log 7). -/
def Obligations.UnsentFramesStayPending : Prop :=
  ∀ s : State, s.pins.rst = false → s.QueueInv →
    (s.frames.queue.onWire = none →
      exec .lostContention s = .next s ∧ exec .frameAbandoned s = .next s)
    ∧ (∀ f ∈ s.frames.queue.onWire,
      (∃ t, exec .lostContention s = .next t ∧
        t.frames.queue.takes.map (·.frame) = s.frames.queue.takes.map (·.frame) ∧ t.frames.queue.wires = 0
          ∧ t.frames.queue.skip.map (·.frame) = s.frames.queue.skip.bind Place.due
          ∧ t.frames.queue.frag.map (·.frame) = s.frames.queue.frag.bind Place.due
          ∧ t.frames.queue.roll.map (·.frame) = (s.frames.queue.roll.bind Place.due).map (fun r =>
              if r.mode = .call then r else { r with field := s.joinPoint })
          ∧ t = { s with frames := { s.frames with queue := t.frames.queue } })
      ∧ (s.frames.failures < 7 →
        ∃ t, exec .frameAbandoned s = .next t ∧
          t.frames.queue.takes.map (·.frame) = s.frames.queue.takes.map (·.frame) ∧ t.frames.queue.wires = 0
            ∧ t.frames.queue.skip.map (·.frame) = s.frames.queue.skip.bind Place.due
            ∧ t.frames.queue.frag.map (·.frame) = s.frames.queue.frag.bind Place.due
            ∧ t.frames.queue.roll.map (·.frame) = (s.frames.queue.roll.bind Place.due).map (fun r =>
                if r.mode = .call then r else { r with field := s.joinPoint })
            ∧ t.frames.failures = s.frames.failures + 1 ∧ t.frames.dat = .abandoned
            ∧ t.insp = (s.bump .txRetries).insp
            ∧ t = { s with frames := t.frames, insp := t.insp })
      ∧ (7 ≤ s.frames.failures →
        ∃ t, exec .frameAbandoned s = .next t ∧
          t.frames.failures = 8 ∧ t.frames.queue = Queue.empty ∧ t.sending = false
            ∧ t.insp.counters = (s.bump .txRetries).insp.counters
            ∧ s.Raised t .trunkDrive (frameField f).toNat
            ∧ (s.isAcquirer = true → t.start.station = .mute ∧ t.store = Store.empty
                ∧ t.agree.pendingTakes = [] ∧ t.turn.timer = .stopped ∧ t.drivesHld = false)
            ∧ (s.isCollector = true → t.start.muteAttr = true
                ∧ (s.start.station = .joining → t.start.station = .running)
                ∧ (s.start.station ≠ .joining → t.start.station = s.start.station)
                ∧ t.start.rollTimer = (if s.start.station = .rollcall ∧ s.start.rollTimer = none
                    ∧ s.start.rollMet = false then some (Config.msTicks s.config.rolltime) else s.start.rollTimer))
            ∧ t.roster = s.roster ∧ t.time = s.time ∧ t.agree.highTake = s.agree.highTake ∧ s.SameSetting t))

/-- R144 to R146, R141, R200 to R202: bytes that fail step 1, 2 or 3 of R145 (too short for a frame, shorter than the
kind requires, a CRC that does not match) are counted in BAD_FRAMES, and those that fail step 4, 5 or 6 (an unknown
kind, longer than the kind requires, an invalid field) in MALFORMED; neither is counted where they are the rest of a
frame this station abandoned (nor where another station drove that rest to its end, the model's choice, log 50), and
neither reaches an owner. On a DAT that is not read, or was not idle before it, the frame is passed over. Bytes that
pass are received as the frame they spell (the model's choice, log 14). -/
def Obligations.BadFramesAreCounted : Prop :=
  ∀ (s : State) (bytes : List Byte) (kind required : Nat) (field : Nat → Nat → Nat),
    (∀ offset width, field offset width = fieldAt (bitsOfBytes bytes) offset width) → kind = field 0 3 →
    required = (match kind with
      | 0 => 13
      | 1 => 8
      | 2 => (54 + 21 * field 49 5 + 7) / 8 + 2
      | _ => 11) →
    (s.takesFrame = false → exec (.badFrame bytes) s = .next s)
    ∧ (s.takesFrame = true →
      bytes.length < 7 ∨ kind < 4 ∧ bytes.length < required
          ∨ bytes.drop (bytes.length - 2) ≠ crcBytes (bytes.take (bytes.length - 2)) →
      ∃ t, exec (.badFrame bytes) s = .next t ∧
        t.insp = (if s.frames.dat = .abandoned then s.insp else (s.bump .badFrames).insp)
          ∧ t.frames.dat = .busy ∧ t.frames.failures = s.frames.failures ∧ t.frames.queue.wires = 0
          ∧ t = { s with frames := t.frames, insp := t.insp })
    ∧ (s.takesFrame = true → 7 ≤ bytes.length → (kind < 4 → required ≤ bytes.length) →
      bytes.drop (bytes.length - 2) = crcBytes (bytes.take (bytes.length - 2)) →
      (4 ≤ kind ∨ required < bytes.length
          ∨ kind = 0 ∧ field 3 32 = 0
          ∨ kind = 1 ∧ (field 3 32 = 0 ∨ field 39 4 = field 35 4 ∨ 4 < field 44 3)
          ∨ kind = 2 ∧ (field 3 32 = 0 ∨ 16 < field 49 5 ∨ 3 < field 39 3 ∨ field 39 3 = 3 ∧ field 42 1 = 0
            ∨ field 43 1 = 1 ∧ (field 42 1 = 0 ∨ field 39 3 ≠ 0 ∨ field 49 5 ≠ 0))
          ∨ kind = 3 ∧ (field 39 2 = 3 ∨ 64 < field 42 7) →
        ∃ t, exec (.badFrame bytes) s = .next t ∧
          t.insp = (if s.frames.dat = .abandoned then s.insp else (s.bump .malformed).insp)
            ∧ t.frames.dat = .busy ∧ t.frames.failures = s.frames.failures ∧ t.frames.queue.wires = 0
            ∧ t = { s with frames := t.frames, insp := t.insp })
      ∧ (∀ f, checkFrame bytes = .good f → exec (.badFrame bytes) s = exec f.reception s))

/-- R145, R146, R159, R200 to R202: every frame whose fields are valid is carried by its bytes: the reception checks
read from them the very frame, and the bytes are as many as its kind requires, each nine bit times on the line. -/
def Obligations.FrameRoundTrip : Prop :=
  ∀ f : Frame, frameValid f = true →
    checkFrame (frameBytes f) = .good f
      ∧ (lineBits (frameBytes f)).length = 9 * (frameBytes f).length
      ∧ (frameBytes f).length = (match f with
          | .take _ => 13
          | .skip _ => 8
          | .frag g => (54 + 21 * g.samples.length + 7) / 8 + 2
          | .roll _ => 11)

/-! ## The inspection port (Chapter 11) -/

/-- R207, R208, R10, R23, R46, R113: reads of STORE, TAKES and BUILDS take the words laid out in R208 and copy the wider
values into their extension words; they change nothing else. The head of the store is its record with the lowest number
(in log 28's corner the first of them, the model's reading). -/
def Obligations.ListWordsShowTheLists : Prop :=
  ∀ s : State, s.pins.rst = false →
    (∃ t, exec .storeRead s = .next t ∧
      t.insp.taken.extractLsb' 23 9 = 0#9
        ∧ (s.isAcquirer = true →
          t.insp.taken.extractLsb' 0 6 = BitVec.ofNat 6 s.store.records.length
            ∧ t.insp.taken.extractLsb' 6 11
              = BitVec.ofNat 11 (1024 - (s.store.records.map fun r => r.samples.length).sum)
            ∧ t.insp.taken.extractLsb' 17 2 = (match (s.store.records.find? (fun r : Record =>
                  s.store.records.all fun q => decide (r.number ≤ q.number))).map (·.state) with
                | some .ready => 1#2 | some .sending => 2#2 | _ => 0#2)
            ∧ t.insp.taken.getLsbD 19 = s.store.records.any (fun r => r.state = .capturing)
            ∧ t.insp.taken.getLsbD 20 = s.store.window.isSome
            ∧ t.insp.taken.getLsbD 21 = decide (32 - s.store.records.length < 3)
            ∧ t.insp.taken.getLsbD 22
              = decide (1024 - (s.store.records.map fun r => r.samples.length).sum < 64)
            ∧ t.insp.ext.storeHead = BitVec.ofNat 32 ((s.store.records.map (·.number)).min?.getD 0))
        ∧ (s.isCollector = true → t.insp.taken = 0x10000#32 ∧ t.insp.ext.storeHead = 0)
        ∧ t = { s with insp := { s.insp with
            line := t.insp.line, taken := t.insp.taken
            ext := { s.insp.ext with storeHead := t.insp.ext.storeHead } } })
    ∧ (∃ t, exec .takesRead s = .next t ∧
      t.insp.taken.extractLsb' 0 7 = BitVec.ofNat 7 s.agree.takeList.length
        ∧ t.insp.taken.extractLsb' 7 3 = BitVec.ofNat 3 s.agree.pendingTakes.length
        ∧ t.insp.taken.getLsbD 10 = decide (4 ≤ s.agree.pendingTakes.length)
        ∧ t.insp.taken.getLsbD 11 = s.agree.listFull ∧ t.insp.taken.getLsbD 12 = s.agree.exhausted
        ∧ t.insp.taken.extractLsb' 13 19 = 0#19
        ∧ t = { s with insp := { s.insp with
            line := t.insp.line, taken := t.insp.taken
            ext := { s.insp.ext with
              takesHead := BitVec.ofNat 32 ((s.agree.takeList.head?.map (·.number)).getD 0)
              takesHigh := BitVec.ofNat 32 s.agree.highTake, takesEvn := BitVec.ofNat 32 s.agree.evn } } })
    ∧ (∃ t, exec .buildsRead s = .next t ∧
      t.insp.taken.extractLsb' 21 11 = 0#11
        ∧ (s.isCollector = true →
          t.insp.taken.extractLsb' 0 4 = BitVec.ofNat 4 s.build.builds.length
            ∧ t.insp.taken.extractLsb' 4 13 = BitVec.ofNat 13 (4096 - s.build.samples)
            ∧ t.insp.taken.extractLsb' 17 2 = (match s.build.builds.head?.map (·.state) with
                | some .closed => 1#2 | some .delivering => 2#2 | _ => 0#2)
            ∧ t.insp.taken.getLsbD 19 = decide (6 ≤ s.build.builds.length)
            ∧ t.insp.taken.getLsbD 20 = decide (4096 - s.build.samples < 1024)
            ∧ t.insp.ext.buildsHead = BitVec.ofNat 32 ((s.build.builds.head?.map (·.number)).getD 0)
            ∧ t.insp.ext.buildsLast = BitVec.ofNat 32 s.build.lastDelivered)
        ∧ (s.isAcquirer = true → t.insp.taken = 0x10000#32 ∧ t.insp.ext.buildsHead = 0 ∧ t.insp.ext.buildsLast = 0)
        ∧ t = { s with insp := { s.insp with
            line := t.insp.line, taken := t.insp.taken
            ext := { s.insp.ext with
              buildsHead := t.insp.ext.buildsHead, buildsLast := t.insp.ext.buildsLast } } })

/-- R207, R208, R213, R198, R90: reads of FAULTS, TIME_LO and a roster word take the words laid out there and copy
the wider values into their extension words; they change nothing else but the port's transaction (R206), and the fault
record stays. R189, R209: the words that a read takes at the other addresses: STATUS, the extension words, and the
eighteen counters in R209's order. (Which words of the window are reads with no row of the table is log 33.) -/
def Obligations.FaultTimeAndRosterWords : Prop :=
  ∀ (s : State) (a : Addr), s.pins.rst = false →
    (s.windowWord 0x00).extractLsb' 0 3 = (match s.start.station with
        | .loading => 0#3 | .halted => 1#3 | .listening => 2#3 | .rollcall => 3#3
        | .joining => 4#3 | .running => 5#3 | .silenced => 6#3 | .mute => 7#3)
    ∧ (s.windowWord 0x00).getLsbD 3 = decide (s.pins.role = .collector)
    ∧ (s.windowWord 0x00).extractLsb' 4 4 = BitVec.ofNat 4 s.pins.address.val
    ∧ (s.windowWord 0x00).getLsbD 8 = decide (s.time.state = .set)
    ∧ (s.windowWord 0x00).getLsbD 9 = (decide (s.pins.role = .collector) && s.start.muteAttr)
    ∧ (s.windowWord 0x00).extractLsb' 10 2 = (match s.trig.outcome with
        | .none => 0#2 | .driven => 1#2 | .refused => 2#2)
    ∧ (s.windowWord 0x00).getLsbD 12 = s.trig.restarting
    ∧ (s.windowWord 0x00).getLsbD 13 = s.insp.faults.first.isSome
    ∧ (s.windowWord 0x00).extractLsb' 14 18 = 0#18
    ∧ (∀ i : Fin 18, s.windowWord (BitVec.ofNat 7 (0x21 + i.val)) = s.insp.counters[i].setWidth 32)
    ∧ s.insp.counters.toList = [s.count .straySamples, s.count .suppressed, s.count .doubles,
        s.count .refusedTriggers, s.count .heldEdges, s.count .missedEvents, s.count .missedEdges,
        s.count .numberSlips, s.count .staleTakes, s.count .lateDrops, s.count .skipsSent, s.count .lateFrags,
        s.count .badFrames, s.count .malformed, s.count .txRetries, s.count .buildOverflows,
        s.count .truncatedBuilds, s.count .timeSuspects]
    ∧ s.windowWord 0x02 = s.insp.ext.storeHead ∧ s.windowWord 0x04 = s.insp.ext.takesHead
    ∧ s.windowWord 0x05 = s.insp.ext.takesHigh ∧ s.windowWord 0x06 = s.insp.ext.takesEvn
    ∧ s.windowWord 0x08 = s.insp.ext.buildsHead ∧ s.windowWord 0x09 = s.insp.ext.buildsLast
    ∧ s.windowWord 0x0B = s.insp.ext.faultContext ∧ s.windowWord 0x0C = s.insp.ext.faultTimeLo
    ∧ s.windowWord 0x0D = s.insp.ext.faultTimeHi ∧ s.windowWord 0x0F = s.insp.ext.timeHi
    ∧ s.windowWord 0x20 = s.insp.ext.rosterMark
    ∧ (∃ t, exec .faultsRead s = .next t ∧
      t.insp.taken.extractLsb' 0 11 = s.insp.faults.flags
        ∧ t.insp.taken.getLsbD 11 = false
        ∧ t.insp.taken.extractLsb' 12 4
          = BitVec.ofNat 4 ((s.insp.faults.first.map fun f => f.code.number).getD 0)
        ∧ t.insp.taken.extractLsb' 16 8 = BitVec.ofNat 8 s.insp.faults.further
        ∧ t.insp.taken.extractLsb' 24 8 = 0#8
        ∧ (∀ f ∈ s.insp.faults.first,
            t.insp.ext.faultContext = BitVec.ofNat 32 f.context
              ∧ t.insp.ext.faultTimeLo = f.time.extractLsb' 0 32
              ∧ t.insp.ext.faultTimeHi.extractLsb' 0 16 = f.time.extractLsb' 32 16
              ∧ t.insp.ext.faultTimeHi.extractLsb' 16 15 = 0#15
              ∧ t.insp.ext.faultTimeHi.getLsbD 31 = decide (f.state = .set))
        ∧ (s.insp.faults.first = none →
            t.insp.ext.faultContext = 0 ∧ t.insp.ext.faultTimeLo = 0 ∧ t.insp.ext.faultTimeHi = 0)
        ∧ t = { s with insp := { s.insp with
            line := t.insp.line, taken := t.insp.taken
            ext := { s.insp.ext with
              faultContext := t.insp.ext.faultContext, faultTimeLo := t.insp.ext.faultTimeLo
              faultTimeHi := t.insp.ext.faultTimeHi } } })
    ∧ (∃ t, exec .timeLoRead s = .next t ∧
      t.insp.taken = s.time.counter.extractLsb' 0 32
        ∧ t.insp.ext.timeHi.extractLsb' 0 16 = s.time.counter.extractLsb' 32 16
        ∧ t.insp.ext.timeHi.extractLsb' 16 15 = 0#15
        ∧ t.insp.ext.timeHi.getLsbD 31 = decide (s.time.state = .set)
        ∧ t.windowWord 0x0F = t.insp.ext.timeHi
        ∧ t = { s with insp := { s.insp with
            line := t.insp.line, taken := t.insp.taken, ext := { s.insp.ext with timeHi := t.insp.ext.timeHi } } })
    ∧ (∃ t, exec (.rosterRead a) s = .next t ∧
      t.insp.taken.extractLsb' 0 3 = (match (s.entry a).state with
          | .absent => 0#3 | .calling => 1#3 | .present => 2#3 | .silent => 3#3 | .mismatched => 4#3)
        ∧ t.insp.taken.getLsbD 3 = decide ((s.entry a).role = some .collector)
        ∧ t.insp.taken.extractLsb' 4 7 = (s.entry a).count
        ∧ t.insp.taken.extractLsb' 11 3 = BitVec.ofNat 3 (s.entry a).misses
        ∧ t.insp.taken.extractLsb' 14 18 = 0#18
        ∧ t = { s with insp := { s.insp with
            line := t.insp.line, taken := t.insp.taken
            ext := { s.insp.ext with rosterMark := BitVec.ofNat 32 (s.mark a) } } })

/-- R210: CLEAR COUNTERS makes the eighteen counters 0 at once, in every state and role, and changes nothing else but
that its transaction ends (R206). Two in a row act as one, and an increment is cleared by a command after it and
counted from 0 after a command. -/
def Obligations.ClearCountersZeroesAll : Prop :=
  ∀ (s : State) (ct : Counter), s.pins.rst = false →
    ∃ t, exec .clearCounters s = .next t ∧
      (∀ i : Fin 18, t.insp.counters[i] = 0)
        ∧ t = { s with insp := { s.insp with counters := t.insp.counters, line := .released } }
        ∧ exec .clearCounters t = .next t
        ∧ exec .clearCounters (s.bump ct) = .next t
        ∧ (t.bump ct).count ct = 1

/-- R212: ACK FAULT empties the fault record and releases FAULT, in every state and role, and changes nothing else but
that its transaction ends (R206): the extension words keep their copies, a HALTED station stays HALTED. A fault before
the command is lost with the record, one after it stands as the first; a TAKE_LIST_FULL that stands is not raised
again. -/
def Obligations.AckFaultEmptiesRecord : Prop :=
  ∀ (s : State) (code : FaultCode) (n : Nat), s.pins.rst = false →
    ∃ t, exec .ackFault s = .next t ∧
      t.insp.faults.first = none ∧ t.insp.faults.further = 0 ∧ t.insp.faults.flags = 0 ∧ t.faultPin = false
        ∧ t = { s with insp := { s.insp with faults := t.insp.faults, line := .released } }
        ∧ exec .ackFault (s.raise code n) = .next t
        ∧ (t.raise code n).insp.faults =
            { first := some { code := code, context := n, time := s.time.counter, state := s.time.state }
              further := 0, flags := BitVec.twoPow 11 (code.number - 1) }
        ∧ (s.agree.listFull = true → t.refuseTake n = t)

/-- R206, R208: a write to an address that is no command's, or one that ends with another count of bits than 40,
changes nothing but that its transaction ends; a write of 40 bits to a command's address is that command. On the pins:
from ISCS high, a transaction's eighth bit takes a read's word, whatever clocks follow, and the rise of ISCS ends a
write, and these are the commands; a read of a word that leads no others takes it and copies nothing. RST holds the
port and abandons the transaction; after its release none is taken until ISCS has been read high. ISDO is driven while
ISCS is low; in a read it changes at the falling edges of ISCK alone, and from the one that follows the address byte
the word leaves on it bit 31 first, then 0. (That a command of the table is such a transaction's event, whatever stood
on the pins before it, is the model's reading, log 41; that the address byte's bits come on ISDI bit 7 first, its
choice, log 49.) -/
def Obligations.TransactionsTakeTheirCommands : Prop :=
  ∀ (s : State) (address : BitVec 7) (bits falls : Nat) (further : List Bool) (byte : Bool → List Bool)
    (clocks : List Bool → List InspectionPin),
    s.pins.rst = false →
    (∀ w, byte w = w :: (List.range 7).map fun i => address.getLsbD (6 - i)) →
    (∀ l, clocks l = l.flatMap fun b => [.isckRise b, .isckFall]) →
    (bits ≠ 40 ∨ address ≠ 0x40 ∧ address ≠ 0x41 ∧ address ≠ 0x42 →
      exec (.inspectionWriteOther address bits) s = .next (s.setLine .released))
    ∧ exec (.inspectionWriteOther 0x40 40) s = exec .clearCounters s
    ∧ exec (.inspectionWriteOther 0x41 40) s = exec .ackFault s
    ∧ exec (.inspectionWriteOther 0x42 40) s = exec .restartTrunk s
    ∧ (s.insp.line = .released →
      exec (.inspectionWriteOther address (8 + further.length)) s
          = .next (s.inspectPins ([.iscs false] ++ clocks (byte true ++ further) ++ [.iscs true]))
        ∧ s.inspectPins ([.iscs false] ++ clocks (byte false ++ further))
          = (s.readTransaction address).setLine (.selected (byte false ++ further) (1 + further.length))
        ∧ s.inspectPins ([.iscs false] ++ clocks (byte false ++ further) ++ [.iscs true])
          = (s.readTransaction address).setLine .released)
    ∧ (∀ c : Instr, c = .storeRead ∧ address = 0x01 ∨ c = .takesRead ∧ address = 0x03
        ∨ c = .buildsRead ∧ address = 0x07 ∨ c = .faultsRead ∧ address = 0x0A ∨ c = .timeLoRead ∧ address = 0x0E
        ∨ (∃ a : Addr, c = .rosterRead a ∧ address.toNat = 16 + a.val) →
      exec c s = .next ((s.readTransaction address).setLine (.selected (byte false) 0)))
    ∧ (s.readTransaction address).insp.taken = s.windowWord address
    ∧ (0x33 ≤ address.toNat → s.windowWord address = 0)
    ∧ (address.toNat ∉ [0x01, 0x03, 0x07, 0x0A, 0x0E] → ¬ (0x10 ≤ address.toNat ∧ address.toNat < 0x20) →
      s.readTransaction address = { s with insp := { s.insp with taken := s.windowWord address } })
    ∧ (s.insp.line = .selected (byte false ++ further) falls →
      s.isdo = (if falls = 0 then none
        else some (if falls ≤ 32 then s.insp.taken.getLsbD (32 - falls) else false)))
    ∧ (∀ b : Bool, (s.inspectPin (.isckRise b)).isdo = s.isdo)
    ∧ s.inspectPin .isckFall = s.setLine (match s.insp.line with
        | .selected l k => .selected l (if l.length < 8 then 0 else k + 1)
        | line => line)
    ∧ (s.LineInPlace → (s.drivesIsdo = true ↔ s.insp.line ≠ .released))
    ∧ (∃ t, exec .rstAssert s = .next t ∧ t.insp.line = .held s.insp.line.isLow ∧ t.drivesIsdo = false
        ∧ (∀ pins : List InspectionPin, ∃ low, t.inspectPins pins = t.setLine (.held low)))
    ∧ (s.insp.line = .held true →
      (∀ pins : List InspectionPin, (∀ p ∈ pins, p ≠ .iscs true) → s.inspectPins pins = s)
        ∧ s.inspectPins [.iscs true] = s.setLine .released)

/-! ## Time (Chapter 10) -/

/-- R190: a tick of CLK raises the counter by one, wrapping, and takes one from the time left of every timer that
runs (log 6); under RST the counter is held. -/
def Obligations.TickAdvancesTimeAndTimers : Prop :=
  ∀ s : State,
    (s.pins.rst = true → exec .tick s = .next s)
    ∧ (s.pins.rst = false →
      exec .tick s = .next { s with
        time := { s.time with counter := s.time.counter + 1 }
        start := { s.start with
          listenTimer := s.start.listenTimer.map (· - 1), rollTimer := s.start.rollTimer.map (· - 1) }
        trig := { s.trig with
          normalPulse := s.trig.normalPulse.map (· - 1), restartPulse := s.trig.restartPulse.map (· - 1)
          detector := s.trig.detector.map (· - 1) }
        store := { s.store with window := s.store.window.map (· - 1) }
        turn := { s.turn with timer := match s.turn.timer with
          | .running m n left => .running m n (left - 1)
          | x => x }
        build := { s.build with builds := s.build.builds.map fun b => { b with timer := b.timer.map (· - 1) } } })

/-! ## What every command keeps -/

/-- R190 to R192, R195: the counter is moved by a tick, by RST, by the epoch, which sets it to 0, and by the first
matched TAKE while UNSET, and by no other command. -/
def Obligations.CounterIsMovedBy : Prop :=
  ∀ (c : Instr) (s t : State), c.wellFormed = true → exec c s = .next t →
    t.time.counter ≠ s.time.counter →
      c = .rstAssert ∨ c = .tick
        ∨ (s.start.station = .rollcall ∧ (c = .hldFall ∨ ∃ b, c = .rollTimerExpiry b)
          ∧ t.time = { counter := 0, state := .set } ∧ t.start.station = .running)
        ∨ (∃ f, c = .takeReception f ∧ s.time.state = .unset ∧ t.time.state = .set ∧ s.matches = true
          ∧ s.agree.highTake < f.number.toNat ∧ ∃ p ∈ s.agree.pendingTakes.head?,
            t.agree.pendingTakes.length < s.agree.pendingTakes.length
              ∧ t.time.counter = s.time.counter + (f.time - p.edgeTime))

/-- R48, R72, R76: in JOINING, RUNNING, SILENCED and MUTE no command lowers a finished-through mark, but RST, a
trunk restart and a CALL of the member itself. -/
def Obligations.MarksNeverDecrease : Prop :=
  ∀ (c : Instr) (s t : State), c.wellFormed = true → s.tracks = true → exec c s = .next t →
    c ≠ .rstAssert → c ≠ .trunkRestartDetection → c ≠ .trgRelease →
    ∀ a : Addr, s.mark a ≤ t.mark a
      ∨ (∃ f, c = .rollReception f ∧ f.mode = .call ∧ f.sender = a ∧ (s.entry a).state = .present ∧ t.mark a = 0)

/-- R209, R211: a counter falls at RST and CLEAR COUNTERS alone, and stops at 65 535; the first fault, every flag of
the fault set and the count of further faults stand until RST or ACK FAULT. -/
def Obligations.FaultsAndCountersOnlyGrow : Prop :=
  ∀ (c : Instr) (s t : State), c.wellFormed = true → c ≠ .rstAssert → exec c s = .next t →
    (c ≠ .clearCounters → ∀ i : Fin 18, s.insp.counters[i] ≤ t.insp.counters[i])
      ∧ (c ≠ .ackFault →
        (∀ f ∈ s.insp.faults.first, t.insp.faults.first = some f)
          ∧ (s.insp.faults.further ≤ 255 →
              s.insp.faults.further ≤ t.insp.faults.further ∧ t.insp.faults.further ≤ 255)
          ∧ s.insp.faults.flags &&& t.insp.faults.flags = s.insp.faults.flags
          ∧ (s.insp.faults.first = none → t.insp.faults.first = none → t.insp.faults = s.insp.faults))

/-- R17, R42, R110, R156, R157, R23: a station pulls HLD exactly while it is in a state that may drive the trunk,
its personality is not LISTEN and one of its nine hold reasons stands. -/
def Obligations.HldIsPulledForNineReasons : Prop :=
  ∀ s : State, s.drivesHld = true ↔
    s.pins.rst = false
      ∧ (s.start.station = .rollcall ∨ s.start.station = .joining ∨ s.start.station = .running
          ∨ s.start.station = .silenced)
      ∧ (s.config.hld = .sink ∨ s.config.hld = .sinkTerm)
      ∧ (s.store.window.isSome = true
          ∨ 30 ≤ s.store.records.length
          ∨ 961 ≤ (s.store.records.map fun r => r.samples.length).sum
          ∨ 4 ≤ s.agree.pendingTakes.length ∨ s.agree.listFull = true ∨ s.agree.exhausted = true
          ∨ 6 ≤ s.build.builds.length
          ∨ 3073 ≤ s.build.samples
          ∨ s.start.rollCallReason = true)

/-! ## The laws of the blocks -/

/-- Every law holds of the state under RST, and RST_ASSERT leaves a state that obeys them all, whatever came before. -/
def Obligations.LawsHoldAfterReset : Prop :=
  ∀ t : State, t = State.reset ∨ (∃ s, exec .rstAssert s = .next t) →
    t.Coherent ∧ t.StoreInv ∧ t.OrderInv ∧ t.AgreeInv ∧ t.RosterInv ∧ t.BuildInv ∧ t.QueueInv ∧ t.TimerInv ∧ t.OfferInv
      ∧ t.SkipInv

/-- Every step keeps the blocks to what the station's state and role allow (R1, R24, R58, R144, R152, R156, R162,
R163, R170, R177, R179, R182, R187, R206). (That the wait for the epoch stands neither in MUTE nor in a restarting span,
but for a collector that takes the mute attribute there, and the roll-call reason stands on in MUTE, is the model's
reading, logs 24 and 15.) -/
def Obligations.StepKeepsCoherent : Prop :=
  ∀ s t : State, s.Coherent → step s = .next t → t.Coherent

/-- Every step keeps the laws of the fragment store: its capacities, its one CAPTURING record under an open window, and
at most one sample of a channel (R3, R8). It keeps the order of R10 too, with what that order rests on, but where a
full list refuses a number or an implied take reaches EVN: there the rules as written (R25, R33, R38) break the order,
and that is why the first law leaves it out (log 28). -/
def Obligations.StepKeepsStore : Prop :=
  ∀ s t : State, s.StoreInv → step s = .next t →
    t.StoreInv
      ∧ (s.Coherent → s.AgreeInv → s.QueueInv → s.OrderInv → (∀ c ∈ s.pending.head?, s.OrderIsSafe c) → t.OrderInv)

/-- Every step keeps the laws of the take list and of the pending queue (R28, R29, R31, R33, R40). -/
def Obligations.StepKeepsAgreement : Prop :=
  ∀ s t : State, s.Coherent → s.AgreeInv → step s = .next t → t.AgreeInv

/-- Every step keeps the laws of the roster (R47, R71, R73, R82). (That another station's frame leaves a collector's own
entry alone is the model's choice, log 37.) -/
def Obligations.StepKeepsRoster : Prop :=
  ∀ s t : State, s.Coherent → s.QueueInv → s.RosterInv → step s = .next t → t.RosterInv

/-- Every step keeps the laws of the build table and of the delivery port (R91, R93, R95, R109, R115, R118). -/
def Obligations.StepKeepsBuilds : Prop :=
  ∀ s t : State, s.Coherent → s.BuildInv → step s = .next t → t.BuildInv

/-- Every step keeps the laws of the transmit queue (R30, R74, R128, R132, R134, R136, R137, R140). -/
def Obligations.StepKeepsQueue : Prop :=
  ∀ s t : State, s.Coherent → s.AgreeInv → s.QueueInv → step s = .next t → t.QueueInv

/-- Every step keeps the turn timer on the skipped member's open turn, the offered part that of the station's own open
turn, and the SKIP place the SKIPPING timer's; and every part that a step offers anew has the contents of R15 and R51
(R49, R50, R58 to R61, R63). (That the part offered follows an edge that takes the open turn's number, where R51 and
R53 would keep the LOST part, is the model's choice, log 42; that the timer starts anew after a SKIP for a lower
event, where R59 has no row, its choice, log 43; that the timer is evaluated before and after the marks of one
reception, its choice, log 54; that a part moved from under by a renumbering stays offered, its choice, log 39.) -/
def Obligations.StepKeepsTurns : Prop :=
  ∀ s t : State, s.Coherent → s.TimerInv → s.OfferInv → step s = .next t →
    t.TimerInv ∧ t.OfferInv
      ∧ (s.QueueInv → s.SkipInv → t.SkipInv)
      ∧ (s.AgreeInv → ∀ f ∈ t.offeredPart, s.offeredPart ≠ some f → t.PartIsDue f)
end

