-- ==== Sys2Proof/Laws/State.lean ====
section
/-! SUPPORT. One lemma per field per update of the state: the update reads back, and every other block is as before. -/

namespace Sys2Proof.Machine

@[simp] theorem State.setPins_pins (x : Pins) (s : State) : (s.setPins x).pins = x := rfl
@[simp] theorem State.setPins_start (x : Pins) (s : State) : (s.setPins x).start = s.start := rfl
@[simp] theorem State.setPins_config (x : Pins) (s : State) : (s.setPins x).config = s.config := rfl
@[simp] theorem State.setPins_trig (x : Pins) (s : State) : (s.setPins x).trig = s.trig := rfl
@[simp] theorem State.setPins_time (x : Pins) (s : State) : (s.setPins x).time = s.time := rfl
@[simp] theorem State.setPins_store (x : Pins) (s : State) : (s.setPins x).store = s.store := rfl
@[simp] theorem State.setPins_agree (x : Pins) (s : State) : (s.setPins x).agree = s.agree := rfl
@[simp] theorem State.setPins_turn (x : Pins) (s : State) : (s.setPins x).turn = s.turn := rfl
@[simp] theorem State.setPins_roster (x : Pins) (s : State) : (s.setPins x).roster = s.roster := rfl
@[simp] theorem State.setPins_frames (x : Pins) (s : State) : (s.setPins x).frames = s.frames := rfl
@[simp] theorem State.setPins_build (x : Pins) (s : State) : (s.setPins x).build = s.build := rfl
@[simp] theorem State.setPins_port (x : Pins) (s : State) : (s.setPins x).port = s.port := rfl
@[simp] theorem State.setPins_insp (x : Pins) (s : State) : (s.setPins x).insp = s.insp := rfl
@[simp] theorem State.setPins_freeIndex (x : Pins) (s : State) : (s.setPins x).freeIndex = s.freeIndex := rfl
@[simp] theorem State.setPins_pending (x : Pins) (s : State) : (s.setPins x).pending = s.pending := rfl

@[simp] theorem State.setStart_start (x : StartUp) (s : State) : (s.setStart x).start = x := rfl
@[simp] theorem State.setStart_pins (x : StartUp) (s : State) : (s.setStart x).pins = s.pins := rfl
@[simp] theorem State.setStart_config (x : StartUp) (s : State) : (s.setStart x).config = s.config := rfl
@[simp] theorem State.setStart_trig (x : StartUp) (s : State) : (s.setStart x).trig = s.trig := rfl
@[simp] theorem State.setStart_time (x : StartUp) (s : State) : (s.setStart x).time = s.time := rfl
@[simp] theorem State.setStart_store (x : StartUp) (s : State) : (s.setStart x).store = s.store := rfl
@[simp] theorem State.setStart_agree (x : StartUp) (s : State) : (s.setStart x).agree = s.agree := rfl
@[simp] theorem State.setStart_turn (x : StartUp) (s : State) : (s.setStart x).turn = s.turn := rfl
@[simp] theorem State.setStart_roster (x : StartUp) (s : State) : (s.setStart x).roster = s.roster := rfl
@[simp] theorem State.setStart_frames (x : StartUp) (s : State) : (s.setStart x).frames = s.frames := rfl
@[simp] theorem State.setStart_build (x : StartUp) (s : State) : (s.setStart x).build = s.build := rfl
@[simp] theorem State.setStart_port (x : StartUp) (s : State) : (s.setStart x).port = s.port := rfl
@[simp] theorem State.setStart_insp (x : StartUp) (s : State) : (s.setStart x).insp = s.insp := rfl
@[simp] theorem State.setStart_freeIndex (x : StartUp) (s : State) : (s.setStart x).freeIndex = s.freeIndex := rfl
@[simp] theorem State.setStart_pending (x : StartUp) (s : State) : (s.setStart x).pending = s.pending := rfl

@[simp] theorem State.setConfig_config (x : Image) (s : State) : (s.setConfig x).config = x := rfl
@[simp] theorem State.setConfig_pins (x : Image) (s : State) : (s.setConfig x).pins = s.pins := rfl
@[simp] theorem State.setConfig_start (x : Image) (s : State) : (s.setConfig x).start = s.start := rfl
@[simp] theorem State.setConfig_trig (x : Image) (s : State) : (s.setConfig x).trig = s.trig := rfl
@[simp] theorem State.setConfig_time (x : Image) (s : State) : (s.setConfig x).time = s.time := rfl
@[simp] theorem State.setConfig_store (x : Image) (s : State) : (s.setConfig x).store = s.store := rfl
@[simp] theorem State.setConfig_agree (x : Image) (s : State) : (s.setConfig x).agree = s.agree := rfl
@[simp] theorem State.setConfig_turn (x : Image) (s : State) : (s.setConfig x).turn = s.turn := rfl
@[simp] theorem State.setConfig_roster (x : Image) (s : State) : (s.setConfig x).roster = s.roster := rfl
@[simp] theorem State.setConfig_frames (x : Image) (s : State) : (s.setConfig x).frames = s.frames := rfl
@[simp] theorem State.setConfig_build (x : Image) (s : State) : (s.setConfig x).build = s.build := rfl
@[simp] theorem State.setConfig_port (x : Image) (s : State) : (s.setConfig x).port = s.port := rfl
@[simp] theorem State.setConfig_insp (x : Image) (s : State) : (s.setConfig x).insp = s.insp := rfl
@[simp] theorem State.setConfig_freeIndex (x : Image) (s : State) : (s.setConfig x).freeIndex = s.freeIndex := rfl
@[simp] theorem State.setConfig_pending (x : Image) (s : State) : (s.setConfig x).pending = s.pending := rfl

@[simp] theorem State.setTrig_trig (x : Trigger) (s : State) : (s.setTrig x).trig = x := rfl
@[simp] theorem State.setTrig_pins (x : Trigger) (s : State) : (s.setTrig x).pins = s.pins := rfl
@[simp] theorem State.setTrig_start (x : Trigger) (s : State) : (s.setTrig x).start = s.start := rfl
@[simp] theorem State.setTrig_config (x : Trigger) (s : State) : (s.setTrig x).config = s.config := rfl
@[simp] theorem State.setTrig_time (x : Trigger) (s : State) : (s.setTrig x).time = s.time := rfl
@[simp] theorem State.setTrig_store (x : Trigger) (s : State) : (s.setTrig x).store = s.store := rfl
@[simp] theorem State.setTrig_agree (x : Trigger) (s : State) : (s.setTrig x).agree = s.agree := rfl
@[simp] theorem State.setTrig_turn (x : Trigger) (s : State) : (s.setTrig x).turn = s.turn := rfl
@[simp] theorem State.setTrig_roster (x : Trigger) (s : State) : (s.setTrig x).roster = s.roster := rfl
@[simp] theorem State.setTrig_frames (x : Trigger) (s : State) : (s.setTrig x).frames = s.frames := rfl
@[simp] theorem State.setTrig_build (x : Trigger) (s : State) : (s.setTrig x).build = s.build := rfl
@[simp] theorem State.setTrig_port (x : Trigger) (s : State) : (s.setTrig x).port = s.port := rfl
@[simp] theorem State.setTrig_insp (x : Trigger) (s : State) : (s.setTrig x).insp = s.insp := rfl
@[simp] theorem State.setTrig_freeIndex (x : Trigger) (s : State) : (s.setTrig x).freeIndex = s.freeIndex := rfl
@[simp] theorem State.setTrig_pending (x : Trigger) (s : State) : (s.setTrig x).pending = s.pending := rfl

@[simp] theorem State.setTime_time (x : TimeBase) (s : State) : (s.setTime x).time = x := rfl
@[simp] theorem State.setTime_pins (x : TimeBase) (s : State) : (s.setTime x).pins = s.pins := rfl
@[simp] theorem State.setTime_start (x : TimeBase) (s : State) : (s.setTime x).start = s.start := rfl
@[simp] theorem State.setTime_config (x : TimeBase) (s : State) : (s.setTime x).config = s.config := rfl
@[simp] theorem State.setTime_trig (x : TimeBase) (s : State) : (s.setTime x).trig = s.trig := rfl
@[simp] theorem State.setTime_store (x : TimeBase) (s : State) : (s.setTime x).store = s.store := rfl
@[simp] theorem State.setTime_agree (x : TimeBase) (s : State) : (s.setTime x).agree = s.agree := rfl
@[simp] theorem State.setTime_turn (x : TimeBase) (s : State) : (s.setTime x).turn = s.turn := rfl
@[simp] theorem State.setTime_roster (x : TimeBase) (s : State) : (s.setTime x).roster = s.roster := rfl
@[simp] theorem State.setTime_frames (x : TimeBase) (s : State) : (s.setTime x).frames = s.frames := rfl
@[simp] theorem State.setTime_build (x : TimeBase) (s : State) : (s.setTime x).build = s.build := rfl
@[simp] theorem State.setTime_port (x : TimeBase) (s : State) : (s.setTime x).port = s.port := rfl
@[simp] theorem State.setTime_insp (x : TimeBase) (s : State) : (s.setTime x).insp = s.insp := rfl
@[simp] theorem State.setTime_freeIndex (x : TimeBase) (s : State) : (s.setTime x).freeIndex = s.freeIndex := rfl
@[simp] theorem State.setTime_pending (x : TimeBase) (s : State) : (s.setTime x).pending = s.pending := rfl

@[simp] theorem State.setStore_store (x : Store) (s : State) : (s.setStore x).store = x := rfl
@[simp] theorem State.setStore_pins (x : Store) (s : State) : (s.setStore x).pins = s.pins := rfl
@[simp] theorem State.setStore_start (x : Store) (s : State) : (s.setStore x).start = s.start := rfl
@[simp] theorem State.setStore_config (x : Store) (s : State) : (s.setStore x).config = s.config := rfl
@[simp] theorem State.setStore_trig (x : Store) (s : State) : (s.setStore x).trig = s.trig := rfl
@[simp] theorem State.setStore_time (x : Store) (s : State) : (s.setStore x).time = s.time := rfl
@[simp] theorem State.setStore_agree (x : Store) (s : State) : (s.setStore x).agree = s.agree := rfl
@[simp] theorem State.setStore_turn (x : Store) (s : State) : (s.setStore x).turn = s.turn := rfl
@[simp] theorem State.setStore_roster (x : Store) (s : State) : (s.setStore x).roster = s.roster := rfl
@[simp] theorem State.setStore_frames (x : Store) (s : State) : (s.setStore x).frames = s.frames := rfl
@[simp] theorem State.setStore_build (x : Store) (s : State) : (s.setStore x).build = s.build := rfl
@[simp] theorem State.setStore_port (x : Store) (s : State) : (s.setStore x).port = s.port := rfl
@[simp] theorem State.setStore_insp (x : Store) (s : State) : (s.setStore x).insp = s.insp := rfl
@[simp] theorem State.setStore_freeIndex (x : Store) (s : State) : (s.setStore x).freeIndex = s.freeIndex := rfl
@[simp] theorem State.setStore_pending (x : Store) (s : State) : (s.setStore x).pending = s.pending := rfl

@[simp] theorem State.setAgree_agree (x : Agreement) (s : State) : (s.setAgree x).agree = x := rfl
@[simp] theorem State.setAgree_pins (x : Agreement) (s : State) : (s.setAgree x).pins = s.pins := rfl
@[simp] theorem State.setAgree_start (x : Agreement) (s : State) : (s.setAgree x).start = s.start := rfl
@[simp] theorem State.setAgree_config (x : Agreement) (s : State) : (s.setAgree x).config = s.config := rfl
@[simp] theorem State.setAgree_trig (x : Agreement) (s : State) : (s.setAgree x).trig = s.trig := rfl
@[simp] theorem State.setAgree_time (x : Agreement) (s : State) : (s.setAgree x).time = s.time := rfl
@[simp] theorem State.setAgree_store (x : Agreement) (s : State) : (s.setAgree x).store = s.store := rfl
@[simp] theorem State.setAgree_turn (x : Agreement) (s : State) : (s.setAgree x).turn = s.turn := rfl
@[simp] theorem State.setAgree_roster (x : Agreement) (s : State) : (s.setAgree x).roster = s.roster := rfl
@[simp] theorem State.setAgree_frames (x : Agreement) (s : State) : (s.setAgree x).frames = s.frames := rfl
@[simp] theorem State.setAgree_build (x : Agreement) (s : State) : (s.setAgree x).build = s.build := rfl
@[simp] theorem State.setAgree_port (x : Agreement) (s : State) : (s.setAgree x).port = s.port := rfl
@[simp] theorem State.setAgree_insp (x : Agreement) (s : State) : (s.setAgree x).insp = s.insp := rfl
@[simp] theorem State.setAgree_freeIndex (x : Agreement) (s : State) : (s.setAgree x).freeIndex = s.freeIndex := rfl
@[simp] theorem State.setAgree_pending (x : Agreement) (s : State) : (s.setAgree x).pending = s.pending := rfl

@[simp] theorem State.setTurn_turn (x : Turn) (s : State) : (s.setTurn x).turn = x := rfl
@[simp] theorem State.setTurn_pins (x : Turn) (s : State) : (s.setTurn x).pins = s.pins := rfl
@[simp] theorem State.setTurn_start (x : Turn) (s : State) : (s.setTurn x).start = s.start := rfl
@[simp] theorem State.setTurn_config (x : Turn) (s : State) : (s.setTurn x).config = s.config := rfl
@[simp] theorem State.setTurn_trig (x : Turn) (s : State) : (s.setTurn x).trig = s.trig := rfl
@[simp] theorem State.setTurn_time (x : Turn) (s : State) : (s.setTurn x).time = s.time := rfl
@[simp] theorem State.setTurn_store (x : Turn) (s : State) : (s.setTurn x).store = s.store := rfl
@[simp] theorem State.setTurn_agree (x : Turn) (s : State) : (s.setTurn x).agree = s.agree := rfl
@[simp] theorem State.setTurn_roster (x : Turn) (s : State) : (s.setTurn x).roster = s.roster := rfl
@[simp] theorem State.setTurn_frames (x : Turn) (s : State) : (s.setTurn x).frames = s.frames := rfl
@[simp] theorem State.setTurn_build (x : Turn) (s : State) : (s.setTurn x).build = s.build := rfl
@[simp] theorem State.setTurn_port (x : Turn) (s : State) : (s.setTurn x).port = s.port := rfl
@[simp] theorem State.setTurn_insp (x : Turn) (s : State) : (s.setTurn x).insp = s.insp := rfl
@[simp] theorem State.setTurn_freeIndex (x : Turn) (s : State) : (s.setTurn x).freeIndex = s.freeIndex := rfl
@[simp] theorem State.setTurn_pending (x : Turn) (s : State) : (s.setTurn x).pending = s.pending := rfl

@[simp] theorem State.setRoster_roster (x : Roster) (s : State) : (s.setRoster x).roster = x := rfl
@[simp] theorem State.setRoster_pins (x : Roster) (s : State) : (s.setRoster x).pins = s.pins := rfl
@[simp] theorem State.setRoster_start (x : Roster) (s : State) : (s.setRoster x).start = s.start := rfl
@[simp] theorem State.setRoster_config (x : Roster) (s : State) : (s.setRoster x).config = s.config := rfl
@[simp] theorem State.setRoster_trig (x : Roster) (s : State) : (s.setRoster x).trig = s.trig := rfl
@[simp] theorem State.setRoster_time (x : Roster) (s : State) : (s.setRoster x).time = s.time := rfl
@[simp] theorem State.setRoster_store (x : Roster) (s : State) : (s.setRoster x).store = s.store := rfl
@[simp] theorem State.setRoster_agree (x : Roster) (s : State) : (s.setRoster x).agree = s.agree := rfl
@[simp] theorem State.setRoster_turn (x : Roster) (s : State) : (s.setRoster x).turn = s.turn := rfl
@[simp] theorem State.setRoster_frames (x : Roster) (s : State) : (s.setRoster x).frames = s.frames := rfl
@[simp] theorem State.setRoster_build (x : Roster) (s : State) : (s.setRoster x).build = s.build := rfl
@[simp] theorem State.setRoster_port (x : Roster) (s : State) : (s.setRoster x).port = s.port := rfl
@[simp] theorem State.setRoster_insp (x : Roster) (s : State) : (s.setRoster x).insp = s.insp := rfl
@[simp] theorem State.setRoster_freeIndex (x : Roster) (s : State) : (s.setRoster x).freeIndex = s.freeIndex := rfl
@[simp] theorem State.setRoster_pending (x : Roster) (s : State) : (s.setRoster x).pending = s.pending := rfl

@[simp] theorem State.setFrames_frames (x : FrameUnit) (s : State) : (s.setFrames x).frames = x := rfl
@[simp] theorem State.setFrames_pins (x : FrameUnit) (s : State) : (s.setFrames x).pins = s.pins := rfl
@[simp] theorem State.setFrames_start (x : FrameUnit) (s : State) : (s.setFrames x).start = s.start := rfl
@[simp] theorem State.setFrames_config (x : FrameUnit) (s : State) : (s.setFrames x).config = s.config := rfl
@[simp] theorem State.setFrames_trig (x : FrameUnit) (s : State) : (s.setFrames x).trig = s.trig := rfl
@[simp] theorem State.setFrames_time (x : FrameUnit) (s : State) : (s.setFrames x).time = s.time := rfl
@[simp] theorem State.setFrames_store (x : FrameUnit) (s : State) : (s.setFrames x).store = s.store := rfl
@[simp] theorem State.setFrames_agree (x : FrameUnit) (s : State) : (s.setFrames x).agree = s.agree := rfl
@[simp] theorem State.setFrames_turn (x : FrameUnit) (s : State) : (s.setFrames x).turn = s.turn := rfl
@[simp] theorem State.setFrames_roster (x : FrameUnit) (s : State) : (s.setFrames x).roster = s.roster := rfl
@[simp] theorem State.setFrames_build (x : FrameUnit) (s : State) : (s.setFrames x).build = s.build := rfl
@[simp] theorem State.setFrames_port (x : FrameUnit) (s : State) : (s.setFrames x).port = s.port := rfl
@[simp] theorem State.setFrames_insp (x : FrameUnit) (s : State) : (s.setFrames x).insp = s.insp := rfl
@[simp] theorem State.setFrames_freeIndex (x : FrameUnit) (s : State) : (s.setFrames x).freeIndex = s.freeIndex := rfl
@[simp] theorem State.setFrames_pending (x : FrameUnit) (s : State) : (s.setFrames x).pending = s.pending := rfl

@[simp] theorem State.setBuild_build (x : BuildUnit) (s : State) : (s.setBuild x).build = x := rfl
@[simp] theorem State.setBuild_pins (x : BuildUnit) (s : State) : (s.setBuild x).pins = s.pins := rfl
@[simp] theorem State.setBuild_start (x : BuildUnit) (s : State) : (s.setBuild x).start = s.start := rfl
@[simp] theorem State.setBuild_config (x : BuildUnit) (s : State) : (s.setBuild x).config = s.config := rfl
@[simp] theorem State.setBuild_trig (x : BuildUnit) (s : State) : (s.setBuild x).trig = s.trig := rfl
@[simp] theorem State.setBuild_time (x : BuildUnit) (s : State) : (s.setBuild x).time = s.time := rfl
@[simp] theorem State.setBuild_store (x : BuildUnit) (s : State) : (s.setBuild x).store = s.store := rfl
@[simp] theorem State.setBuild_agree (x : BuildUnit) (s : State) : (s.setBuild x).agree = s.agree := rfl
@[simp] theorem State.setBuild_turn (x : BuildUnit) (s : State) : (s.setBuild x).turn = s.turn := rfl
@[simp] theorem State.setBuild_roster (x : BuildUnit) (s : State) : (s.setBuild x).roster = s.roster := rfl
@[simp] theorem State.setBuild_frames (x : BuildUnit) (s : State) : (s.setBuild x).frames = s.frames := rfl
@[simp] theorem State.setBuild_port (x : BuildUnit) (s : State) : (s.setBuild x).port = s.port := rfl
@[simp] theorem State.setBuild_insp (x : BuildUnit) (s : State) : (s.setBuild x).insp = s.insp := rfl
@[simp] theorem State.setBuild_freeIndex (x : BuildUnit) (s : State) : (s.setBuild x).freeIndex = s.freeIndex := rfl
@[simp] theorem State.setBuild_pending (x : BuildUnit) (s : State) : (s.setBuild x).pending = s.pending := rfl

@[simp] theorem State.setPort_port (x : DeliveryPort) (s : State) : (s.setPort x).port = x := rfl
@[simp] theorem State.setPort_pins (x : DeliveryPort) (s : State) : (s.setPort x).pins = s.pins := rfl
@[simp] theorem State.setPort_start (x : DeliveryPort) (s : State) : (s.setPort x).start = s.start := rfl
@[simp] theorem State.setPort_config (x : DeliveryPort) (s : State) : (s.setPort x).config = s.config := rfl
@[simp] theorem State.setPort_trig (x : DeliveryPort) (s : State) : (s.setPort x).trig = s.trig := rfl
@[simp] theorem State.setPort_time (x : DeliveryPort) (s : State) : (s.setPort x).time = s.time := rfl
@[simp] theorem State.setPort_store (x : DeliveryPort) (s : State) : (s.setPort x).store = s.store := rfl
@[simp] theorem State.setPort_agree (x : DeliveryPort) (s : State) : (s.setPort x).agree = s.agree := rfl
@[simp] theorem State.setPort_turn (x : DeliveryPort) (s : State) : (s.setPort x).turn = s.turn := rfl
@[simp] theorem State.setPort_roster (x : DeliveryPort) (s : State) : (s.setPort x).roster = s.roster := rfl
@[simp] theorem State.setPort_frames (x : DeliveryPort) (s : State) : (s.setPort x).frames = s.frames := rfl
@[simp] theorem State.setPort_build (x : DeliveryPort) (s : State) : (s.setPort x).build = s.build := rfl
@[simp] theorem State.setPort_insp (x : DeliveryPort) (s : State) : (s.setPort x).insp = s.insp := rfl
@[simp] theorem State.setPort_freeIndex (x : DeliveryPort) (s : State) : (s.setPort x).freeIndex = s.freeIndex := rfl
@[simp] theorem State.setPort_pending (x : DeliveryPort) (s : State) : (s.setPort x).pending = s.pending := rfl

@[simp] theorem State.setInsp_insp (x : Inspection) (s : State) : (s.setInsp x).insp = x := rfl
@[simp] theorem State.setInsp_pins (x : Inspection) (s : State) : (s.setInsp x).pins = s.pins := rfl
@[simp] theorem State.setInsp_start (x : Inspection) (s : State) : (s.setInsp x).start = s.start := rfl
@[simp] theorem State.setInsp_config (x : Inspection) (s : State) : (s.setInsp x).config = s.config := rfl
@[simp] theorem State.setInsp_trig (x : Inspection) (s : State) : (s.setInsp x).trig = s.trig := rfl
@[simp] theorem State.setInsp_time (x : Inspection) (s : State) : (s.setInsp x).time = s.time := rfl
@[simp] theorem State.setInsp_store (x : Inspection) (s : State) : (s.setInsp x).store = s.store := rfl
@[simp] theorem State.setInsp_agree (x : Inspection) (s : State) : (s.setInsp x).agree = s.agree := rfl
@[simp] theorem State.setInsp_turn (x : Inspection) (s : State) : (s.setInsp x).turn = s.turn := rfl
@[simp] theorem State.setInsp_roster (x : Inspection) (s : State) : (s.setInsp x).roster = s.roster := rfl
@[simp] theorem State.setInsp_frames (x : Inspection) (s : State) : (s.setInsp x).frames = s.frames := rfl
@[simp] theorem State.setInsp_build (x : Inspection) (s : State) : (s.setInsp x).build = s.build := rfl
@[simp] theorem State.setInsp_port (x : Inspection) (s : State) : (s.setInsp x).port = s.port := rfl
@[simp] theorem State.setInsp_freeIndex (x : Inspection) (s : State) : (s.setInsp x).freeIndex = s.freeIndex := rfl
@[simp] theorem State.setInsp_pending (x : Inspection) (s : State) : (s.setInsp x).pending = s.pending := rfl

@[simp] theorem State.setFreeIndex_freeIndex (x : Nat) (s : State) : (s.setFreeIndex x).freeIndex = x := rfl
@[simp] theorem State.setFreeIndex_pins (x : Nat) (s : State) : (s.setFreeIndex x).pins = s.pins := rfl
@[simp] theorem State.setFreeIndex_start (x : Nat) (s : State) : (s.setFreeIndex x).start = s.start := rfl
@[simp] theorem State.setFreeIndex_config (x : Nat) (s : State) : (s.setFreeIndex x).config = s.config := rfl
@[simp] theorem State.setFreeIndex_trig (x : Nat) (s : State) : (s.setFreeIndex x).trig = s.trig := rfl
@[simp] theorem State.setFreeIndex_time (x : Nat) (s : State) : (s.setFreeIndex x).time = s.time := rfl
@[simp] theorem State.setFreeIndex_store (x : Nat) (s : State) : (s.setFreeIndex x).store = s.store := rfl
@[simp] theorem State.setFreeIndex_agree (x : Nat) (s : State) : (s.setFreeIndex x).agree = s.agree := rfl
@[simp] theorem State.setFreeIndex_turn (x : Nat) (s : State) : (s.setFreeIndex x).turn = s.turn := rfl
@[simp] theorem State.setFreeIndex_roster (x : Nat) (s : State) : (s.setFreeIndex x).roster = s.roster := rfl
@[simp] theorem State.setFreeIndex_frames (x : Nat) (s : State) : (s.setFreeIndex x).frames = s.frames := rfl
@[simp] theorem State.setFreeIndex_build (x : Nat) (s : State) : (s.setFreeIndex x).build = s.build := rfl
@[simp] theorem State.setFreeIndex_port (x : Nat) (s : State) : (s.setFreeIndex x).port = s.port := rfl
@[simp] theorem State.setFreeIndex_insp (x : Nat) (s : State) : (s.setFreeIndex x).insp = s.insp := rfl
@[simp] theorem State.setFreeIndex_pending (x : Nat) (s : State) : (s.setFreeIndex x).pending = s.pending := rfl

@[simp] theorem State.setQueue_frames (q : Queue) (s : State) :
    (s.setQueue q).frames = { s.frames with queue := q } := rfl
@[simp] theorem State.setQueue_pins (q : Queue) (s : State) : (s.setQueue q).pins = s.pins := rfl
@[simp] theorem State.setQueue_start (q : Queue) (s : State) : (s.setQueue q).start = s.start := rfl
@[simp] theorem State.setQueue_config (q : Queue) (s : State) : (s.setQueue q).config = s.config := rfl
@[simp] theorem State.setQueue_trig (q : Queue) (s : State) : (s.setQueue q).trig = s.trig := rfl
@[simp] theorem State.setQueue_time (q : Queue) (s : State) : (s.setQueue q).time = s.time := rfl
@[simp] theorem State.setQueue_store (q : Queue) (s : State) : (s.setQueue q).store = s.store := rfl
@[simp] theorem State.setQueue_agree (q : Queue) (s : State) : (s.setQueue q).agree = s.agree := rfl
@[simp] theorem State.setQueue_turn (q : Queue) (s : State) : (s.setQueue q).turn = s.turn := rfl
@[simp] theorem State.setQueue_roster (q : Queue) (s : State) : (s.setQueue q).roster = s.roster := rfl
@[simp] theorem State.setQueue_build (q : Queue) (s : State) : (s.setQueue q).build = s.build := rfl
@[simp] theorem State.setQueue_port (q : Queue) (s : State) : (s.setQueue q).port = s.port := rfl
@[simp] theorem State.setQueue_insp (q : Queue) (s : State) : (s.setQueue q).insp = s.insp := rfl
@[simp] theorem State.setQueue_freeIndex (q : Queue) (s : State) : (s.setQueue q).freeIndex = s.freeIndex := rfl
@[simp] theorem State.setQueue_pending (q : Queue) (s : State) : (s.setQueue q).pending = s.pending := rfl

@[simp] theorem State.setStation_start (x : StationState) (s : State) :
    (s.setStation x).start = { s.start with station := x } := rfl
@[simp] theorem State.setStation_pins (x : StationState) (s : State) : (s.setStation x).pins = s.pins := rfl
@[simp] theorem State.setStation_config (x : StationState) (s : State) : (s.setStation x).config = s.config := rfl
@[simp] theorem State.setStation_trig (x : StationState) (s : State) : (s.setStation x).trig = s.trig := rfl
@[simp] theorem State.setStation_time (x : StationState) (s : State) : (s.setStation x).time = s.time := rfl
@[simp] theorem State.setStation_store (x : StationState) (s : State) : (s.setStation x).store = s.store := rfl
@[simp] theorem State.setStation_agree (x : StationState) (s : State) : (s.setStation x).agree = s.agree := rfl
@[simp] theorem State.setStation_turn (x : StationState) (s : State) : (s.setStation x).turn = s.turn := rfl
@[simp] theorem State.setStation_roster (x : StationState) (s : State) : (s.setStation x).roster = s.roster := rfl
@[simp] theorem State.setStation_frames (x : StationState) (s : State) : (s.setStation x).frames = s.frames := rfl
@[simp] theorem State.setStation_build (x : StationState) (s : State) : (s.setStation x).build = s.build := rfl
@[simp] theorem State.setStation_port (x : StationState) (s : State) : (s.setStation x).port = s.port := rfl
@[simp] theorem State.setStation_insp (x : StationState) (s : State) : (s.setStation x).insp = s.insp := rfl
@[simp] theorem State.setStation_freeIndex (x : StationState) (s : State) : (s.setStation x).freeIndex = s.freeIndex := rfl
@[simp] theorem State.setStation_pending (x : StationState) (s : State) : (s.setStation x).pending = s.pending := rfl

@[simp] theorem State.setLine_insp (x : InspectionLine) (s : State) :
    (s.setLine x).insp = { s.insp with line := x } := rfl
@[simp] theorem State.setLine_pins (x : InspectionLine) (s : State) : (s.setLine x).pins = s.pins := rfl
@[simp] theorem State.setLine_start (x : InspectionLine) (s : State) : (s.setLine x).start = s.start := rfl
@[simp] theorem State.setLine_config (x : InspectionLine) (s : State) : (s.setLine x).config = s.config := rfl
@[simp] theorem State.setLine_trig (x : InspectionLine) (s : State) : (s.setLine x).trig = s.trig := rfl
@[simp] theorem State.setLine_time (x : InspectionLine) (s : State) : (s.setLine x).time = s.time := rfl
@[simp] theorem State.setLine_store (x : InspectionLine) (s : State) : (s.setLine x).store = s.store := rfl
@[simp] theorem State.setLine_agree (x : InspectionLine) (s : State) : (s.setLine x).agree = s.agree := rfl
@[simp] theorem State.setLine_turn (x : InspectionLine) (s : State) : (s.setLine x).turn = s.turn := rfl
@[simp] theorem State.setLine_roster (x : InspectionLine) (s : State) : (s.setLine x).roster = s.roster := rfl
@[simp] theorem State.setLine_frames (x : InspectionLine) (s : State) : (s.setLine x).frames = s.frames := rfl
@[simp] theorem State.setLine_build (x : InspectionLine) (s : State) : (s.setLine x).build = s.build := rfl
@[simp] theorem State.setLine_port (x : InspectionLine) (s : State) : (s.setLine x).port = s.port := rfl
@[simp] theorem State.setLine_freeIndex (x : InspectionLine) (s : State) : (s.setLine x).freeIndex = s.freeIndex := rfl
@[simp] theorem State.setLine_pending (x : InspectionLine) (s : State) : (s.setLine x).pending = s.pending := rfl

end Sys2Proof.Machine
end

