-- ==== Sys2Proof/Laws/Frames.lean ====
section
/-! SUPPORT. One frame lemma for each shared operation: the blocks it leaves as they are, whatever the state. The blocks
that a lemma does not list are all that the operation can change. -/

namespace Sys2Proof.Machine

/-! ## Counters, faults, roster, transmit queue (Machine/Ops.lean) -/

@[simp] theorem State.bump_frame (c : Counter) (s : State) :
    (s.bump c).pins = s.pins ∧ (s.bump c).start = s.start ∧ (s.bump c).config = s.config
      ∧ (s.bump c).trig = s.trig ∧ (s.bump c).time = s.time ∧ (s.bump c).store = s.store
      ∧ (s.bump c).agree = s.agree ∧ (s.bump c).turn = s.turn ∧ (s.bump c).roster = s.roster
      ∧ (s.bump c).frames = s.frames ∧ (s.bump c).build = s.build ∧ (s.bump c).port = s.port
      ∧ (s.bump c).freeIndex = s.freeIndex ∧ (s.bump c).pending = s.pending := by
  simp [State.bump]

@[simp] theorem State.raise_frame (code : FaultCode) (x : Nat) (s : State) :
    (s.raise code x).pins = s.pins ∧ (s.raise code x).start = s.start ∧ (s.raise code x).config = s.config
      ∧ (s.raise code x).trig = s.trig ∧ (s.raise code x).time = s.time ∧ (s.raise code x).store = s.store
      ∧ (s.raise code x).agree = s.agree ∧ (s.raise code x).turn = s.turn ∧ (s.raise code x).roster = s.roster
      ∧ (s.raise code x).frames = s.frames ∧ (s.raise code x).build = s.build ∧ (s.raise code x).port = s.port
      ∧ (s.raise code x).freeIndex = s.freeIndex ∧ (s.raise code x).pending = s.pending := by
  simp [State.raise]

@[simp] theorem State.setEntry_frame (a : Addr) (e : RosterEntry) (s : State) :
    (s.setEntry a e).pins = s.pins ∧ (s.setEntry a e).start = s.start ∧ (s.setEntry a e).config = s.config
      ∧ (s.setEntry a e).trig = s.trig ∧ (s.setEntry a e).time = s.time ∧ (s.setEntry a e).store = s.store
      ∧ (s.setEntry a e).agree = s.agree ∧ (s.setEntry a e).turn = s.turn ∧ (s.setEntry a e).frames = s.frames
      ∧ (s.setEntry a e).build = s.build ∧ (s.setEntry a e).port = s.port ∧ (s.setEntry a e).insp = s.insp
      ∧ (s.setEntry a e).freeIndex = s.freeIndex ∧ (s.setEntry a e).pending = s.pending := by
  simp [State.setEntry]

@[simp] theorem State.raiseMark_frame (a : Addr) (n : Nat) (s : State) :
    (s.raiseMark a n).pins = s.pins ∧ (s.raiseMark a n).start = s.start ∧ (s.raiseMark a n).config = s.config
      ∧ (s.raiseMark a n).trig = s.trig ∧ (s.raiseMark a n).time = s.time ∧ (s.raiseMark a n).store = s.store
      ∧ (s.raiseMark a n).agree = s.agree ∧ (s.raiseMark a n).turn = s.turn
      ∧ (s.raiseMark a n).frames = s.frames ∧ (s.raiseMark a n).build = s.build
      ∧ (s.raiseMark a n).port = s.port ∧ (s.raiseMark a n).insp = s.insp
      ∧ (s.raiseMark a n).freeIndex = s.freeIndex ∧ (s.raiseMark a n).pending = s.pending := by
  simp [State.raiseMark]

@[simp] theorem State.offerTake_frame (n : Nat) (x : Time) (s : State) :
    (s.offerTake n x).pins = s.pins ∧ (s.offerTake n x).start = s.start ∧ (s.offerTake n x).config = s.config
      ∧ (s.offerTake n x).trig = s.trig ∧ (s.offerTake n x).time = s.time ∧ (s.offerTake n x).store = s.store
      ∧ (s.offerTake n x).agree = s.agree ∧ (s.offerTake n x).turn = s.turn
      ∧ (s.offerTake n x).roster = s.roster ∧ (s.offerTake n x).build = s.build
      ∧ (s.offerTake n x).port = s.port ∧ (s.offerTake n x).insp = s.insp
      ∧ (s.offerTake n x).freeIndex = s.freeIndex ∧ (s.offerTake n x).pending = s.pending := by
  simp [State.offerTake]

@[simp] theorem State.withdrawTake_frame (n : Nat) (s : State) :
    (s.withdrawTake n).pins = s.pins ∧ (s.withdrawTake n).start = s.start
      ∧ (s.withdrawTake n).config = s.config ∧ (s.withdrawTake n).trig = s.trig
      ∧ (s.withdrawTake n).time = s.time ∧ (s.withdrawTake n).store = s.store
      ∧ (s.withdrawTake n).agree = s.agree ∧ (s.withdrawTake n).turn = s.turn
      ∧ (s.withdrawTake n).roster = s.roster ∧ (s.withdrawTake n).build = s.build
      ∧ (s.withdrawTake n).port = s.port ∧ (s.withdrawTake n).insp = s.insp
      ∧ (s.withdrawTake n).freeIndex = s.freeIndex ∧ (s.withdrawTake n).pending = s.pending := by
  simp [State.withdrawTake]

@[simp] theorem State.shiftTakes_frame (f : Nat → Option Nat) (s : State) :
    (s.shiftTakes f).pins = s.pins ∧ (s.shiftTakes f).start = s.start ∧ (s.shiftTakes f).config = s.config
      ∧ (s.shiftTakes f).trig = s.trig ∧ (s.shiftTakes f).time = s.time ∧ (s.shiftTakes f).store = s.store
      ∧ (s.shiftTakes f).agree = s.agree ∧ (s.shiftTakes f).turn = s.turn ∧ (s.shiftTakes f).roster = s.roster
      ∧ (s.shiftTakes f).build = s.build ∧ (s.shiftTakes f).port = s.port ∧ (s.shiftTakes f).insp = s.insp
      ∧ (s.shiftTakes f).freeIndex = s.freeIndex ∧ (s.shiftTakes f).pending = s.pending := by
  simp [State.shiftTakes]

@[simp] theorem State.offerSkip_frame (f : SkipFrame) (s : State) :
    (s.offerSkip f).pins = s.pins ∧ (s.offerSkip f).start = s.start ∧ (s.offerSkip f).config = s.config
      ∧ (s.offerSkip f).trig = s.trig ∧ (s.offerSkip f).time = s.time ∧ (s.offerSkip f).store = s.store
      ∧ (s.offerSkip f).agree = s.agree ∧ (s.offerSkip f).turn = s.turn ∧ (s.offerSkip f).roster = s.roster
      ∧ (s.offerSkip f).build = s.build ∧ (s.offerSkip f).port = s.port ∧ (s.offerSkip f).insp = s.insp
      ∧ (s.offerSkip f).freeIndex = s.freeIndex ∧ (s.offerSkip f).pending = s.pending := by
  simp [State.offerSkip]

@[simp] theorem State.withdrawSkip_frame (s : State) :
    (s.withdrawSkip).pins = s.pins ∧ (s.withdrawSkip).start = s.start ∧ (s.withdrawSkip).config = s.config
      ∧ (s.withdrawSkip).trig = s.trig ∧ (s.withdrawSkip).time = s.time ∧ (s.withdrawSkip).store = s.store
      ∧ (s.withdrawSkip).agree = s.agree ∧ (s.withdrawSkip).turn = s.turn ∧ (s.withdrawSkip).roster = s.roster
      ∧ (s.withdrawSkip).build = s.build ∧ (s.withdrawSkip).port = s.port ∧ (s.withdrawSkip).insp = s.insp
      ∧ (s.withdrawSkip).freeIndex = s.freeIndex ∧ (s.withdrawSkip).pending = s.pending := by
  simp [State.withdrawSkip]

@[simp] theorem State.offerFrag_frame (f : FragFrame) (s : State) :
    (s.offerFrag f).pins = s.pins ∧ (s.offerFrag f).start = s.start ∧ (s.offerFrag f).config = s.config
      ∧ (s.offerFrag f).trig = s.trig ∧ (s.offerFrag f).time = s.time ∧ (s.offerFrag f).store = s.store
      ∧ (s.offerFrag f).agree = s.agree ∧ (s.offerFrag f).turn = s.turn ∧ (s.offerFrag f).roster = s.roster
      ∧ (s.offerFrag f).build = s.build ∧ (s.offerFrag f).port = s.port ∧ (s.offerFrag f).insp = s.insp
      ∧ (s.offerFrag f).freeIndex = s.freeIndex ∧ (s.offerFrag f).pending = s.pending := by
  simp [State.offerFrag]

@[simp] theorem State.withdrawFrag_frame (s : State) :
    (s.withdrawFrag).pins = s.pins ∧ (s.withdrawFrag).start = s.start ∧ (s.withdrawFrag).config = s.config
      ∧ (s.withdrawFrag).trig = s.trig ∧ (s.withdrawFrag).time = s.time ∧ (s.withdrawFrag).store = s.store
      ∧ (s.withdrawFrag).agree = s.agree ∧ (s.withdrawFrag).turn = s.turn ∧ (s.withdrawFrag).roster = s.roster
      ∧ (s.withdrawFrag).build = s.build ∧ (s.withdrawFrag).port = s.port ∧ (s.withdrawFrag).insp = s.insp
      ∧ (s.withdrawFrag).freeIndex = s.freeIndex ∧ (s.withdrawFrag).pending = s.pending := by
  simp [State.withdrawFrag]

@[simp] theorem State.offerRoll_frame (m : RollMode) (s : State) :
    (s.offerRoll m).pins = s.pins ∧ (s.offerRoll m).start = s.start ∧ (s.offerRoll m).config = s.config
      ∧ (s.offerRoll m).trig = s.trig ∧ (s.offerRoll m).time = s.time ∧ (s.offerRoll m).store = s.store
      ∧ (s.offerRoll m).agree = s.agree ∧ (s.offerRoll m).turn = s.turn ∧ (s.offerRoll m).roster = s.roster
      ∧ (s.offerRoll m).build = s.build ∧ (s.offerRoll m).port = s.port ∧ (s.offerRoll m).insp = s.insp
      ∧ (s.offerRoll m).freeIndex = s.freeIndex ∧ (s.offerRoll m).pending = s.pending := by
  unfold State.offerRoll; (repeat' split) <;> simp

@[simp] theorem State.withdrawEcho_frame (s : State) :
    (s.withdrawEcho).pins = s.pins ∧ (s.withdrawEcho).start = s.start ∧ (s.withdrawEcho).config = s.config
      ∧ (s.withdrawEcho).trig = s.trig ∧ (s.withdrawEcho).time = s.time ∧ (s.withdrawEcho).store = s.store
      ∧ (s.withdrawEcho).agree = s.agree ∧ (s.withdrawEcho).turn = s.turn ∧ (s.withdrawEcho).roster = s.roster
      ∧ (s.withdrawEcho).build = s.build ∧ (s.withdrawEcho).port = s.port ∧ (s.withdrawEcho).insp = s.insp
      ∧ (s.withdrawEcho).freeIndex = s.freeIndex ∧ (s.withdrawEcho).pending = s.pending := by
  unfold State.withdrawEcho; (repeat' split) <;> simp

@[simp] theorem State.refreshRoll_frame (s : State) :
    (s.refreshRoll).pins = s.pins ∧ (s.refreshRoll).start = s.start ∧ (s.refreshRoll).config = s.config
      ∧ (s.refreshRoll).trig = s.trig ∧ (s.refreshRoll).time = s.time ∧ (s.refreshRoll).store = s.store
      ∧ (s.refreshRoll).agree = s.agree ∧ (s.refreshRoll).turn = s.turn ∧ (s.refreshRoll).roster = s.roster
      ∧ (s.refreshRoll).build = s.build ∧ (s.refreshRoll).port = s.port ∧ (s.refreshRoll).insp = s.insp
      ∧ (s.refreshRoll).freeIndex = s.freeIndex ∧ (s.refreshRoll).pending = s.pending := by
  unfold State.refreshRoll; (repeat' split) <;> simp

@[simp] theorem State.refuseTake_frame (n : Nat) (s : State) :
    (s.refuseTake n).pins = s.pins ∧ (s.refuseTake n).start = s.start ∧ (s.refuseTake n).config = s.config
      ∧ (s.refuseTake n).trig = s.trig ∧ (s.refuseTake n).time = s.time ∧ (s.refuseTake n).store = s.store
      ∧ (s.refuseTake n).turn = s.turn ∧ (s.refuseTake n).roster = s.roster
      ∧ (s.refuseTake n).frames = s.frames ∧ (s.refuseTake n).build = s.build ∧ (s.refuseTake n).port = s.port
      ∧ (s.refuseTake n).freeIndex = s.freeIndex ∧ (s.refuseTake n).pending = s.pending := by
  unfold State.refuseTake; (repeat' split) <;> simp

@[simp] theorem State.becomeExhausted_frame (n : Nat) (s : State) :
    (s.becomeExhausted n).pins = s.pins ∧ (s.becomeExhausted n).start = s.start
      ∧ (s.becomeExhausted n).config = s.config ∧ (s.becomeExhausted n).trig = s.trig
      ∧ (s.becomeExhausted n).time = s.time ∧ (s.becomeExhausted n).store = s.store
      ∧ (s.becomeExhausted n).turn = s.turn ∧ (s.becomeExhausted n).roster = s.roster
      ∧ (s.becomeExhausted n).frames = s.frames ∧ (s.becomeExhausted n).build = s.build
      ∧ (s.becomeExhausted n).port = s.port ∧ (s.becomeExhausted n).freeIndex = s.freeIndex
      ∧ (s.becomeExhausted n).pending = s.pending := by
  simp [State.becomeExhausted]

/-! ## Builds and the delivery port (Machine/Delivery.lean) -/

@[simp] theorem State.settleBuilds_frame (l : List Addr) (s : State) :
    (s.settleBuilds l).pins = s.pins ∧ (s.settleBuilds l).start = s.start
      ∧ (s.settleBuilds l).config = s.config ∧ (s.settleBuilds l).trig = s.trig
      ∧ (s.settleBuilds l).time = s.time ∧ (s.settleBuilds l).store = s.store
      ∧ (s.settleBuilds l).agree = s.agree ∧ (s.settleBuilds l).turn = s.turn
      ∧ (s.settleBuilds l).roster = s.roster ∧ (s.settleBuilds l).frames = s.frames
      ∧ (s.settleBuilds l).port = s.port ∧ (s.settleBuilds l).insp = s.insp
      ∧ (s.settleBuilds l).freeIndex = s.freeIndex ∧ (s.settleBuilds l).pending = s.pending := by
  simp [State.settleBuilds]

@[simp] theorem State.offerWord_frame (p : PortState) (w : Word) (s : State) :
    (s.offerWord p w).pins = s.pins ∧ (s.offerWord p w).start = s.start ∧ (s.offerWord p w).config = s.config
      ∧ (s.offerWord p w).trig = s.trig ∧ (s.offerWord p w).time = s.time ∧ (s.offerWord p w).store = s.store
      ∧ (s.offerWord p w).agree = s.agree ∧ (s.offerWord p w).turn = s.turn
      ∧ (s.offerWord p w).roster = s.roster ∧ (s.offerWord p w).frames = s.frames
      ∧ (s.offerWord p w).build = s.build ∧ (s.offerWord p w).insp = s.insp
      ∧ (s.offerWord p w).freeIndex = s.freeIndex ∧ (s.offerWord p w).pending = s.pending := by
  simp [State.offerWord]

@[simp] theorem State.startDelivery_frame (s : State) :
    (s.startDelivery).pins = s.pins ∧ (s.startDelivery).start = s.start ∧ (s.startDelivery).config = s.config
      ∧ (s.startDelivery).trig = s.trig ∧ (s.startDelivery).time = s.time ∧ (s.startDelivery).store = s.store
      ∧ (s.startDelivery).agree = s.agree ∧ (s.startDelivery).turn = s.turn
      ∧ (s.startDelivery).roster = s.roster ∧ (s.startDelivery).frames = s.frames
      ∧ (s.startDelivery).insp = s.insp ∧ (s.startDelivery).freeIndex = s.freeIndex
      ∧ (s.startDelivery).pending = s.pending := by
  unfold State.startDelivery; (repeat' split) <;> simp

@[simp] theorem State.endRecord_frame (s : State) :
    (s.endRecord).pins = s.pins ∧ (s.endRecord).start = s.start ∧ (s.endRecord).config = s.config
      ∧ (s.endRecord).trig = s.trig ∧ (s.endRecord).time = s.time ∧ (s.endRecord).store = s.store
      ∧ (s.endRecord).agree = s.agree ∧ (s.endRecord).turn = s.turn ∧ (s.endRecord).roster = s.roster
      ∧ (s.endRecord).frames = s.frames ∧ (s.endRecord).insp = s.insp ∧ (s.endRecord).freeIndex = s.freeIndex
      ∧ (s.endRecord).pending = s.pending := by
  unfold State.endRecord; (repeat' split) <;> simp

@[simp] theorem State.takeWord_frame (s : State) :
    (s.takeWord).pins = s.pins ∧ (s.takeWord).start = s.start ∧ (s.takeWord).config = s.config
      ∧ (s.takeWord).trig = s.trig ∧ (s.takeWord).time = s.time ∧ (s.takeWord).store = s.store
      ∧ (s.takeWord).agree = s.agree ∧ (s.takeWord).turn = s.turn ∧ (s.takeWord).roster = s.roster
      ∧ (s.takeWord).frames = s.frames ∧ (s.takeWord).insp = s.insp ∧ (s.takeWord).freeIndex = s.freeIndex
      ∧ (s.takeWord).pending = s.pending := by
  unfold State.takeWord; (repeat' split) <;> simp

@[simp] theorem State.timeoutBuild_frame (n : Nat) (s : State) :
    (s.timeoutBuild n).pins = s.pins ∧ (s.timeoutBuild n).start = s.start
      ∧ (s.timeoutBuild n).config = s.config ∧ (s.timeoutBuild n).trig = s.trig
      ∧ (s.timeoutBuild n).time = s.time ∧ (s.timeoutBuild n).store = s.store
      ∧ (s.timeoutBuild n).agree = s.agree ∧ (s.timeoutBuild n).turn = s.turn
      ∧ (s.timeoutBuild n).roster = s.roster ∧ (s.timeoutBuild n).frames = s.frames
      ∧ (s.timeoutBuild n).port = s.port ∧ (s.timeoutBuild n).insp = s.insp
      ∧ (s.timeoutBuild n).freeIndex = s.freeIndex ∧ (s.timeoutBuild n).pending = s.pending := by
  simp [State.timeoutBuild]

/-! ## Turns (Machine/Turns.lean) -/

@[simp] theorem State.removeDrained_frame (s : State) :
    (s.removeDrained).pins = s.pins ∧ (s.removeDrained).start = s.start ∧ (s.removeDrained).config = s.config
      ∧ (s.removeDrained).trig = s.trig ∧ (s.removeDrained).time = s.time ∧ (s.removeDrained).store = s.store
      ∧ (s.removeDrained).turn = s.turn ∧ (s.removeDrained).roster = s.roster
      ∧ (s.removeDrained).frames = s.frames ∧ (s.removeDrained).build = s.build
      ∧ (s.removeDrained).port = s.port ∧ (s.removeDrained).insp = s.insp
      ∧ (s.removeDrained).freeIndex = s.freeIndex ∧ (s.removeDrained).pending = s.pending := by
  simp [State.removeDrained]

@[simp] theorem State.dropSkip_frame (s : State) :
    (s.dropSkip).pins = s.pins ∧ (s.dropSkip).start = s.start ∧ (s.dropSkip).config = s.config
      ∧ (s.dropSkip).trig = s.trig ∧ (s.dropSkip).time = s.time ∧ (s.dropSkip).store = s.store
      ∧ (s.dropSkip).agree = s.agree ∧ (s.dropSkip).turn = s.turn ∧ (s.dropSkip).roster = s.roster
      ∧ (s.dropSkip).build = s.build ∧ (s.dropSkip).port = s.port ∧ (s.dropSkip).insp = s.insp
      ∧ (s.dropSkip).freeIndex = s.freeIndex ∧ (s.dropSkip).pending = s.pending := by
  unfold State.dropSkip; (repeat' split) <;> simp

@[simp] theorem State.evalTimer_frame (s : State) :
    (s.evalTimer).pins = s.pins ∧ (s.evalTimer).start = s.start ∧ (s.evalTimer).config = s.config
      ∧ (s.evalTimer).trig = s.trig ∧ (s.evalTimer).time = s.time ∧ (s.evalTimer).store = s.store
      ∧ (s.evalTimer).agree = s.agree ∧ (s.evalTimer).roster = s.roster ∧ (s.evalTimer).build = s.build
      ∧ (s.evalTimer).port = s.port ∧ (s.evalTimer).insp = s.insp ∧ (s.evalTimer).freeIndex = s.freeIndex
      ∧ (s.evalTimer).pending = s.pending := by
  unfold State.evalTimer; (repeat' split) <;> simp

@[simp] theorem State.stopTimer_frame (s : State) :
    (s.stopTimer).pins = s.pins ∧ (s.stopTimer).start = s.start ∧ (s.stopTimer).config = s.config
      ∧ (s.stopTimer).trig = s.trig ∧ (s.stopTimer).time = s.time ∧ (s.stopTimer).store = s.store
      ∧ (s.stopTimer).agree = s.agree ∧ (s.stopTimer).roster = s.roster ∧ (s.stopTimer).build = s.build
      ∧ (s.stopTimer).port = s.port ∧ (s.stopTimer).insp = s.insp ∧ (s.stopTimer).freeIndex = s.freeIndex
      ∧ (s.stopTimer).pending = s.pending := by
  simp [State.stopTimer]

@[simp] theorem State.markSending_frame (n : Nat) (s : State) :
    (s.markSending n).pins = s.pins ∧ (s.markSending n).start = s.start ∧ (s.markSending n).config = s.config
      ∧ (s.markSending n).trig = s.trig ∧ (s.markSending n).time = s.time ∧ (s.markSending n).agree = s.agree
      ∧ (s.markSending n).turn = s.turn ∧ (s.markSending n).roster = s.roster
      ∧ (s.markSending n).frames = s.frames ∧ (s.markSending n).build = s.build
      ∧ (s.markSending n).port = s.port ∧ (s.markSending n).insp = s.insp
      ∧ (s.markSending n).freeIndex = s.freeIndex ∧ (s.markSending n).pending = s.pending := by
  simp [State.markSending]

@[simp] theorem State.offerParts_frame (s : State) :
    (s.offerParts).pins = s.pins ∧ (s.offerParts).start = s.start ∧ (s.offerParts).config = s.config
      ∧ (s.offerParts).trig = s.trig ∧ (s.offerParts).time = s.time ∧ (s.offerParts).agree = s.agree
      ∧ (s.offerParts).turn = s.turn ∧ (s.offerParts).roster = s.roster ∧ (s.offerParts).build = s.build
      ∧ (s.offerParts).port = s.port ∧ (s.offerParts).insp = s.insp ∧ (s.offerParts).freeIndex = s.freeIndex
      ∧ (s.offerParts).pending = s.pending := by
  unfold State.offerParts; (repeat' split) <;> simp

@[simp] theorem State.reassess_frame (s : State) :
    (s.reassess).pins = s.pins ∧ (s.reassess).start = s.start ∧ (s.reassess).config = s.config
      ∧ (s.reassess).trig = s.trig ∧ (s.reassess).time = s.time ∧ (s.reassess).store = s.store
      ∧ (s.reassess).roster = s.roster ∧ (s.reassess).build = s.build ∧ (s.reassess).port = s.port
      ∧ (s.reassess).insp = s.insp ∧ (s.reassess).freeIndex = s.freeIndex ∧ (s.reassess).pending = s.pending := by
  simp [State.reassess]

@[simp] theorem State.settle_frame (l : List Addr) (s : State) :
    (s.settle l).pins = s.pins ∧ (s.settle l).start = s.start ∧ (s.settle l).config = s.config
      ∧ (s.settle l).trig = s.trig ∧ (s.settle l).time = s.time ∧ (s.settle l).roster = s.roster
      ∧ (s.settle l).insp = s.insp ∧ (s.settle l).freeIndex = s.freeIndex ∧ (s.settle l).pending = s.pending := by
  simp [State.settle]

@[simp] theorem State.expireTurn_frame (s : State) :
    (s.expireTurn).pins = s.pins ∧ (s.expireTurn).start = s.start ∧ (s.expireTurn).config = s.config
      ∧ (s.expireTurn).trig = s.trig ∧ (s.expireTurn).time = s.time ∧ (s.expireTurn).store = s.store
      ∧ (s.expireTurn).agree = s.agree ∧ (s.expireTurn).roster = s.roster ∧ (s.expireTurn).build = s.build
      ∧ (s.expireTurn).port = s.port ∧ (s.expireTurn).insp = s.insp ∧ (s.expireTurn).freeIndex = s.freeIndex
      ∧ (s.expireTurn).pending = s.pending := by
  unfold State.expireTurn; (repeat' split) <;> simp

/-! ## Event building (Machine/Building.lean) -/

@[simp] theorem State.putBuild_frame (b : Build) (s : State) :
    (s.putBuild b).pins = s.pins ∧ (s.putBuild b).start = s.start ∧ (s.putBuild b).config = s.config
      ∧ (s.putBuild b).trig = s.trig ∧ (s.putBuild b).time = s.time ∧ (s.putBuild b).store = s.store
      ∧ (s.putBuild b).agree = s.agree ∧ (s.putBuild b).turn = s.turn ∧ (s.putBuild b).roster = s.roster
      ∧ (s.putBuild b).frames = s.frames ∧ (s.putBuild b).port = s.port ∧ (s.putBuild b).insp = s.insp
      ∧ (s.putBuild b).freeIndex = s.freeIndex ∧ (s.putBuild b).pending = s.pending := by
  simp [State.putBuild]

@[simp] theorem State.applyPart_frame (f : FragFrame) (b : Build) (s : State) :
    (s.applyPart f b).pins = s.pins ∧ (s.applyPart f b).start = s.start ∧ (s.applyPart f b).config = s.config
      ∧ (s.applyPart f b).trig = s.trig ∧ (s.applyPart f b).time = s.time ∧ (s.applyPart f b).store = s.store
      ∧ (s.applyPart f b).agree = s.agree ∧ (s.applyPart f b).turn = s.turn
      ∧ (s.applyPart f b).roster = s.roster ∧ (s.applyPart f b).frames = s.frames
      ∧ (s.applyPart f b).port = s.port ∧ (s.applyPart f b).pending = s.pending := by
  unfold State.applyPart; dsimp only; (repeat' split) <;> simp

@[simp] theorem State.applySkip_frame (f : SkipFrame) (b : Build) (s : State) :
    (s.applySkip f b).pins = s.pins ∧ (s.applySkip f b).start = s.start ∧ (s.applySkip f b).config = s.config
      ∧ (s.applySkip f b).trig = s.trig ∧ (s.applySkip f b).time = s.time ∧ (s.applySkip f b).store = s.store
      ∧ (s.applySkip f b).agree = s.agree ∧ (s.applySkip f b).turn = s.turn
      ∧ (s.applySkip f b).roster = s.roster ∧ (s.applySkip f b).frames = s.frames
      ∧ (s.applySkip f b).port = s.port ∧ (s.applySkip f b).insp = s.insp
      ∧ (s.applySkip f b).freeIndex = s.freeIndex ∧ (s.applySkip f b).pending = s.pending := by
  unfold State.applySkip; dsimp only; (repeat' split) <;> simp

@[simp] theorem State.fillBuilds_frame (n : Nat) (x : Time) (s : State) :
    (s.fillBuilds n x).pins = s.pins ∧ (s.fillBuilds n x).start = s.start
      ∧ (s.fillBuilds n x).config = s.config ∧ (s.fillBuilds n x).trig = s.trig
      ∧ (s.fillBuilds n x).time = s.time ∧ (s.fillBuilds n x).store = s.store
      ∧ (s.fillBuilds n x).agree = s.agree ∧ (s.fillBuilds n x).turn = s.turn
      ∧ (s.fillBuilds n x).roster = s.roster ∧ (s.fillBuilds n x).frames = s.frames
      ∧ (s.fillBuilds n x).port = s.port ∧ (s.fillBuilds n x).insp = s.insp
      ∧ (s.fillBuilds n x).freeIndex = s.freeIndex ∧ (s.fillBuilds n x).pending = s.pending := by
  simp [State.fillBuilds]

/-! ## The agreement unit (Machine/Agreement.lean) -/

@[simp] theorem State.storeEdge_frame (n : Nat) (x : Time) (s : State) :
    (s.storeEdge n x).pins = s.pins ∧ (s.storeEdge n x).start = s.start ∧ (s.storeEdge n x).config = s.config
      ∧ (s.storeEdge n x).trig = s.trig ∧ (s.storeEdge n x).time = s.time ∧ (s.storeEdge n x).agree = s.agree
      ∧ (s.storeEdge n x).turn = s.turn ∧ (s.storeEdge n x).roster = s.roster
      ∧ (s.storeEdge n x).frames = s.frames ∧ (s.storeEdge n x).build = s.build
      ∧ (s.storeEdge n x).port = s.port ∧ (s.storeEdge n x).freeIndex = s.freeIndex
      ∧ (s.storeEdge n x).pending = s.pending := by
  unfold State.storeEdge; (repeat' split) <;> simp

@[simp] theorem State.countEdge_frame (s : State) :
    (s.countEdge).pins = s.pins ∧ (s.countEdge).start = s.start ∧ (s.countEdge).config = s.config
      ∧ (s.countEdge).trig = s.trig ∧ (s.countEdge).time = s.time ∧ (s.countEdge).store = s.store
      ∧ (s.countEdge).turn = s.turn ∧ (s.countEdge).roster = s.roster ∧ (s.countEdge).frames = s.frames
      ∧ (s.countEdge).build = s.build ∧ (s.countEdge).port = s.port ∧ (s.countEdge).freeIndex = s.freeIndex
      ∧ (s.countEdge).pending = s.pending := by
  unfold State.countEdge; (repeat' split) <;> simp

@[simp] theorem State.appendPending_frame (n : Nat) (x : Time) (s : State) :
    (s.appendPending n x).pins = s.pins ∧ (s.appendPending n x).start = s.start
      ∧ (s.appendPending n x).config = s.config ∧ (s.appendPending n x).trig = s.trig
      ∧ (s.appendPending n x).time = s.time ∧ (s.appendPending n x).store = s.store
      ∧ (s.appendPending n x).turn = s.turn ∧ (s.appendPending n x).roster = s.roster
      ∧ (s.appendPending n x).frames = s.frames ∧ (s.appendPending n x).build = s.build
      ∧ (s.appendPending n x).port = s.port ∧ (s.appendPending n x).insp = s.insp
      ∧ (s.appendPending n x).freeIndex = s.freeIndex ∧ (s.appendPending n x).pending = s.pending := by
  simp [State.appendPending]

@[simp] theorem State.acceptEdge_frame (s : State) :
    (s.acceptEdge).pins = s.pins ∧ (s.acceptEdge).start = s.start ∧ (s.acceptEdge).config = s.config
      ∧ (s.acceptEdge).trig = s.trig ∧ (s.acceptEdge).time = s.time ∧ (s.acceptEdge).turn = s.turn
      ∧ (s.acceptEdge).roster = s.roster ∧ (s.acceptEdge).build = s.build ∧ (s.acceptEdge).port = s.port
      ∧ (s.acceptEdge).freeIndex = s.freeIndex ∧ (s.acceptEdge).pending = s.pending := by
  simp [State.acceptEdge]

@[simp] theorem State.markSuspect_frame (n : Nat) (s : State) :
    (s.markSuspect n).pins = s.pins ∧ (s.markSuspect n).start = s.start ∧ (s.markSuspect n).config = s.config
      ∧ (s.markSuspect n).trig = s.trig ∧ (s.markSuspect n).time = s.time ∧ (s.markSuspect n).agree = s.agree
      ∧ (s.markSuspect n).turn = s.turn ∧ (s.markSuspect n).roster = s.roster
      ∧ (s.markSuspect n).frames = s.frames ∧ (s.markSuspect n).build = s.build
      ∧ (s.markSuspect n).port = s.port ∧ (s.markSuspect n).insp = s.insp
      ∧ (s.markSuspect n).freeIndex = s.freeIndex ∧ (s.markSuspect n).pending = s.pending := by
  simp [State.markSuspect]

@[simp] theorem State.takePair_frame (n : Nat) (x e : Time) (s : State) :
    (s.takePair n x e).pins = s.pins ∧ (s.takePair n x e).start = s.start
      ∧ (s.takePair n x e).config = s.config ∧ (s.takePair n x e).trig = s.trig
      ∧ (s.takePair n x e).agree = s.agree ∧ (s.takePair n x e).turn = s.turn
      ∧ (s.takePair n x e).roster = s.roster ∧ (s.takePair n x e).frames = s.frames
      ∧ (s.takePair n x e).build = s.build ∧ (s.takePair n x e).port = s.port
      ∧ (s.takePair n x e).freeIndex = s.freeIndex ∧ (s.takePair n x e).pending = s.pending := by
  unfold State.takePair; (repeat' split) <;> simp

@[simp] theorem State.answer_frame (n : Nat) (x : Time) (s : State) :
    (s.answer n x).pins = s.pins ∧ (s.answer n x).start = s.start ∧ (s.answer n x).config = s.config
      ∧ (s.answer n x).trig = s.trig ∧ (s.answer n x).turn = s.turn ∧ (s.answer n x).roster = s.roster
      ∧ (s.answer n x).build = s.build ∧ (s.answer n x).port = s.port ∧ (s.answer n x).freeIndex = s.freeIndex
      ∧ (s.answer n x).pending = s.pending := by
  unfold State.answer; (repeat' split) <;> simp

@[simp] theorem State.shiftEvn_frame (o n : Nat) (l : List PendingTake) (s : State) :
    (s.shiftEvn o n l).pins = s.pins ∧ (s.shiftEvn o n l).start = s.start
      ∧ (s.shiftEvn o n l).config = s.config ∧ (s.shiftEvn o n l).trig = s.trig
      ∧ (s.shiftEvn o n l).time = s.time ∧ (s.shiftEvn o n l).store = s.store
      ∧ (s.shiftEvn o n l).turn = s.turn ∧ (s.shiftEvn o n l).roster = s.roster
      ∧ (s.shiftEvn o n l).frames = s.frames ∧ (s.shiftEvn o n l).build = s.build
      ∧ (s.shiftEvn o n l).port = s.port ∧ (s.shiftEvn o n l).freeIndex = s.freeIndex
      ∧ (s.shiftEvn o n l).pending = s.pending := by
  unfold State.shiftEvn; (repeat' split) <;> simp

@[simp] theorem State.renumber_frame (o n : Nat) (s : State) :
    (s.renumber o n).pins = s.pins ∧ (s.renumber o n).start = s.start ∧ (s.renumber o n).config = s.config
      ∧ (s.renumber o n).trig = s.trig ∧ (s.renumber o n).time = s.time ∧ (s.renumber o n).turn = s.turn
      ∧ (s.renumber o n).roster = s.roster ∧ (s.renumber o n).build = s.build ∧ (s.renumber o n).port = s.port
      ∧ (s.renumber o n).freeIndex = s.freeIndex ∧ (s.renumber o n).pending = s.pending := by
  simp [State.renumber]

@[simp] theorem State.catchUp_frame (n : Nat) (s : State) :
    (s.catchUp n).pins = s.pins ∧ (s.catchUp n).start = s.start ∧ (s.catchUp n).config = s.config
      ∧ (s.catchUp n).trig = s.trig ∧ (s.catchUp n).time = s.time ∧ (s.catchUp n).store = s.store
      ∧ (s.catchUp n).turn = s.turn ∧ (s.catchUp n).roster = s.roster ∧ (s.catchUp n).frames = s.frames
      ∧ (s.catchUp n).build = s.build ∧ (s.catchUp n).port = s.port ∧ (s.catchUp n).freeIndex = s.freeIndex
      ∧ (s.catchUp n).pending = s.pending := by
  unfold State.catchUp; (repeat' split) <;> simp

@[simp] theorem State.matchTake_frame (n : Nat) (x : Time) (s : State) :
    (s.matchTake n x).pins = s.pins ∧ (s.matchTake n x).start = s.start ∧ (s.matchTake n x).config = s.config
      ∧ (s.matchTake n x).trig = s.trig ∧ (s.matchTake n x).turn = s.turn ∧ (s.matchTake n x).roster = s.roster
      ∧ (s.matchTake n x).build = s.build ∧ (s.matchTake n x).port = s.port
      ∧ (s.matchTake n x).freeIndex = s.freeIndex ∧ (s.matchTake n x).pending = s.pending := by
  unfold State.matchTake; (repeat' split) <;> simp

@[simp] theorem State.fillTake_frame (n : Nat) (x : Time) (s : State) :
    (s.fillTake n x).pins = s.pins ∧ (s.fillTake n x).start = s.start ∧ (s.fillTake n x).config = s.config
      ∧ (s.fillTake n x).trig = s.trig ∧ (s.fillTake n x).time = s.time ∧ (s.fillTake n x).store = s.store
      ∧ (s.fillTake n x).turn = s.turn ∧ (s.fillTake n x).roster = s.roster
      ∧ (s.fillTake n x).frames = s.frames ∧ (s.fillTake n x).port = s.port ∧ (s.fillTake n x).insp = s.insp
      ∧ (s.fillTake n x).freeIndex = s.freeIndex ∧ (s.fillTake n x).pending = s.pending := by
  unfold State.fillTake; (repeat' split) <;> simp

@[simp] theorem State.appendTake_frame (n : Nat) (x : Time) (s : State) :
    (s.appendTake n x).pins = s.pins ∧ (s.appendTake n x).start = s.start
      ∧ (s.appendTake n x).config = s.config ∧ (s.appendTake n x).trig = s.trig
      ∧ (s.appendTake n x).time = s.time ∧ (s.appendTake n x).store = s.store
      ∧ (s.appendTake n x).turn = s.turn ∧ (s.appendTake n x).roster = s.roster
      ∧ (s.appendTake n x).frames = s.frames ∧ (s.appendTake n x).port = s.port
      ∧ (s.appendTake n x).insp = s.insp ∧ (s.appendTake n x).freeIndex = s.freeIndex
      ∧ (s.appendTake n x).pending = s.pending := by
  simp [State.appendTake]

@[simp] theorem State.handleTake_frame (n : Nat) (x : Time) (s : State) :
    (s.handleTake n x).pins = s.pins ∧ (s.handleTake n x).start = s.start
      ∧ (s.handleTake n x).config = s.config ∧ (s.handleTake n x).trig = s.trig
      ∧ (s.handleTake n x).turn = s.turn ∧ (s.handleTake n x).roster = s.roster
      ∧ (s.handleTake n x).port = s.port ∧ (s.handleTake n x).freeIndex = s.freeIndex
      ∧ (s.handleTake n x).pending = s.pending := by
  unfold State.handleTake; (repeat' split) <;> simp

@[simp] theorem State.impliedTake_frame (n : Nat) (s : State) :
    (s.impliedTake n).pins = s.pins ∧ (s.impliedTake n).start = s.start ∧ (s.impliedTake n).config = s.config
      ∧ (s.impliedTake n).trig = s.trig ∧ (s.impliedTake n).time = s.time ∧ (s.impliedTake n).store = s.store
      ∧ (s.impliedTake n).turn = s.turn ∧ (s.impliedTake n).roster = s.roster
      ∧ (s.impliedTake n).frames = s.frames ∧ (s.impliedTake n).build = s.build
      ∧ (s.impliedTake n).port = s.port ∧ (s.impliedTake n).freeIndex = s.freeIndex
      ∧ (s.impliedTake n).pending = s.pending := by
  unfold State.impliedTake; (repeat' split) <;> simp

@[simp] theorem State.raiseHighTake_frame (n : Nat) (s : State) :
    (s.raiseHighTake n).pins = s.pins ∧ (s.raiseHighTake n).start = s.start
      ∧ (s.raiseHighTake n).config = s.config ∧ (s.raiseHighTake n).trig = s.trig
      ∧ (s.raiseHighTake n).time = s.time ∧ (s.raiseHighTake n).store = s.store
      ∧ (s.raiseHighTake n).turn = s.turn ∧ (s.raiseHighTake n).roster = s.roster
      ∧ (s.raiseHighTake n).frames = s.frames ∧ (s.raiseHighTake n).build = s.build
      ∧ (s.raiseHighTake n).port = s.port ∧ (s.raiseHighTake n).insp = s.insp
      ∧ (s.raiseHighTake n).freeIndex = s.freeIndex ∧ (s.raiseHighTake n).pending = s.pending := by
  unfold State.raiseHighTake; (repeat' split) <;> simp

/-! ## Changes of the station's state (Machine/Changes.lean) -/

@[simp] theorem State.enterMute_frame (s : State) :
    (s.enterMute).pins = s.pins ∧ (s.enterMute).config = s.config ∧ (s.enterMute).time = s.time
      ∧ (s.enterMute).roster = s.roster ∧ (s.enterMute).build = s.build ∧ (s.enterMute).port = s.port
      ∧ (s.enterMute).insp = s.insp ∧ (s.enterMute).freeIndex = s.freeIndex ∧ (s.enterMute).pending = s.pending := by
  simp [State.enterMute]

@[simp] theorem State.takeMuteAttr_frame (s : State) :
    (s.takeMuteAttr).pins = s.pins ∧ (s.takeMuteAttr).config = s.config ∧ (s.takeMuteAttr).trig = s.trig
      ∧ (s.takeMuteAttr).time = s.time ∧ (s.takeMuteAttr).store = s.store ∧ (s.takeMuteAttr).agree = s.agree
      ∧ (s.takeMuteAttr).turn = s.turn ∧ (s.takeMuteAttr).roster = s.roster ∧ (s.takeMuteAttr).build = s.build
      ∧ (s.takeMuteAttr).port = s.port ∧ (s.takeMuteAttr).insp = s.insp
      ∧ (s.takeMuteAttr).freeIndex = s.freeIndex ∧ (s.takeMuteAttr).pending = s.pending := by
  simp [State.takeMuteAttr]

@[simp] theorem State.giveUpSending_frame (s : State) :
    (s.giveUpSending).pins = s.pins ∧ (s.giveUpSending).config = s.config ∧ (s.giveUpSending).time = s.time
      ∧ (s.giveUpSending).roster = s.roster ∧ (s.giveUpSending).build = s.build
      ∧ (s.giveUpSending).port = s.port ∧ (s.giveUpSending).insp = s.insp
      ∧ (s.giveUpSending).freeIndex = s.freeIndex ∧ (s.giveUpSending).pending = s.pending := by
  unfold State.giveUpSending; (repeat' split) <;> simp

@[simp] theorem State.enterSilenced_frame (s : State) :
    (s.enterSilenced).pins = s.pins ∧ (s.enterSilenced).config = s.config ∧ (s.enterSilenced).trig = s.trig
      ∧ (s.enterSilenced).time = s.time ∧ (s.enterSilenced).agree = s.agree
      ∧ (s.enterSilenced).roster = s.roster ∧ (s.enterSilenced).build = s.build
      ∧ (s.enterSilenced).port = s.port ∧ (s.enterSilenced).insp = s.insp
      ∧ (s.enterSilenced).freeIndex = s.freeIndex ∧ (s.enterSilenced).pending = s.pending := by
  simp [State.enterSilenced]

@[simp] theorem State.enterRollcall_frame (s : State) :
    (s.enterRollcall).pins = s.pins ∧ (s.enterRollcall).config = s.config ∧ (s.enterRollcall).trig = s.trig
      ∧ (s.enterRollcall).port = s.port ∧ (s.enterRollcall).insp = s.insp
      ∧ (s.enterRollcall).freeIndex = s.freeIndex ∧ (s.enterRollcall).pending = s.pending := by
  simp [State.enterRollcall]

@[simp] theorem State.enterJoining_frame (s : State) :
    (s.enterJoining).pins = s.pins ∧ (s.enterJoining).config = s.config ∧ (s.enterJoining).trig = s.trig
      ∧ (s.enterJoining).time = s.time ∧ (s.enterJoining).turn = s.turn ∧ (s.enterJoining).port = s.port
      ∧ (s.enterJoining).insp = s.insp ∧ (s.enterJoining).freeIndex = s.freeIndex
      ∧ (s.enterJoining).pending = s.pending := by
  simp [State.enterJoining]

@[simp] theorem State.epoch_frame (s : State) :
    (s.epoch).pins = s.pins ∧ (s.epoch).config = s.config ∧ (s.epoch).trig = s.trig ∧ (s.epoch).insp = s.insp
      ∧ (s.epoch).freeIndex = s.freeIndex ∧ (s.epoch).pending = s.pending := by
  simp [State.epoch]

/-! ## Capture, triggers and start-up (Machine/Capture.lean, Triggers.lean, StartUp.lean) -/

@[simp] theorem State.filterSample_frame (x : Sample) (s : State) :
    (s.filterSample x).pins = s.pins ∧ (s.filterSample x).start = s.start
      ∧ (s.filterSample x).config = s.config ∧ (s.filterSample x).trig = s.trig
      ∧ (s.filterSample x).time = s.time ∧ (s.filterSample x).agree = s.agree
      ∧ (s.filterSample x).turn = s.turn ∧ (s.filterSample x).roster = s.roster
      ∧ (s.filterSample x).frames = s.frames ∧ (s.filterSample x).build = s.build
      ∧ (s.filterSample x).port = s.port ∧ (s.filterSample x).freeIndex = s.freeIndex
      ∧ (s.filterSample x).pending = s.pending := by
  unfold State.filterSample; (repeat' split) <;> simp

@[simp] theorem State.expireWindow_frame (s : State) :
    (s.expireWindow).pins = s.pins ∧ (s.expireWindow).start = s.start ∧ (s.expireWindow).config = s.config
      ∧ (s.expireWindow).trig = s.trig ∧ (s.expireWindow).time = s.time ∧ (s.expireWindow).agree = s.agree
      ∧ (s.expireWindow).turn = s.turn ∧ (s.expireWindow).roster = s.roster ∧ (s.expireWindow).build = s.build
      ∧ (s.expireWindow).port = s.port ∧ (s.expireWindow).insp = s.insp
      ∧ (s.expireWindow).freeIndex = s.freeIndex ∧ (s.expireWindow).pending = s.pending := by
  unfold State.expireWindow; (repeat' split) <;> simp

@[simp] theorem State.decideEdge_frame (b : Bool) (s : State) :
    (s.decideEdge b).pins = s.pins ∧ (s.decideEdge b).start = s.start ∧ (s.decideEdge b).config = s.config
      ∧ (s.decideEdge b).trig = s.trig ∧ (s.decideEdge b).time = s.time ∧ (s.decideEdge b).turn = s.turn
      ∧ (s.decideEdge b).roster = s.roster ∧ (s.decideEdge b).build = s.build ∧ (s.decideEdge b).port = s.port
      ∧ (s.decideEdge b).freeIndex = s.freeIndex ∧ (s.decideEdge b).pending = s.pending := by
  unfold State.decideEdge; (repeat' split) <;> simp

@[simp] theorem State.takeEdge_frame (b : Bool) (s : State) :
    (s.takeEdge b).pins = s.pins ∧ (s.takeEdge b).start = s.start ∧ (s.takeEdge b).config = s.config
      ∧ (s.takeEdge b).time = s.time ∧ (s.takeEdge b).turn = s.turn ∧ (s.takeEdge b).roster = s.roster
      ∧ (s.takeEdge b).build = s.build ∧ (s.takeEdge b).port = s.port ∧ (s.takeEdge b).freeIndex = s.freeIndex
      ∧ (s.takeEdge b).pending = s.pending := by
  simp [State.takeEdge]

@[simp] theorem State.requestTrigger_frame (b : Bool) (s : State) :
    (s.requestTrigger b).pins = s.pins ∧ (s.requestTrigger b).start = s.start
      ∧ (s.requestTrigger b).config = s.config ∧ (s.requestTrigger b).time = s.time
      ∧ (s.requestTrigger b).store = s.store ∧ (s.requestTrigger b).agree = s.agree
      ∧ (s.requestTrigger b).turn = s.turn ∧ (s.requestTrigger b).roster = s.roster
      ∧ (s.requestTrigger b).frames = s.frames ∧ (s.requestTrigger b).build = s.build
      ∧ (s.requestTrigger b).port = s.port ∧ (s.requestTrigger b).freeIndex = s.freeIndex
      ∧ (s.requestTrigger b).pending = s.pending := by
  unfold State.requestTrigger; (repeat' split) <;> simp

@[simp] theorem State.restartTrunk_frame (s : State) :
    (s.restartTrunk).pins = s.pins ∧ (s.restartTrunk).start = s.start ∧ (s.restartTrunk).config = s.config
      ∧ (s.restartTrunk).time = s.time ∧ (s.restartTrunk).store = s.store ∧ (s.restartTrunk).agree = s.agree
      ∧ (s.restartTrunk).turn = s.turn ∧ (s.restartTrunk).roster = s.roster
      ∧ (s.restartTrunk).frames = s.frames ∧ (s.restartTrunk).build = s.build ∧ (s.restartTrunk).port = s.port
      ∧ (s.restartTrunk).insp = s.insp ∧ (s.restartTrunk).freeIndex = s.freeIndex
      ∧ (s.restartTrunk).pending = s.pending := by
  unfold State.restartTrunk; (repeat' split) <;> simp

@[simp] theorem State.abortRecord_frame (s : State) :
    (s.abortRecord).pins = s.pins ∧ (s.abortRecord).start = s.start ∧ (s.abortRecord).config = s.config
      ∧ (s.abortRecord).trig = s.trig ∧ (s.abortRecord).time = s.time ∧ (s.abortRecord).store = s.store
      ∧ (s.abortRecord).agree = s.agree ∧ (s.abortRecord).turn = s.turn ∧ (s.abortRecord).roster = s.roster
      ∧ (s.abortRecord).frames = s.frames ∧ (s.abortRecord).build = s.build ∧ (s.abortRecord).insp = s.insp
      ∧ (s.abortRecord).freeIndex = s.freeIndex ∧ (s.abortRecord).pending = s.pending := by
  unfold State.abortRecord; (repeat' split) <;> simp

@[simp] theorem State.detectRestart_frame (s : State) :
    (s.detectRestart).pins = s.pins ∧ (s.detectRestart).config = s.config ∧ (s.detectRestart).insp = s.insp
      ∧ (s.detectRestart).freeIndex = s.freeIndex ∧ (s.detectRestart).pending = s.pending := by
  simp [State.detectRestart]

@[simp] theorem State.endRestart_frame (s : State) :
    (s.endRestart).pins = s.pins ∧ (s.endRestart).config = s.config ∧ (s.endRestart).trig = s.trig
      ∧ (s.endRestart).port = s.port ∧ (s.endRestart).insp = s.insp ∧ (s.endRestart).freeIndex = s.freeIndex
      ∧ (s.endRestart).pending = s.pending := by
  unfold State.endRestart; (repeat' split) <;> simp

@[simp] theorem State.releaseTrg_frame (s : State) :
    (s.releaseTrg).pins = s.pins ∧ (s.releaseTrg).config = s.config ∧ (s.releaseTrg).port = s.port
      ∧ (s.releaseTrg).insp = s.insp ∧ (s.releaseTrg).freeIndex = s.freeIndex ∧ (s.releaseTrg).pending = s.pending := by
  unfold State.releaseTrg; (repeat' split) <;> simp

@[simp] theorem State.checkLine_frame (i : List Byte) (n : Nat) (s : State) :
    (s.checkLine i n).pins = s.pins ∧ (s.checkLine i n).start = s.start ∧ (s.checkLine i n).config = s.config
      ∧ (s.checkLine i n).trig = s.trig ∧ (s.checkLine i n).time = s.time ∧ (s.checkLine i n).store = s.store
      ∧ (s.checkLine i n).agree = s.agree ∧ (s.checkLine i n).turn = s.turn
      ∧ (s.checkLine i n).roster = s.roster ∧ (s.checkLine i n).frames = s.frames
      ∧ (s.checkLine i n).build = s.build ∧ (s.checkLine i n).port = s.port
      ∧ (s.checkLine i n).freeIndex = s.freeIndex ∧ (s.checkLine i n).pending = s.pending := by
  unfold State.checkLine; (repeat' split) <;> simp

@[simp] theorem State.leaveLoading_frame (s : State) :
    (s.leaveLoading).pins = s.pins ∧ (s.leaveLoading).config = s.config ∧ (s.leaveLoading).trig = s.trig
      ∧ (s.leaveLoading).time = s.time ∧ (s.leaveLoading).store = s.store ∧ (s.leaveLoading).agree = s.agree
      ∧ (s.leaveLoading).turn = s.turn ∧ (s.leaveLoading).roster = s.roster
      ∧ (s.leaveLoading).frames = s.frames ∧ (s.leaveLoading).build = s.build ∧ (s.leaveLoading).port = s.port
      ∧ (s.leaveLoading).insp = s.insp ∧ (s.leaveLoading).freeIndex = s.freeIndex
      ∧ (s.leaveLoading).pending = s.pending := by
  unfold State.leaveLoading; (repeat' split) <;> simp

@[simp] theorem State.loadGood_frame (i : List Byte) (b : Bool) (s : State) :
    (s.loadGood i b).pins = s.pins ∧ (s.loadGood i b).time = s.time ∧ (s.loadGood i b).store = s.store
      ∧ (s.loadGood i b).agree = s.agree ∧ (s.loadGood i b).turn = s.turn ∧ (s.loadGood i b).roster = s.roster
      ∧ (s.loadGood i b).build = s.build ∧ (s.loadGood i b).port = s.port
      ∧ (s.loadGood i b).freeIndex = s.freeIndex ∧ (s.loadGood i b).pending = s.pending := by
  unfold State.loadGood; (repeat' split) <;> simp

@[simp] theorem State.halt_frame (s : State) :
    (s.halt).pins = s.pins ∧ (s.halt).config = s.config ∧ (s.halt).trig = s.trig ∧ (s.halt).time = s.time
      ∧ (s.halt).store = s.store ∧ (s.halt).agree = s.agree ∧ (s.halt).turn = s.turn
      ∧ (s.halt).roster = s.roster ∧ (s.halt).frames = s.frames ∧ (s.halt).build = s.build
      ∧ (s.halt).port = s.port ∧ (s.halt).freeIndex = s.freeIndex ∧ (s.halt).pending = s.pending := by
  simp [State.halt]

@[simp] theorem State.completeRead_frame (i : List Byte) (b : Bool) (s : State) :
    (s.completeRead i b).pins = s.pins ∧ (s.completeRead i b).time = s.time
      ∧ (s.completeRead i b).store = s.store ∧ (s.completeRead i b).agree = s.agree
      ∧ (s.completeRead i b).turn = s.turn ∧ (s.completeRead i b).roster = s.roster
      ∧ (s.completeRead i b).build = s.build ∧ (s.completeRead i b).port = s.port
      ∧ (s.completeRead i b).freeIndex = s.freeIndex ∧ (s.completeRead i b).pending = s.pending := by
  unfold State.completeRead; (repeat' split) <;> simp

@[simp] theorem State.meetRoll_frame (b : Bool) (s : State) :
    (s.meetRoll b).pins = s.pins ∧ (s.meetRoll b).config = s.config ∧ (s.meetRoll b).trig = s.trig
      ∧ (s.meetRoll b).insp = s.insp ∧ (s.meetRoll b).freeIndex = s.freeIndex ∧ (s.meetRoll b).pending = s.pending := by
  unfold State.meetRoll; (repeat' split) <;> simp

/-! ## Members (Machine/Members.lean) -/

@[simp] theorem State.learn_frame (m : Addr) (n : Nat) (s : State) :
    (s.learn m n).pins = s.pins ∧ (s.learn m n).start = s.start ∧ (s.learn m n).config = s.config
      ∧ (s.learn m n).trig = s.trig ∧ (s.learn m n).time = s.time ∧ (s.learn m n).store = s.store
      ∧ (s.learn m n).agree = s.agree ∧ (s.learn m n).turn = s.turn ∧ (s.learn m n).frames = s.frames
      ∧ (s.learn m n).build = s.build ∧ (s.learn m n).port = s.port ∧ (s.learn m n).insp = s.insp
      ∧ (s.learn m n).freeIndex = s.freeIndex ∧ (s.learn m n).pending = s.pending := by
  unfold State.learn; dsimp only; (repeat' split) <;> simp

@[simp] theorem State.hearEvent_frame (n : Nat) (s : State) :
    (s.hearEvent n).pins = s.pins ∧ (s.hearEvent n).start = s.start ∧ (s.hearEvent n).config = s.config
      ∧ (s.hearEvent n).trig = s.trig ∧ (s.hearEvent n).time = s.time ∧ (s.hearEvent n).store = s.store
      ∧ (s.hearEvent n).turn = s.turn ∧ (s.hearEvent n).roster = s.roster ∧ (s.hearEvent n).frames = s.frames
      ∧ (s.hearEvent n).build = s.build ∧ (s.hearEvent n).port = s.port
      ∧ (s.hearEvent n).freeIndex = s.freeIndex ∧ (s.hearEvent n).pending = s.pending := by
  simp [State.hearEvent]

@[simp] theorem State.hearMember_frame (m : Addr) (n : Nat) (s : State) :
    (s.hearMember m n).pins = s.pins ∧ (s.hearMember m n).start = s.start
      ∧ (s.hearMember m n).config = s.config ∧ (s.hearMember m n).trig = s.trig
      ∧ (s.hearMember m n).time = s.time ∧ (s.hearMember m n).store = s.store
      ∧ (s.hearMember m n).build = s.build ∧ (s.hearMember m n).port = s.port
      ∧ (s.hearMember m n).insp = s.insp ∧ (s.hearMember m n).freeIndex = s.freeIndex
      ∧ (s.hearMember m n).pending = s.pending := by
  simp [State.hearMember]

@[simp] theorem State.finishPart_frame (m : Addr) (n : Nat) (s : State) :
    (s.finishPart m n).pins = s.pins ∧ (s.finishPart m n).start = s.start
      ∧ (s.finishPart m n).config = s.config ∧ (s.finishPart m n).trig = s.trig
      ∧ (s.finishPart m n).time = s.time ∧ (s.finishPart m n).store = s.store
      ∧ (s.finishPart m n).agree = s.agree ∧ (s.finishPart m n).turn = s.turn
      ∧ (s.finishPart m n).frames = s.frames ∧ (s.finishPart m n).build = s.build
      ∧ (s.finishPart m n).port = s.port ∧ (s.finishPart m n).insp = s.insp
      ∧ (s.finishPart m n).freeIndex = s.freeIndex ∧ (s.finishPart m n).pending = s.pending := by
  simp [State.finishPart]

@[simp] theorem State.countPart_frame (m : Addr) (n : Nat) (s : State) :
    (s.countPart m n).pins = s.pins ∧ (s.countPart m n).start = s.start ∧ (s.countPart m n).config = s.config
      ∧ (s.countPart m n).trig = s.trig ∧ (s.countPart m n).time = s.time ∧ (s.countPart m n).store = s.store
      ∧ (s.countPart m n).agree = s.agree ∧ (s.countPart m n).roster = s.roster
      ∧ (s.countPart m n).build = s.build ∧ (s.countPart m n).port = s.port ∧ (s.countPart m n).insp = s.insp
      ∧ (s.countPart m n).freeIndex = s.freeIndex ∧ (s.countPart m n).pending = s.pending := by
  unfold State.countPart; (repeat' split) <;> simp

@[simp] theorem State.storePart_frame (f : FragFrame) (s : State) :
    (s.storePart f).pins = s.pins ∧ (s.storePart f).start = s.start ∧ (s.storePart f).config = s.config
      ∧ (s.storePart f).trig = s.trig ∧ (s.storePart f).time = s.time ∧ (s.storePart f).agree = s.agree
      ∧ (s.storePart f).turn = s.turn ∧ (s.storePart f).roster = s.roster ∧ (s.storePart f).frames = s.frames
      ∧ (s.storePart f).build = s.build ∧ (s.storePart f).port = s.port ∧ (s.storePart f).insp = s.insp
      ∧ (s.storePart f).freeIndex = s.freeIndex ∧ (s.storePart f).pending = s.pending := by
  unfold State.storePart; dsimp only; (repeat' split) <;> simp

@[simp] theorem State.dropRecord_frame (n : Nat) (s : State) :
    (s.dropRecord n).pins = s.pins ∧ (s.dropRecord n).start = s.start ∧ (s.dropRecord n).config = s.config
      ∧ (s.dropRecord n).trig = s.trig ∧ (s.dropRecord n).time = s.time ∧ (s.dropRecord n).agree = s.agree
      ∧ (s.dropRecord n).turn = s.turn ∧ (s.dropRecord n).roster = s.roster
      ∧ (s.dropRecord n).frames = s.frames ∧ (s.dropRecord n).build = s.build ∧ (s.dropRecord n).port = s.port
      ∧ (s.dropRecord n).freeIndex = s.freeIndex ∧ (s.dropRecord n).pending = s.pending := by
  unfold State.dropRecord; (repeat' split) <;> simp

@[simp] theorem State.missTurn_frame (m : Addr) (n : Nat) (s : State) :
    (s.missTurn m n).pins = s.pins ∧ (s.missTurn m n).start = s.start ∧ (s.missTurn m n).config = s.config
      ∧ (s.missTurn m n).trig = s.trig ∧ (s.missTurn m n).time = s.time ∧ (s.missTurn m n).store = s.store
      ∧ (s.missTurn m n).agree = s.agree ∧ (s.missTurn m n).turn = s.turn ∧ (s.missTurn m n).frames = s.frames
      ∧ (s.missTurn m n).build = s.build ∧ (s.missTurn m n).port = s.port ∧ (s.missTurn m n).insp = s.insp
      ∧ (s.missTurn m n).freeIndex = s.freeIndex ∧ (s.missTurn m n).pending = s.pending := by
  simp [State.missTurn]

@[simp] theorem State.withdrawSkipFor_frame (m : Addr) (s : State) :
    (s.withdrawSkipFor m).pins = s.pins ∧ (s.withdrawSkipFor m).start = s.start
      ∧ (s.withdrawSkipFor m).config = s.config ∧ (s.withdrawSkipFor m).trig = s.trig
      ∧ (s.withdrawSkipFor m).time = s.time ∧ (s.withdrawSkipFor m).store = s.store
      ∧ (s.withdrawSkipFor m).agree = s.agree ∧ (s.withdrawSkipFor m).roster = s.roster
      ∧ (s.withdrawSkipFor m).build = s.build ∧ (s.withdrawSkipFor m).port = s.port
      ∧ (s.withdrawSkipFor m).insp = s.insp ∧ (s.withdrawSkipFor m).freeIndex = s.freeIndex
      ∧ (s.withdrawSkipFor m).pending = s.pending := by
  unfold State.withdrawSkipFor; (repeat' split) <;> simp

@[simp] theorem State.ownSilence_frame (n : Nat) (s : State) :
    (s.ownSilence n).pins = s.pins ∧ (s.ownSilence n).config = s.config ∧ (s.ownSilence n).trig = s.trig
      ∧ (s.ownSilence n).time = s.time ∧ (s.ownSilence n).agree = s.agree ∧ (s.ownSilence n).roster = s.roster
      ∧ (s.ownSilence n).build = s.build ∧ (s.ownSilence n).port = s.port
      ∧ (s.ownSilence n).freeIndex = s.freeIndex ∧ (s.ownSilence n).pending = s.pending := by
  unfold State.ownSilence; dsimp only; (repeat' split) <;> simp

@[simp] theorem State.skipTurn_frame (m : Addr) (n : Nat) (s : State) :
    (s.skipTurn m n).pins = s.pins ∧ (s.skipTurn m n).config = s.config ∧ (s.skipTurn m n).trig = s.trig
      ∧ (s.skipTurn m n).time = s.time ∧ (s.skipTurn m n).agree = s.agree ∧ (s.skipTurn m n).build = s.build
      ∧ (s.skipTurn m n).port = s.port ∧ (s.skipTurn m n).freeIndex = s.freeIndex
      ∧ (s.skipTurn m n).pending = s.pending := by
  unfold State.skipTurn; dsimp only; (repeat' split) <;> simp

@[simp] theorem State.ownSkip_frame (s : State) :
    (s.ownSkip).pins = s.pins ∧ (s.ownSkip).start = s.start ∧ (s.ownSkip).config = s.config
      ∧ (s.ownSkip).trig = s.trig ∧ (s.ownSkip).time = s.time ∧ (s.ownSkip).store = s.store
      ∧ (s.ownSkip).agree = s.agree ∧ (s.ownSkip).roster = s.roster ∧ (s.ownSkip).frames = s.frames
      ∧ (s.ownSkip).build = s.build ∧ (s.ownSkip).port = s.port ∧ (s.ownSkip).freeIndex = s.freeIndex
      ∧ (s.ownSkip).pending = s.pending := by
  unfold State.ownSkip; (repeat' split) <;> simp

@[simp] theorem State.modifyEntry_frame (a : Addr) (f : RosterEntry → RosterEntry) (s : State) :
    (s.modifyEntry a f).pins = s.pins ∧ (s.modifyEntry a f).start = s.start
      ∧ (s.modifyEntry a f).config = s.config ∧ (s.modifyEntry a f).trig = s.trig
      ∧ (s.modifyEntry a f).time = s.time ∧ (s.modifyEntry a f).store = s.store
      ∧ (s.modifyEntry a f).agree = s.agree ∧ (s.modifyEntry a f).turn = s.turn
      ∧ (s.modifyEntry a f).frames = s.frames ∧ (s.modifyEntry a f).build = s.build
      ∧ (s.modifyEntry a f).port = s.port ∧ (s.modifyEntry a f).insp = s.insp
      ∧ (s.modifyEntry a f).freeIndex = s.freeIndex ∧ (s.modifyEntry a f).pending = s.pending := by
  simp [State.modifyEntry]

@[simp] theorem State.hearRoll_frame (a : Addr) (f : RosterEntry → RosterEntry) (s : State) :
    (s.hearRoll a f).pins = s.pins ∧ (s.hearRoll a f).start = s.start ∧ (s.hearRoll a f).config = s.config
      ∧ (s.hearRoll a f).trig = s.trig ∧ (s.hearRoll a f).time = s.time ∧ (s.hearRoll a f).store = s.store
      ∧ (s.hearRoll a f).agree = s.agree ∧ (s.hearRoll a f).turn = s.turn ∧ (s.hearRoll a f).frames = s.frames
      ∧ (s.hearRoll a f).build = s.build ∧ (s.hearRoll a f).port = s.port ∧ (s.hearRoll a f).insp = s.insp
      ∧ (s.hearRoll a f).freeIndex = s.freeIndex ∧ (s.hearRoll a f).pending = s.pending := by
  unfold State.hearRoll; (repeat' split) <;> simp

@[simp] theorem State.mismatch_frame (f : RollFrame) (s : State) :
    (s.mismatch f).pins = s.pins ∧ (s.mismatch f).start = s.start ∧ (s.mismatch f).config = s.config
      ∧ (s.mismatch f).trig = s.trig ∧ (s.mismatch f).time = s.time ∧ (s.mismatch f).store = s.store
      ∧ (s.mismatch f).agree = s.agree ∧ (s.mismatch f).turn = s.turn ∧ (s.mismatch f).frames = s.frames
      ∧ (s.mismatch f).build = s.build ∧ (s.mismatch f).port = s.port ∧ (s.mismatch f).freeIndex = s.freeIndex
      ∧ (s.mismatch f).pending = s.pending := by
  unfold State.mismatch; dsimp only; (repeat' split) <;> simp

@[simp] theorem State.offerEcho_frame (s : State) :
    (s.offerEcho).pins = s.pins ∧ (s.offerEcho).start = s.start ∧ (s.offerEcho).config = s.config
      ∧ (s.offerEcho).trig = s.trig ∧ (s.offerEcho).time = s.time ∧ (s.offerEcho).store = s.store
      ∧ (s.offerEcho).agree = s.agree ∧ (s.offerEcho).turn = s.turn ∧ (s.offerEcho).roster = s.roster
      ∧ (s.offerEcho).build = s.build ∧ (s.offerEcho).port = s.port ∧ (s.offerEcho).insp = s.insp
      ∧ (s.offerEcho).freeIndex = s.freeIndex ∧ (s.offerEcho).pending = s.pending := by
  unfold State.offerEcho; (repeat' split) <;> simp

@[simp] theorem State.joinEvn_frame (x : BitVec 32) (s : State) :
    (s.joinEvn x).pins = s.pins ∧ (s.joinEvn x).start = s.start ∧ (s.joinEvn x).config = s.config
      ∧ (s.joinEvn x).trig = s.trig ∧ (s.joinEvn x).time = s.time ∧ (s.joinEvn x).store = s.store
      ∧ (s.joinEvn x).turn = s.turn ∧ (s.joinEvn x).roster = s.roster ∧ (s.joinEvn x).frames = s.frames
      ∧ (s.joinEvn x).build = s.build ∧ (s.joinEvn x).port = s.port ∧ (s.joinEvn x).freeIndex = s.freeIndex
      ∧ (s.joinEvn x).pending = s.pending := by
  unfold State.joinEvn; (repeat' split) <;> simp

@[simp] theorem State.ownJoin_frame (f : RollFrame) (s : State) :
    (s.ownJoin f).pins = s.pins ∧ (s.ownJoin f).config = s.config ∧ (s.ownJoin f).trig = s.trig
      ∧ (s.ownJoin f).time = s.time ∧ (s.ownJoin f).store = s.store ∧ (s.ownJoin f).turn = s.turn
      ∧ (s.ownJoin f).frames = s.frames ∧ (s.ownJoin f).build = s.build ∧ (s.ownJoin f).port = s.port
      ∧ (s.ownJoin f).freeIndex = s.freeIndex ∧ (s.ownJoin f).pending = s.pending := by
  unfold State.ownJoin; (repeat' split) <;> simp

@[simp] theorem State.otherRoll_frame (f : RollFrame) (s : State) :
    (s.otherRoll f).pins = s.pins ∧ (s.otherRoll f).start = s.start ∧ (s.otherRoll f).config = s.config
      ∧ (s.otherRoll f).trig = s.trig ∧ (s.otherRoll f).time = s.time ∧ (s.otherRoll f).store = s.store
      ∧ (s.otherRoll f).turn = s.turn ∧ (s.otherRoll f).build = s.build ∧ (s.otherRoll f).port = s.port
      ∧ (s.otherRoll f).freeIndex = s.freeIndex ∧ (s.otherRoll f).pending = s.pending := by
  unfold State.otherRoll; (repeat' split) <;> simp

@[simp] theorem State.ownRoll_frame (f : RollFrame) (s : State) :
    (s.ownRoll f).pins = s.pins ∧ (s.ownRoll f).config = s.config ∧ (s.ownRoll f).trig = s.trig
      ∧ (s.ownRoll f).time = s.time ∧ (s.ownRoll f).store = s.store ∧ (s.ownRoll f).turn = s.turn
      ∧ (s.ownRoll f).frames = s.frames ∧ (s.ownRoll f).build = s.build ∧ (s.ownRoll f).port = s.port
      ∧ (s.ownRoll f).freeIndex = s.freeIndex ∧ (s.ownRoll f).pending = s.pending := by
  unfold State.ownRoll; (repeat' split) <;> simp

@[simp] theorem State.ownCall_frame (f : RollFrame) (s : State) :
    (s.ownCall f).pins = s.pins ∧ (s.ownCall f).config = s.config ∧ (s.ownCall f).trig = s.trig
      ∧ (s.ownCall f).time = s.time ∧ (s.ownCall f).store = s.store ∧ (s.ownCall f).agree = s.agree
      ∧ (s.ownCall f).turn = s.turn ∧ (s.ownCall f).frames = s.frames ∧ (s.ownCall f).build = s.build
      ∧ (s.ownCall f).port = s.port ∧ (s.ownCall f).insp = s.insp ∧ (s.ownCall f).freeIndex = s.freeIndex
      ∧ (s.ownCall f).pending = s.pending := by
  simp [State.ownCall]

@[simp] theorem State.rollcallRoll_frame (own : Bool) (f : RollFrame) (s : State) :
    (s.rollcallRoll own f).pins = s.pins ∧ (s.rollcallRoll own f).config = s.config
      ∧ (s.rollcallRoll own f).trig = s.trig ∧ (s.rollcallRoll own f).time = s.time
      ∧ (s.rollcallRoll own f).turn = s.turn ∧ (s.rollcallRoll own f).port = s.port
      ∧ (s.rollcallRoll own f).freeIndex = s.freeIndex ∧ (s.rollcallRoll own f).pending = s.pending := by
  unfold State.rollcallRoll; dsimp only; (repeat' split) <;> simp

@[simp] theorem State.handleRoll_frame (own : Bool) (f : RollFrame) (s : State) :
    (s.handleRoll own f).pins = s.pins ∧ (s.handleRoll own f).config = s.config
      ∧ (s.handleRoll own f).trig = s.trig ∧ (s.handleRoll own f).time = s.time
      ∧ (s.handleRoll own f).turn = s.turn ∧ (s.handleRoll own f).port = s.port
      ∧ (s.handleRoll own f).freeIndex = s.freeIndex ∧ (s.handleRoll own f).pending = s.pending := by
  unfold State.handleRoll; (repeat' split) <;> simp

/-! ## DAT (Machine/Reception.lean) -/

@[simp] theorem State.idleDat_frame (s : State) :
    (s.idleDat).pins = s.pins ∧ (s.idleDat).start = s.start ∧ (s.idleDat).config = s.config
      ∧ (s.idleDat).trig = s.trig ∧ (s.idleDat).time = s.time ∧ (s.idleDat).store = s.store
      ∧ (s.idleDat).agree = s.agree ∧ (s.idleDat).turn = s.turn ∧ (s.idleDat).roster = s.roster
      ∧ (s.idleDat).build = s.build ∧ (s.idleDat).port = s.port ∧ (s.idleDat).insp = s.insp
      ∧ (s.idleDat).freeIndex = s.freeIndex ∧ (s.idleDat).pending = s.pending := by
  unfold State.idleDat; (repeat' split) <;> simp

@[simp] theorem State.takePart_frame (s : State) :
    (s.takePart).pins = s.pins ∧ (s.takePart).start = s.start ∧ (s.takePart).config = s.config
      ∧ (s.takePart).trig = s.trig ∧ (s.takePart).time = s.time ∧ (s.takePart).store = s.store
      ∧ (s.takePart).agree = s.agree ∧ (s.takePart).turn = s.turn ∧ (s.takePart).roster = s.roster
      ∧ (s.takePart).build = s.build ∧ (s.takePart).port = s.port ∧ (s.takePart).insp = s.insp
      ∧ (s.takePart).freeIndex = s.freeIndex ∧ (s.takePart).pending = s.pending := by
  simp [State.takePart]

@[simp] theorem State.startFrame_frame (s : State) :
    (s.startFrame).pins = s.pins ∧ (s.startFrame).start = s.start ∧ (s.startFrame).config = s.config
      ∧ (s.startFrame).trig = s.trig ∧ (s.startFrame).time = s.time ∧ (s.startFrame).store = s.store
      ∧ (s.startFrame).agree = s.agree ∧ (s.startFrame).turn = s.turn ∧ (s.startFrame).roster = s.roster
      ∧ (s.startFrame).build = s.build ∧ (s.startFrame).port = s.port ∧ (s.startFrame).insp = s.insp
      ∧ (s.startFrame).freeIndex = s.freeIndex ∧ (s.startFrame).pending = s.pending := by
  unfold State.startFrame; (repeat' split) <;> simp

@[simp] theorem State.leaveWire_frame (s : State) :
    (s.leaveWire).pins = s.pins ∧ (s.leaveWire).start = s.start ∧ (s.leaveWire).config = s.config
      ∧ (s.leaveWire).trig = s.trig ∧ (s.leaveWire).time = s.time ∧ (s.leaveWire).store = s.store
      ∧ (s.leaveWire).agree = s.agree ∧ (s.leaveWire).turn = s.turn ∧ (s.leaveWire).roster = s.roster
      ∧ (s.leaveWire).build = s.build ∧ (s.leaveWire).port = s.port ∧ (s.leaveWire).insp = s.insp
      ∧ (s.leaveWire).freeIndex = s.freeIndex ∧ (s.leaveWire).pending = s.pending := by
  simp [State.leaveWire]

@[simp] theorem State.failLimit_frame (f : Frame) (s : State) :
    (s.failLimit f).pins = s.pins ∧ (s.failLimit f).config = s.config ∧ (s.failLimit f).time = s.time
      ∧ (s.failLimit f).roster = s.roster ∧ (s.failLimit f).freeIndex = s.freeIndex
      ∧ (s.failLimit f).pending = s.pending := by
  simp [State.failLimit]

@[simp] theorem State.abandon_frame (f : Frame) (s : State) :
    (s.abandon f).pins = s.pins ∧ (s.abandon f).config = s.config ∧ (s.abandon f).time = s.time
      ∧ (s.abandon f).roster = s.roster ∧ (s.abandon f).freeIndex = s.freeIndex
      ∧ (s.abandon f).pending = s.pending := by
  unfold State.abandon; dsimp only; (repeat' split) <;> simp

@[simp] theorem State.endOther_frame (s : State) :
    (s.endOther).pins = s.pins ∧ (s.endOther).start = s.start ∧ (s.endOther).config = s.config
      ∧ (s.endOther).trig = s.trig ∧ (s.endOther).time = s.time ∧ (s.endOther).store = s.store
      ∧ (s.endOther).agree = s.agree ∧ (s.endOther).turn = s.turn ∧ (s.endOther).roster = s.roster
      ∧ (s.endOther).build = s.build ∧ (s.endOther).port = s.port ∧ (s.endOther).insp = s.insp
      ∧ (s.endOther).freeIndex = s.freeIndex ∧ (s.endOther).pending = s.pending := by
  simp [State.endOther]

@[simp] theorem State.endOwn_frame (s : State) :
    (s.endOwn).pins = s.pins ∧ (s.endOwn).start = s.start ∧ (s.endOwn).config = s.config
      ∧ (s.endOwn).trig = s.trig ∧ (s.endOwn).time = s.time ∧ (s.endOwn).store = s.store
      ∧ (s.endOwn).agree = s.agree ∧ (s.endOwn).turn = s.turn ∧ (s.endOwn).roster = s.roster
      ∧ (s.endOwn).build = s.build ∧ (s.endOwn).port = s.port ∧ (s.endOwn).insp = s.insp
      ∧ (s.endOwn).freeIndex = s.freeIndex ∧ (s.endOwn).pending = s.pending := by
  simp [State.endOwn]

@[simp] theorem State.discardFrame_frame (c : Counter) (s : State) :
    (s.discardFrame c).pins = s.pins ∧ (s.discardFrame c).start = s.start
      ∧ (s.discardFrame c).config = s.config ∧ (s.discardFrame c).trig = s.trig
      ∧ (s.discardFrame c).time = s.time ∧ (s.discardFrame c).store = s.store
      ∧ (s.discardFrame c).agree = s.agree ∧ (s.discardFrame c).turn = s.turn
      ∧ (s.discardFrame c).roster = s.roster ∧ (s.discardFrame c).build = s.build
      ∧ (s.discardFrame c).port = s.port ∧ (s.discardFrame c).freeIndex = s.freeIndex
      ∧ (s.discardFrame c).pending = s.pending := by
  unfold State.discardFrame; (repeat' split) <;> simp

@[simp] theorem State.clashCheck_frame (own : Bool) (f : Frame) (s : State) :
    (s.clashCheck own f).pins = s.pins ∧ (s.clashCheck own f).config = s.config
      ∧ (s.clashCheck own f).time = s.time ∧ (s.clashCheck own f).roster = s.roster
      ∧ (s.clashCheck own f).build = s.build ∧ (s.clashCheck own f).port = s.port
      ∧ (s.clashCheck own f).freeIndex = s.freeIndex ∧ (s.clashCheck own f).pending = s.pending := by
  unfold State.clashCheck; (repeat' split) <;> simp

@[simp] theorem State.leaveListening_frame (f : Frame) (s : State) :
    (s.leaveListening f).pins = s.pins ∧ (s.leaveListening f).config = s.config
      ∧ (s.leaveListening f).trig = s.trig ∧ (s.leaveListening f).port = s.port
      ∧ (s.leaveListening f).insp = s.insp ∧ (s.leaveListening f).freeIndex = s.freeIndex
      ∧ (s.leaveListening f).pending = s.pending := by
  unfold State.leaveListening; (repeat' split) <;> simp

/-! ## The inspection port and the clock (Machine/Window.lean, InspectionPins.lean, Clock.lean) -/

@[simp] theorem State.takeRead_frame (w : Word) (e : Extensions) (s : State) :
    (s.takeRead w e).pins = s.pins ∧ (s.takeRead w e).start = s.start ∧ (s.takeRead w e).config = s.config
      ∧ (s.takeRead w e).trig = s.trig ∧ (s.takeRead w e).time = s.time ∧ (s.takeRead w e).store = s.store
      ∧ (s.takeRead w e).agree = s.agree ∧ (s.takeRead w e).turn = s.turn ∧ (s.takeRead w e).roster = s.roster
      ∧ (s.takeRead w e).frames = s.frames ∧ (s.takeRead w e).build = s.build ∧ (s.takeRead w e).port = s.port
      ∧ (s.takeRead w e).freeIndex = s.freeIndex ∧ (s.takeRead w e).pending = s.pending := by
  simp [State.takeRead]

@[simp] theorem State.readStore_frame (s : State) :
    (s.readStore).pins = s.pins ∧ (s.readStore).start = s.start ∧ (s.readStore).config = s.config
      ∧ (s.readStore).trig = s.trig ∧ (s.readStore).time = s.time ∧ (s.readStore).store = s.store
      ∧ (s.readStore).agree = s.agree ∧ (s.readStore).turn = s.turn ∧ (s.readStore).roster = s.roster
      ∧ (s.readStore).frames = s.frames ∧ (s.readStore).build = s.build ∧ (s.readStore).port = s.port
      ∧ (s.readStore).freeIndex = s.freeIndex ∧ (s.readStore).pending = s.pending := by
  simp [State.readStore]

@[simp] theorem State.readTakes_frame (s : State) :
    (s.readTakes).pins = s.pins ∧ (s.readTakes).start = s.start ∧ (s.readTakes).config = s.config
      ∧ (s.readTakes).trig = s.trig ∧ (s.readTakes).time = s.time ∧ (s.readTakes).store = s.store
      ∧ (s.readTakes).agree = s.agree ∧ (s.readTakes).turn = s.turn ∧ (s.readTakes).roster = s.roster
      ∧ (s.readTakes).frames = s.frames ∧ (s.readTakes).build = s.build ∧ (s.readTakes).port = s.port
      ∧ (s.readTakes).freeIndex = s.freeIndex ∧ (s.readTakes).pending = s.pending := by
  simp [State.readTakes]

@[simp] theorem State.readBuilds_frame (s : State) :
    (s.readBuilds).pins = s.pins ∧ (s.readBuilds).start = s.start ∧ (s.readBuilds).config = s.config
      ∧ (s.readBuilds).trig = s.trig ∧ (s.readBuilds).time = s.time ∧ (s.readBuilds).store = s.store
      ∧ (s.readBuilds).agree = s.agree ∧ (s.readBuilds).turn = s.turn ∧ (s.readBuilds).roster = s.roster
      ∧ (s.readBuilds).frames = s.frames ∧ (s.readBuilds).build = s.build ∧ (s.readBuilds).port = s.port
      ∧ (s.readBuilds).freeIndex = s.freeIndex ∧ (s.readBuilds).pending = s.pending := by
  simp [State.readBuilds]

@[simp] theorem State.readFaults_frame (s : State) :
    (s.readFaults).pins = s.pins ∧ (s.readFaults).start = s.start ∧ (s.readFaults).config = s.config
      ∧ (s.readFaults).trig = s.trig ∧ (s.readFaults).time = s.time ∧ (s.readFaults).store = s.store
      ∧ (s.readFaults).agree = s.agree ∧ (s.readFaults).turn = s.turn ∧ (s.readFaults).roster = s.roster
      ∧ (s.readFaults).frames = s.frames ∧ (s.readFaults).build = s.build ∧ (s.readFaults).port = s.port
      ∧ (s.readFaults).freeIndex = s.freeIndex ∧ (s.readFaults).pending = s.pending := by
  simp [State.readFaults]

@[simp] theorem State.readTimeLo_frame (s : State) :
    (s.readTimeLo).pins = s.pins ∧ (s.readTimeLo).start = s.start ∧ (s.readTimeLo).config = s.config
      ∧ (s.readTimeLo).trig = s.trig ∧ (s.readTimeLo).time = s.time ∧ (s.readTimeLo).store = s.store
      ∧ (s.readTimeLo).agree = s.agree ∧ (s.readTimeLo).turn = s.turn ∧ (s.readTimeLo).roster = s.roster
      ∧ (s.readTimeLo).frames = s.frames ∧ (s.readTimeLo).build = s.build ∧ (s.readTimeLo).port = s.port
      ∧ (s.readTimeLo).freeIndex = s.freeIndex ∧ (s.readTimeLo).pending = s.pending := by
  simp [State.readTimeLo]

@[simp] theorem State.readRoster_frame (a : Addr) (s : State) :
    (s.readRoster a).pins = s.pins ∧ (s.readRoster a).start = s.start ∧ (s.readRoster a).config = s.config
      ∧ (s.readRoster a).trig = s.trig ∧ (s.readRoster a).time = s.time ∧ (s.readRoster a).store = s.store
      ∧ (s.readRoster a).agree = s.agree ∧ (s.readRoster a).turn = s.turn ∧ (s.readRoster a).roster = s.roster
      ∧ (s.readRoster a).frames = s.frames ∧ (s.readRoster a).build = s.build ∧ (s.readRoster a).port = s.port
      ∧ (s.readRoster a).freeIndex = s.freeIndex ∧ (s.readRoster a).pending = s.pending := by
  simp [State.readRoster]

@[simp] theorem State.readTransaction_frame (a : BitVec 7) (s : State) :
    (s.readTransaction a).pins = s.pins ∧ (s.readTransaction a).start = s.start
      ∧ (s.readTransaction a).config = s.config ∧ (s.readTransaction a).trig = s.trig
      ∧ (s.readTransaction a).time = s.time ∧ (s.readTransaction a).store = s.store
      ∧ (s.readTransaction a).agree = s.agree ∧ (s.readTransaction a).turn = s.turn
      ∧ (s.readTransaction a).roster = s.roster ∧ (s.readTransaction a).frames = s.frames
      ∧ (s.readTransaction a).build = s.build ∧ (s.readTransaction a).port = s.port
      ∧ (s.readTransaction a).freeIndex = s.freeIndex ∧ (s.readTransaction a).pending = s.pending := by
  unfold State.readTransaction; dsimp only; (repeat' split) <;> simp

@[simp] theorem State.clearCounters_frame (s : State) :
    (s.clearCounters).pins = s.pins ∧ (s.clearCounters).start = s.start ∧ (s.clearCounters).config = s.config
      ∧ (s.clearCounters).trig = s.trig ∧ (s.clearCounters).time = s.time ∧ (s.clearCounters).store = s.store
      ∧ (s.clearCounters).agree = s.agree ∧ (s.clearCounters).turn = s.turn
      ∧ (s.clearCounters).roster = s.roster ∧ (s.clearCounters).frames = s.frames
      ∧ (s.clearCounters).build = s.build ∧ (s.clearCounters).port = s.port
      ∧ (s.clearCounters).freeIndex = s.freeIndex ∧ (s.clearCounters).pending = s.pending := by
  simp [State.clearCounters]

@[simp] theorem State.ackFault_frame (s : State) :
    (s.ackFault).pins = s.pins ∧ (s.ackFault).start = s.start ∧ (s.ackFault).config = s.config
      ∧ (s.ackFault).trig = s.trig ∧ (s.ackFault).time = s.time ∧ (s.ackFault).store = s.store
      ∧ (s.ackFault).agree = s.agree ∧ (s.ackFault).turn = s.turn ∧ (s.ackFault).roster = s.roster
      ∧ (s.ackFault).frames = s.frames ∧ (s.ackFault).build = s.build ∧ (s.ackFault).port = s.port
      ∧ (s.ackFault).freeIndex = s.freeIndex ∧ (s.ackFault).pending = s.pending := by
  simp [State.ackFault]

@[simp] theorem State.writeTransaction_frame (a : BitVec 7) (n : Nat) (s : State) :
    (s.writeTransaction a n).pins = s.pins ∧ (s.writeTransaction a n).start = s.start
      ∧ (s.writeTransaction a n).config = s.config ∧ (s.writeTransaction a n).time = s.time
      ∧ (s.writeTransaction a n).store = s.store ∧ (s.writeTransaction a n).agree = s.agree
      ∧ (s.writeTransaction a n).turn = s.turn ∧ (s.writeTransaction a n).roster = s.roster
      ∧ (s.writeTransaction a n).frames = s.frames ∧ (s.writeTransaction a n).build = s.build
      ∧ (s.writeTransaction a n).port = s.port ∧ (s.writeTransaction a n).freeIndex = s.freeIndex
      ∧ (s.writeTransaction a n).pending = s.pending := by
  unfold State.writeTransaction; (repeat' split) <;> simp

@[simp] theorem State.transactionEvent_frame (pin : InspectionPin) (s : State) :
    (s.transactionEvent pin).pins = s.pins ∧ (s.transactionEvent pin).start = s.start
      ∧ (s.transactionEvent pin).config = s.config ∧ (s.transactionEvent pin).time = s.time
      ∧ (s.transactionEvent pin).store = s.store ∧ (s.transactionEvent pin).agree = s.agree
      ∧ (s.transactionEvent pin).turn = s.turn ∧ (s.transactionEvent pin).roster = s.roster
      ∧ (s.transactionEvent pin).frames = s.frames ∧ (s.transactionEvent pin).build = s.build
      ∧ (s.transactionEvent pin).port = s.port ∧ (s.transactionEvent pin).freeIndex = s.freeIndex
      ∧ (s.transactionEvent pin).pending = s.pending := by
  unfold State.transactionEvent; (repeat' split) <;> simp

@[simp] theorem State.inspectPin_frame (pin : InspectionPin) (s : State) :
    (s.inspectPin pin).pins = s.pins ∧ (s.inspectPin pin).start = s.start
      ∧ (s.inspectPin pin).config = s.config ∧ (s.inspectPin pin).time = s.time
      ∧ (s.inspectPin pin).store = s.store ∧ (s.inspectPin pin).agree = s.agree
      ∧ (s.inspectPin pin).turn = s.turn ∧ (s.inspectPin pin).roster = s.roster
      ∧ (s.inspectPin pin).frames = s.frames ∧ (s.inspectPin pin).build = s.build
      ∧ (s.inspectPin pin).port = s.port ∧ (s.inspectPin pin).freeIndex = s.freeIndex
      ∧ (s.inspectPin pin).pending = s.pending := by
  simp [State.inspectPin]

@[simp] theorem State.tickTimers_frame (s : State) :
    (s.tickTimers).pins = s.pins ∧ (s.tickTimers).config = s.config ∧ (s.tickTimers).time = s.time
      ∧ (s.tickTimers).agree = s.agree ∧ (s.tickTimers).roster = s.roster ∧ (s.tickTimers).frames = s.frames
      ∧ (s.tickTimers).port = s.port ∧ (s.tickTimers).insp = s.insp ∧ (s.tickTimers).freeIndex = s.freeIndex
      ∧ (s.tickTimers).pending = s.pending := by
  simp [State.tickTimers]

/-! ## Operations over operations: builds, marks and whole frames -/

@[simp] theorem State.raiseMarks_frame (l : List Addr) (n : Nat) (s : State) :
    (l.foldl (fun s a => s.raiseMark a n) s).pins = s.pins
      ∧ (l.foldl (fun s a => s.raiseMark a n) s).start = s.start
      ∧ (l.foldl (fun s a => s.raiseMark a n) s).config = s.config
      ∧ (l.foldl (fun s a => s.raiseMark a n) s).trig = s.trig
      ∧ (l.foldl (fun s a => s.raiseMark a n) s).time = s.time
      ∧ (l.foldl (fun s a => s.raiseMark a n) s).store = s.store
      ∧ (l.foldl (fun s a => s.raiseMark a n) s).agree = s.agree
      ∧ (l.foldl (fun s a => s.raiseMark a n) s).turn = s.turn
      ∧ (l.foldl (fun s a => s.raiseMark a n) s).frames = s.frames
      ∧ (l.foldl (fun s a => s.raiseMark a n) s).build = s.build
      ∧ (l.foldl (fun s a => s.raiseMark a n) s).port = s.port
      ∧ (l.foldl (fun s a => s.raiseMark a n) s).insp = s.insp
      ∧ (l.foldl (fun s a => s.raiseMark a n) s).freeIndex = s.freeIndex
      ∧ (l.foldl (fun s a => s.raiseMark a n) s).pending = s.pending := by
  induction l generalizing s with
  | nil => simp
  | cons a l ih => simp [ih]

@[simp] theorem State.passImplied_frame (m : Addr) (n : Nat) (s : State) :
    (s.passImplied m n).pins = s.pins ∧ (s.passImplied m n).start = s.start
      ∧ (s.passImplied m n).config = s.config ∧ (s.passImplied m n).trig = s.trig
      ∧ (s.passImplied m n).time = s.time ∧ (s.passImplied m n).store = s.store
      ∧ (s.passImplied m n).agree = s.agree ∧ (s.passImplied m n).turn = s.turn
      ∧ (s.passImplied m n).frames = s.frames ∧ (s.passImplied m n).build = s.build
      ∧ (s.passImplied m n).port = s.port ∧ (s.passImplied m n).insp = s.insp
      ∧ (s.passImplied m n).freeIndex = s.freeIndex ∧ (s.passImplied m n).pending = s.pending := by
  unfold State.passImplied; simp

@[simp] theorem State.currentPart_frame (f : FragFrame) (s : State) :
    (s.currentPart f).pins = s.pins ∧ (s.currentPart f).start = s.start ∧ (s.currentPart f).config = s.config
      ∧ (s.currentPart f).trig = s.trig ∧ (s.currentPart f).time = s.time ∧ (s.currentPart f).store = s.store
      ∧ (s.currentPart f).build = s.build ∧ (s.currentPart f).port = s.port ∧ (s.currentPart f).insp = s.insp
      ∧ (s.currentPart f).freeIndex = s.freeIndex ∧ (s.currentPart f).pending = s.pending := by
  unfold State.currentPart; dsimp only; (repeat' split) <;> simp

@[simp] theorem State.buildFrame_applyPart_frame (n : Nat) (x : Option Time) (f : FragFrame) (s : State) :
    (s.buildFrame n x (State.applyPart f)).pins = s.pins
      ∧ (s.buildFrame n x (State.applyPart f)).start = s.start
      ∧ (s.buildFrame n x (State.applyPart f)).config = s.config
      ∧ (s.buildFrame n x (State.applyPart f)).trig = s.trig
      ∧ (s.buildFrame n x (State.applyPart f)).time = s.time
      ∧ (s.buildFrame n x (State.applyPart f)).store = s.store
      ∧ (s.buildFrame n x (State.applyPart f)).agree = s.agree
      ∧ (s.buildFrame n x (State.applyPart f)).turn = s.turn
      ∧ (s.buildFrame n x (State.applyPart f)).roster = s.roster
      ∧ (s.buildFrame n x (State.applyPart f)).frames = s.frames
      ∧ (s.buildFrame n x (State.applyPart f)).port = s.port
      ∧ (s.buildFrame n x (State.applyPart f)).pending = s.pending := by
  unfold State.buildFrame; (repeat' split) <;> simp

@[simp] theorem State.buildFrame_applySkip_frame (n : Nat) (x : Option Time) (f : SkipFrame) (s : State) :
    (s.buildFrame n x (State.applySkip f)).pins = s.pins
      ∧ (s.buildFrame n x (State.applySkip f)).start = s.start
      ∧ (s.buildFrame n x (State.applySkip f)).config = s.config
      ∧ (s.buildFrame n x (State.applySkip f)).trig = s.trig
      ∧ (s.buildFrame n x (State.applySkip f)).time = s.time
      ∧ (s.buildFrame n x (State.applySkip f)).store = s.store
      ∧ (s.buildFrame n x (State.applySkip f)).agree = s.agree
      ∧ (s.buildFrame n x (State.applySkip f)).turn = s.turn
      ∧ (s.buildFrame n x (State.applySkip f)).roster = s.roster
      ∧ (s.buildFrame n x (State.applySkip f)).frames = s.frames
      ∧ (s.buildFrame n x (State.applySkip f)).port = s.port
      ∧ (s.buildFrame n x (State.applySkip f)).freeIndex = s.freeIndex
      ∧ (s.buildFrame n x (State.applySkip f)).pending = s.pending := by
  unfold State.buildFrame; (repeat' split) <;> simp

@[simp] theorem State.handleFrag_frame (own : Bool) (f : FragFrame) (s : State) :
    (s.handleFrag own f).pins = s.pins ∧ (s.handleFrag own f).start = s.start
      ∧ (s.handleFrag own f).config = s.config ∧ (s.handleFrag own f).trig = s.trig
      ∧ (s.handleFrag own f).time = s.time ∧ (s.handleFrag own f).port = s.port
      ∧ (s.handleFrag own f).pending = s.pending := by
  unfold State.handleFrag; dsimp only; (repeat' split) <;> simp

@[simp] theorem State.handleSkip_frame (own : Bool) (f : SkipFrame) (s : State) :
    (s.handleSkip own f).pins = s.pins ∧ (s.handleSkip own f).config = s.config
      ∧ (s.handleSkip own f).trig = s.trig ∧ (s.handleSkip own f).time = s.time
      ∧ (s.handleSkip own f).port = s.port ∧ (s.handleSkip own f).freeIndex = s.freeIndex
      ∧ (s.handleSkip own f).pending = s.pending := by
  unfold State.handleSkip; dsimp only; (repeat' split) <;> simp

@[simp] theorem State.giveOwners_frame (own : Bool) (f : Frame) (s : State) :
    (s.giveOwners own f).pins = s.pins ∧ (s.giveOwners own f).config = s.config
      ∧ (s.giveOwners own f).trig = s.trig ∧ (s.giveOwners own f).port = s.port
      ∧ (s.giveOwners own f).pending = s.pending := by
  unfold State.giveOwners; (repeat' split) <;> simp

@[simp] theorem State.handleFrame_frame (own : Bool) (f : Frame) (s : State) :
    (s.handleFrame own f).pins = s.pins ∧ (s.handleFrame own f).config = s.config
      ∧ (s.handleFrame own f).pending = s.pending := by
  unfold State.handleFrame; split <;> simp

/-- R206: a falling edge of ISCK takes no word and no command. -/
theorem State.inspectPin_isckFall (s : State) :
    s.inspectPin .isckFall = s.setLine (s.insp.line.next s.pins.rst .isckFall) := by
  unfold State.inspectPin State.transactionEvent
  split <;> first | rfl | contradiction

/-- R147, R163: while restarting a well-formed frame meets the clash check alone. -/
theorem State.handleFrame_restarting {own : Bool} {f : Frame} {s : State} (h : s.trig.restarting = true) :
    s.handleFrame own f = s.clashCheck own f := by simp [State.handleFrame, h]

@[simp] theorem State.receive_frame (f : Frame) (s : State) :
    (s.receive f).pins = s.pins ∧ (s.receive f).config = s.config ∧ (s.receive f).pending = s.pending := by
  unfold State.receive; dsimp only; (repeat' split) <;> simp

@[simp] theorem State.receiveBytes_frame (l : List Byte) (s : State) :
    (s.receiveBytes l).pins = s.pins ∧ (s.receiveBytes l).config = s.config
      ∧ (s.receiveBytes l).pending = s.pending := by
  unfold State.receiveBytes; (repeat' split) <;> simp


end Sys2Proof.Machine
end

