-- ==== Sys2Proof/Laws/Ops.lean ====
section
/-! SUPPORT. What each shared operation can do, said once: counters and faults, the roster, the places of the transmit
queue, the store, the take list, the build table, and bits. -/

namespace Sys2Proof.Machine

/-! ## Counters (R209) -/

theorem Counter.index_injective : ∀ {c d : Counter}, c.index = d.index → c = d := by
  intro c d; cases c <;> cases d <;> decide

theorem le_saturate (v : BitVec 16) : v ≤ saturate v := by
  unfold saturate; split <;> bv_omega

theorem saturate_of_ne {v : BitVec 16} (h : v ≠ 65535#16) : saturate v = v + 1 := by simp [saturate, h]

@[simp] theorem State.count_bump_self (c : Counter) (s : State) : (s.bump c).count c = saturate (s.count c) := by
  simp [State.bump, State.count]

@[simp] theorem State.count_bump_of_ne {c d : Counter} (h : d ≠ c) (s : State) :
    (s.bump c).count d = s.count d := by
  have hi : c.index.val ≠ d.index.val := fun e => h (Counter.index_injective (Fin.ext e)).symm
  simp [State.bump, State.count, Vector.getElem_set_ne, hi]

theorem State.counters_le_bump (c : Counter) (s : State) (i : Fin 18) :
    s.insp.counters[i] ≤ (s.bump c).insp.counters[i] := by
  by_cases h : c.index.val = i.val
  · simp only [State.bump, State.setInsp_insp, Fin.getElem_fin]
    rw [Vector.getElem_set, if_pos h]
    simpa [← h] using le_saturate s.insp.counters[c.index]
  · simp [State.bump, Vector.getElem_set_ne, h]

/-- One increment leaves the fault record, the extension words and the taken word. -/
@[simp] theorem State.bump_insp_rest (c : Counter) (s : State) :
    (s.bump c).insp.faults = s.insp.faults ∧ (s.bump c).insp.ext = s.insp.ext
      ∧ (s.bump c).insp.taken = s.insp.taken := by simp [State.bump]

/-! ## The fault record (R211) -/

/-- Raising a fault enters it, with the counter and the time state of the moment, and leaves the rest of the port. -/
@[simp] theorem State.raise_insp (code : FaultCode) (x : Nat) (s : State) :
    (s.raise code x).insp = { s.insp with
      faults := s.insp.faults.enter
        { code := code, context := x, time := s.time.counter, state := s.time.state } } := rfl

/-- R211: into an empty record the fault goes in full. -/
theorem FaultRecord.enter_of_empty {r : FaultRecord} (h : r.first = none) (f : FirstFault) :
    r.enter f = { first := some f, further := r.further, flags := r.flags ||| f.code.flag } := by
  simp [FaultRecord.enter, h]

/-- R211: into a record that is not empty it goes as a further fault. -/
theorem FaultRecord.enter_of_some {r : FaultRecord} {g : FirstFault} (h : r.first = some g) (f : FirstFault) :
    r.enter f = { r with further := min 255 (r.further + 1), flags := r.flags ||| f.code.flag } := by
  simp [FaultRecord.enter, h]

theorem FaultRecord.enter_first_of_some {r : FaultRecord} {g : FirstFault} (h : r.first = some g) (f : FirstFault) :
    (r.enter f).first = some g := by simp [FaultRecord.enter, h]

theorem FaultRecord.enter_flags (r : FaultRecord) (f : FirstFault) :
    (r.enter f).flags = r.flags ||| f.code.flag := by
  unfold FaultRecord.enter; split <;> rfl

/-! ## The roster (R47, R48, R71) -/

@[simp] theorem State.entry_setEntry_self (a : Addr) (e : RosterEntry) (s : State) : (s.setEntry a e).entry a = e := by
  simp [State.setEntry, State.entry]

@[simp] theorem State.entry_setEntry_of_ne {a b : Addr} (h : b ≠ a) (e : RosterEntry) (s : State) :
    (s.setEntry a e).entry b = s.entry b := by
  have hv : a.val ≠ b.val := fun x => h (Fin.ext x.symm)
  simp [State.setEntry, State.entry, Vector.getElem_set_ne, hv]

theorem State.entry_setEntry (a b : Addr) (e : RosterEntry) (s : State) :
    (s.setEntry a e).entry b = if b = a then e else s.entry b := by
  split
  · next h => subst h; simp
  · next h => simp [h]

/-- The entries depend on the roster alone. -/
theorem State.entry_of_roster {s t : State} (h : t.roster = s.roster) (a : Addr) : t.entry a = s.entry a := by
  simp [State.entry, h]

theorem State.order_of_roster {s t : State} (h : t.roster = s.roster) : t.order = s.order := by
  simp [State.order, State.entry, h]

@[simp] theorem Roster.each_get (f : RosterEntry → RosterEntry) (r : Roster) (a : Addr) :
    (r.each f)[a] = f r[a] := by
  simp [Roster.each]

theorem State.entry_raiseMark (a b : Addr) (n : Nat) (s : State) :
    (s.raiseMark a n).entry b = if b = a then { s.entry a with mark := max (s.mark a) n } else s.entry b := by
  rw [State.raiseMark, State.entry_setEntry]

/-- R48: no raise lowers a mark. -/
theorem State.mark_le_raiseMark (a b : Addr) (n : Nat) (s : State) : s.mark b ≤ (s.raiseMark a n).mark b := by
  unfold State.mark
  rw [State.entry_raiseMark]
  split
  · next h => subst h; exact Nat.le_max_left _ _
  · exact Nat.le_refl _

theorem mem_allAddrs (a : Addr) : a ∈ allAddrs := by revert a; decide

/-- R47: the turn order holds the members. -/
theorem State.mem_order {s : State} {a : Addr} : a ∈ s.order ↔ (s.entry a).isMember = true := by
  simp [State.order, mem_allAddrs]

/-- R48: the next event is an entry of the take list above the mark. -/
theorem State.nextEvent_some {s : State} {m : Addr} {n : Nat} (h : s.nextEvent m = some n) :
    s.mark m < n ∧ ∃ e ∈ s.agree.takeList, e.number = n := by
  unfold State.nextEvent at h
  obtain ⟨e, he, rfl⟩ := Option.map_eq_some_iff.mp h
  exact ⟨by simpa using List.find?_some he, e, List.mem_of_find?_eq_some he, rfl⟩

/-! ## Places of the transmit queue (R135, R136) -/

/-- R136: after an offer, what the place will hold is the offered frame. -/
theorem Place.due_offer {φ : Type} (f : φ) (p : Option (Place φ)) : (Place.offer f p).bind Place.due = some f := by
  cases p with
  | none => rfl
  | some p => simp only [Place.offer]; split <;> rfl

/-- R136: after a withdrawal, the place will hold nothing. -/
theorem Place.due_withdraw {φ : Type} (p : Option (Place φ)) : (Place.withdraw p).bind Place.due = none := by
  cases p with
  | none => rfl
  | some p => simp only [Place.withdraw]; split <;> rfl

/-- A frame that leaves the wire, sent or unsent, leaves a place that is off the wire. -/
theorem Place.leaveUnsent_onWire {φ : Type} {p q : Place φ} (h : p.leaveUnsent = some q) : q.onWire = false := by
  unfold Place.leaveUnsent at h
  split at h
  · split at h <;> simp_all [Place.fresh]
    all_goals (subst h; rfl)
  · simp_all

theorem Place.leaveSent_onWire {φ : Type} {p q : Place φ} (h : p.leaveSent = some q) : q.onWire = false := by
  unfold Place.leaveSent at h
  split at h
  · split at h <;> simp_all [Place.fresh]
    all_goals (subst h; rfl)
  · simp_all

/-- R136: what is due of a place is what stands there once its frame has left the wire unsent. -/
theorem Place.leaveUnsent_frame {φ : Type} (p : Place φ) (h : p.onWire = true) :
    p.leaveUnsent.map (·.frame) = p.due := by
  unfold Place.leaveUnsent Place.due
  rw [if_pos h]
  split <;> simp_all [Place.fresh]

/-! ## The fragment store -/

@[simp] theorem changeRecord_length (n : Nat) (f : Record → Record) (l : List Record) :
    (changeRecord n f l).length = l.length := by
  induction l with
  | nil => rfl
  | cons r l ih => unfold changeRecord; split <;> simp [ih]

/-- A change that a view of the records does not see. -/
theorem changeRecord_map {α : Type} (g : Record → α) (n : Nat) (f : Record → Record) (h : ∀ r, g (f r) = g r)
    (l : List Record) : (changeRecord n f l).map g = l.map g := by
  induction l with
  | nil => rfl
  | cons r l ih => unfold changeRecord; split <;> simp [ih, h]

@[simp] theorem Store.modify_window (n : Nat) (f : Record → Record) (st : Store) :
    (st.modify n f).window = st.window := rfl

/-- R10: the head is a record of the store, and none has a lower number. -/
theorem Store.head?_lowest {st : Store} {r : Record} (h : st.head? = some r) :
    r ∈ st.records ∧ ∀ q ∈ st.records, r.number ≤ q.number :=
  ⟨List.mem_of_find?_eq_some h, by simpa using List.find?_some h⟩

/-- R16, R19: a removal takes records away and adds none. -/
theorem Store.remove_sublist (n : Nat) (st : Store) : (st.remove n).records.Sublist st.records :=
  List.eraseP_sublist

/-- R12: no record captures after the end of the window, and none changes but in its state. -/
theorem Store.endWindow_spec (st : Store) :
    st.endWindow.window = none ∧ (∀ r ∈ st.endWindow.records, r.state ≠ .capturing)
      ∧ st.endWindow.records.map (·.samples) = st.records.map (·.samples) := by
  refine ⟨rfl, ?_, ?_⟩
  · intro r hr
    obtain ⟨q, -, rfl⟩ := List.mem_map.mp hr
    unfold Record.endWindow; split <;> simp_all
  · simp only [Store.endWindow, List.map_map]
    refine List.map_congr_left fun r _ => ?_
    simp only [Function.comp_apply, Record.endWindow]; split <;> rfl

/-! ## The take list, the build table and contributions -/

@[simp] theorem mem_insertTake {e x : TakeEntry} {l : List TakeEntry} : x ∈ insertTake e l ↔ x = e ∨ x ∈ l := by
  induction l with
  | nil => simp [insertTake]
  | cons y l ih => unfold insertTake; split <;> simp [ih]; tauto

@[simp] theorem insertTake_length (e : TakeEntry) (l : List TakeEntry) :
    (insertTake e l).length = l.length + 1 := by
  induction l with
  | nil => rfl
  | cons y l ih => unfold insertTake; split <;> simp [ih]

/-- R38: an entry for a new number goes into its ascending place. -/
theorem insertTake_ascending {e : TakeEntry} {l : List TakeEntry}
    (h : l.Pairwise fun x y => x.number < y.number) (hn : ∀ x ∈ l, x.number ≠ e.number) :
    (insertTake e l).Pairwise fun x y => x.number < y.number := by
  induction l with
  | nil => simp [insertTake]
  | cons y l ih =>
    obtain ⟨hy, hl⟩ := List.pairwise_cons.mp h
    have hne := hn y (List.mem_cons_self)
    unfold insertTake
    split
    · next hlt =>
      refine List.pairwise_cons.mpr ⟨fun x hx => ?_, h⟩
      rcases List.mem_cons.mp hx with rfl | hx
      · exact hlt
      · exact Nat.lt_trans hlt (hy x hx)
    · next hge =>
      refine List.pairwise_cons.mpr ⟨fun x hx => ?_, ih hl fun x hx => hn x (List.mem_cons_of_mem _ hx)⟩
      rcases mem_insertTake.mp hx with rfl | hx
      · omega
      · exact hy x hx

@[simp] theorem mem_insertBuild {b x : Build} {l : List Build} : x ∈ insertBuild b l ↔ x = b ∨ x ∈ l := by
  induction l with
  | nil => simp [insertBuild]
  | cons y l ih => unfold insertBuild; split <;> simp [ih]; tauto

@[simp] theorem insertBuild_length (b : Build) (l : List Build) : (insertBuild b l).length = l.length + 1 := by
  induction l with
  | nil => rfl
  | cons y l ih => unfold insertBuild; split <;> simp [ih]

/-- R91: a build for a new number goes into its ascending place. -/
theorem insertBuild_ascending {b : Build} {l : List Build}
    (h : l.Pairwise fun x y => x.number < y.number) (hn : ∀ x ∈ l, x.number ≠ b.number) :
    (insertBuild b l).Pairwise fun x y => x.number < y.number := by
  induction l with
  | nil => simp [insertBuild]
  | cons y l ih =>
    obtain ⟨hy, hl⟩ := List.pairwise_cons.mp h
    have hne := hn y (List.mem_cons_self)
    unfold insertBuild
    split
    · next hlt =>
      refine List.pairwise_cons.mpr ⟨fun x hx => ?_, h⟩
      rcases List.mem_cons.mp hx with rfl | hx
      · exact hlt
      · exact Nat.lt_trans hlt (hy x hx)
    · next hge =>
      refine List.pairwise_cons.mpr ⟨fun x hx => ?_, ih hl fun x hx => hn x (List.mem_cons_of_mem _ hx)⟩
      rcases mem_insertBuild.mp hx with rfl | hx
      · omega
      · exact hy x hx

/-- R92: a contribution put into the list is in it. -/
theorem mem_putContribution_self (c : Contribution) (l : List Contribution) : c ∈ putContribution c l := by
  induction l with
  | nil => simp [putContribution]
  | cons x l ih => unfold putContribution; split <;> [simp; (split <;> simp [ih])]

/-- R92: every other contribution of the list is one that stood there. -/
theorem mem_of_mem_putContribution {c x : Contribution} {l : List Contribution} (h : x ∈ putContribution c l) :
    x = c ∨ x ∈ l := by
  induction l with
  | nil => simpa [putContribution] using h
  | cons y l ih =>
    unfold putContribution at h
    split at h
    · simpa using h
    · split at h
      · rcases List.mem_cons.mp h with rfl | h
        · exact .inl rfl
        · exact .inr (List.mem_cons_of_mem _ h)
      · rcases List.mem_cons.mp h with rfl | h
        · exact .inr List.mem_cons_self
        · exact (ih h).imp_right (List.mem_cons_of_mem _)

/-- R92: contributions stay in ascending member address. -/
theorem putContribution_ascending {c : Contribution} {l : List Contribution}
    (h : l.Pairwise fun x y => x.member < y.member) :
    (putContribution c l).Pairwise fun x y => x.member < y.member := by
  induction l with
  | nil => simp [putContribution]
  | cons y l ih =>
    obtain ⟨hy, hl⟩ := List.pairwise_cons.mp h
    unfold putContribution
    split
    · next hlt =>
      refine List.pairwise_cons.mpr ⟨fun x hx => ?_, h⟩
      rcases List.mem_cons.mp hx with rfl | hx
      · exact hlt
      · exact lt_trans hlt (hy x hx)
    · split
      · next _ heq => exact List.pairwise_cons.mpr ⟨fun x hx => heq ▸ hy x hx, hl⟩
      · next hge hne =>
        refine List.pairwise_cons.mpr ⟨fun x hx => ?_, ih hl⟩
        rcases mem_of_mem_putContribution hx with rfl | hx
        · exact lt_of_le_of_ne (not_lt.mp hge) fun e => hne e.symm
        · exact hy x hx

/-! ## Bits (R159, R200) -/

@[simp] theorem bitsOf_length (w v : Nat) : (bitsOf w v).length = w := by simp [bitsOf]

@[simp] theorem bitsOfBytes_length (l : List Byte) : (bitsOfBytes l).length = 8 * l.length := by
  induction l with
  | nil => rfl
  | cons b l ih => simp only [bitsOfBytes, List.flatMap_cons] at *; simp [ih]; omega

@[simp] theorem crcBytes_length (l : List Byte) : (crcBytes l).length = 2 := rfl

@[simp] theorem frameBytes_length (f : Frame) : (frameBytes f).length = (frameBody f).length + 2 := by
  simp [frameBytes]

end Sys2Proof.Machine
end

