-- ==== Sys2Proof/Laws/Settle.lean ====
section
/-! SUPPORT. What the settling after a change of marks, take list or roster can do (R88): inside the blocks it touches,
the parts it leaves as they are. -/

namespace Sys2Proof.Machine

/-! ## The agreement unit (R39) -/

/-- R39: a removal takes entries off the take list and may let the hold reason fall; the rest of the unit stays. -/
@[simp] theorem State.removeDrained_agree (s : State) :
    s.removeDrained.agree.evn = s.agree.evn ∧ s.removeDrained.agree.pendingTakes = s.agree.pendingTakes
      ∧ s.removeDrained.agree.highTake = s.agree.highTake ∧ s.removeDrained.agree.exhausted = s.agree.exhausted
      ∧ s.removeDrained.agree.takeList = s.undrained s.agree.takeList := by
  simp [State.removeDrained]

@[simp] theorem State.evalTimer_agree (s : State) : s.evalTimer.agree = s.agree :=
  (State.evalTimer_frame s).2.2.2.2.2.2.1

@[simp] theorem State.reassess_agree (s : State) : s.reassess.agree = s.removeDrained.agree := by
  simp [State.reassess]

@[simp] theorem State.settle_agree (l : List Addr) (s : State) : (s.settle l).agree = s.removeDrained.agree := by
  simp [State.settle]

/-! ## The transmit queue -/

@[simp] theorem State.withdrawSkip_queue (s : State) :
    s.withdrawSkip.frames = { s.frames with queue := { s.frames.queue with
      skip := Place.withdraw s.frames.queue.skip } } := rfl

@[simp] theorem State.withdrawFrag_queue (s : State) :
    s.withdrawFrag.frames = { s.frames with queue := { s.frames.queue with
      frag := Place.withdraw s.frames.queue.frag } } := rfl

@[simp] theorem State.offerFrag_queue (f : FragFrame) (s : State) :
    (s.offerFrag f).frames = { s.frames with queue := { s.frames.queue with
      frag := Place.offer f s.frames.queue.frag } } := rfl

@[simp] theorem State.offerSkip_queue (f : SkipFrame) (s : State) :
    (s.offerSkip f).frames = { s.frames with queue := { s.frames.queue with
      skip := Place.offer f s.frames.queue.skip } } := rfl

/-- R61: the turn timer touches the SKIP place alone. -/
@[simp] theorem State.evalTimer_queue (s : State) :
    s.evalTimer.frames.queue.takes = s.frames.queue.takes ∧ s.evalTimer.frames.queue.frag = s.frames.queue.frag
      ∧ s.evalTimer.frames.queue.roll = s.frames.queue.roll ∧ s.evalTimer.frames.failures = s.frames.failures
      ∧ s.evalTimer.frames.dat = s.frames.dat := by
  simp only [State.evalTimer, State.dropSkip]
  split <;> [simp; (split <;> simp)]

@[simp] theorem State.reassess_queue (s : State) :
    s.reassess.frames.queue.takes = s.frames.queue.takes ∧ s.reassess.frames.queue.frag = s.frames.queue.frag
      ∧ s.reassess.frames.queue.roll = s.frames.queue.roll ∧ s.reassess.frames.failures = s.frames.failures
      ∧ s.reassess.frames.dat = s.frames.dat := by
  simp [State.reassess]

/-- R49 to R53: the own parts touch the FRAG place alone. -/
@[simp] theorem State.offerParts_queue (s : State) :
    s.offerParts.frames.queue.takes = s.frames.queue.takes ∧ s.offerParts.frames.queue.skip = s.frames.queue.skip
      ∧ s.offerParts.frames.queue.roll = s.frames.queue.roll ∧ s.offerParts.frames.failures = s.frames.failures
      ∧ s.offerParts.frames.dat = s.frames.dat := by
  unfold State.offerParts
  (repeat' split) <;> simp

/-- R74: a refresh touches the ROLL place alone. -/
@[simp] theorem State.refreshRoll_queue (s : State) :
    s.refreshRoll.frames.queue.takes = s.frames.queue.takes ∧ s.refreshRoll.frames.queue.skip = s.frames.queue.skip
      ∧ s.refreshRoll.frames.queue.frag = s.frames.queue.frag ∧ s.refreshRoll.frames.failures = s.frames.failures
      ∧ s.refreshRoll.frames.dat = s.frames.dat := by
  unfold State.refreshRoll
  (repeat' split) <;> simp

/-- R88: settling leaves the TAKE frames, the failure count and what is known of DAT. -/
@[simp] theorem State.settle_queue (l : List Addr) (s : State) :
    (s.settle l).frames.queue.takes = s.frames.queue.takes ∧ (s.settle l).frames.failures = s.frames.failures
      ∧ (s.settle l).frames.dat = s.frames.dat := by
  simp [State.settle]

/-! ## The fragment store -/

/-- R50: an offered part marks its record SENDING: the window stays, and of a record nothing but the state changes. -/
@[simp] theorem State.offerParts_store (s : State) :
    s.offerParts.store.window = s.store.window
      ∧ s.offerParts.store.records.map Record.content = s.store.records.map Record.content := by
  have hm (n : Nat) : (s.store.modify n fun r => { r with state := .sending }).records.map Record.content
      = s.store.records.map Record.content :=
    changeRecord_map Record.content n (fun r => { r with state := .sending }) (fun _ => rfl) _
  unfold State.offerParts
  (repeat' split) <;> simp [State.markSending, hm]

/-- R88: settling leaves the window and every record's content. -/
@[simp] theorem State.settle_store (l : List Addr) (s : State) :
    (s.settle l).store.window = s.store.window
      ∧ (s.settle l).store.records.map Record.content = s.store.records.map Record.content := by
  simp [State.settle]

/-! ## The build table (R103, R106, R109) -/

/-- R106: a close leaves everything of a build but its state, cause, timer and contributions' states. -/
@[simp] theorem Build.close_content (c : CloseCause) (b : Build) : (b.close c).content = b.content := by
  simp only [Build.content, Build.close, List.map_map, Build.mk.injEq, true_and, and_true]
  refine List.map_congr_left fun x _ => ?_
  simp only [Function.comp_apply, Contribution.atClose]; split <;> rfl

@[simp] theorem Build.notExpected_content (l : List Addr) (b : Build) : (b.notExpected l).content = b.content := by
  simp only [Build.content, Build.notExpected, List.map_map, Build.mk.injEq, true_and, and_true]
  refine List.map_congr_left fun x _ => ?_
  simp only [Function.comp_apply]; split <;> rfl

@[simp] theorem State.settleBuild_content (s : State) (l : List Addr) (b : Build) :
    (s.settleBuild l b).content = b.content := by
  unfold State.settleBuild
  split
  · dsimp only; split <;> simp
  · rfl

/-- R103, R106: settling the builds adds and removes none, and leaves each one's content. -/
@[simp] theorem State.settleBuilds_content (l : List Addr) (s : State) :
    (s.settleBuilds l).build.builds.map Build.content = s.build.builds.map Build.content
      ∧ (s.settleBuilds l).build.lastDelivered = s.build.lastDelivered := by
  simp [State.settleBuilds, Function.comp_def]

/-- R109: handing over the head changes its state alone. -/
@[simp] theorem State.startDelivery_content (s : State) :
    s.startDelivery.build.builds.map Build.content = s.build.builds.map Build.content
      ∧ s.startDelivery.build.lastDelivered = s.build.lastDelivered := by
  unfold State.startDelivery
  split
  · next h =>
    split
    · simp [State.offerWord, h, Build.content]
    · simp
  · simp

/-- R88: settling adds and removes no build, and leaves each one's content. -/
@[simp] theorem State.settle_builds (l : List Addr) (s : State) :
    (s.settle l).build.builds.map Build.content = s.build.builds.map Build.content
      ∧ (s.settle l).build.lastDelivered = s.build.lastDelivered := by
  simp [State.settle]

end Sys2Proof.Machine
end

