-- ==== Sys2Proof/Tests/Slice0.lean ====
section
/-! SUPPORT. Small tests of one step each, expected results from the spec's worked examples and tables, and for every
statement with hypotheses a state and operands that meet them together. -/

namespace Sys2Proof.Tests

open Sys2Proof.Machine

set_option Elab.async false

/-! ## Helpers -/

/-- The state after a command. -/
def after (c : Instr) (s : State) : State :=
  match exec c s with
  | .next t => t
  | .fault _ => s
  | .refused _ => s

/-- An image as section 1.10 has it: CAPWIN 8 µs, channels 0 to 7 enabled, thresholds 100, 0 and 200. -/
def image : Machine.Image :=
  { capwin := 8, turn := 500, lead := 2, misslim := 2, skewlim := 10, rolltime := 20, listen := 50
    signature := 0x1234, trg := .sink, hld := .sink, dat := .sink, triggerEnable := true, channelEnable := 0xFF
    thresholds := [100, 100, 100, 100, 0, 200, 200, 200] ++ List.replicate 56 0 }

/-- A station out of RST with this image, DAT in a frame that began after an idle gap. -/
def station (st : StationState) (role : Role) (address : Addr) : State :=
  { State.reset with
    pins := { rst := false, address := address, role := role }
    start := { State.reset.start with station := st }
    config := image
    frames := { State.reset.frames with dat := .inFrame }
    insp := { State.reset.insp with line := .released } }

/-- A member's entry. -/
def member (mark : Nat) : RosterEntry :=
  { state := .present, role := some .acquirer, count := 8, misses := 0, mark := mark }

/-- Acquirers at 2, 5 and 9 with these marks (sections 2.13, 3.4, 5.7). -/
def trunk (a b c : Nat) (s : State) : State :=
  ((s.setEntry 2 (member a)).setEntry 5 (member b)).setEntry 9 (member c)

/-- Section 2.13: a RUNNING acquirer with EVN 20 and high take 19. -/
def acquirer (address : Addr) : State :=
  let s := trunk 19 19 19 (station .running .acquirer address)
  { s with
    time := { counter := 1003000, state := .set }
    agree := { Agreement.blank with evn := 20, highTake := 19 } }

/-- Section 2.13, step 4: station C holds pending 20 and record 20. -/
def slipped : State :=
  let s := acquirer 9
  { s with
    agree := { s.agree with evn := 21, pendingTakes := [{ number := 20, edgeTime := 1003000 }] }
    store := { window := some 400, records := [newRecord 20 1003000] }
    frames := { s.frames with queue := { Queue.empty with
      takes := [.fresh { number := 20, sender := 9, time := 1003000 }] } } }

/-- A TAKE of station A (sections 2.13 and 10). -/
def takeA (n : BitVec 32) : TakeFrame := { number := n, sender := 2, time := 1003000 }

/-- A READY record of n samples. -/
def record (number n : Nat) : Record :=
  { newRecord number 7340000 with
    state := .ready, answered := true
    samples := (List.range n).map fun k => { channel := BitVec.ofNat 6 k, value := 1, overrange := false } }

/-- A part of a record. -/
def part (number : BitVec 32) (sender : Addr) (index : BitVec 3) (last : Bool) (n : Nat) : FragFrame :=
  { number := number, sender := sender, index := index, last := last, lost := false, flags := noFlags
    samples := (List.range n).map fun k => { channel := BitVec.ofNat 6 k, value := 1, overrange := false } }

/-- A LOST part. -/
def lost (number : BitVec 32) (sender : Addr) : FragFrame :=
  { part number sender 0 true 0 with lost := true }

/-- Section 3.4: the take list 30, 31, 32 at the station B, with its records, every mark 29. -/
def draining : State :=
  let s := trunk 29 29 29 (station .running .acquirer 5)
  let s := { s with
    time := { counter := 9000000, state := .set }
    agree := { Agreement.blank with
      evn := 33, highTake := 32
      takeList := [30, 31, 32].map fun n => { number := n, time := some 7340000 } }
    store := { window := none, records := [record 30 10, record 31 0, record 32 40] } }
  s.evalTimer.offerParts

/-- Section 5.7: the collector K before event 120. -/
def collector : State :=
  let s := trunk 119 119 119 (station .running .collector 14)
  { s with
    time := { counter := 9000000, state := .set }
    agree := { Agreement.blank with highTake := 120, takeList := [{ number := 120, time := some 7340000 }] }
    build := { builds := [], lastDelivered := 119 } }

/-- A ROLL frame of another station. -/
def rollOf (sender : Addr) (mode : RollMode) (field : BitVec 32) : RollFrame :=
  { field := field, sender := sender, mode := mode, role := .acquirer, count := 8, signature := 0x1234 }

/-- A SKIP of station A. -/
def skipOf (number : BitVec 32) (subject : Addr) (heard : BitVec 3) : SkipFrame :=
  { number := number, sender := 2, subject := subject, reason := .stalled, heard := heard }

/-- A station with one of its own frames on the wire. -/
def sendingRoll (f : RollFrame) (s : State) : State :=
  s.setQueue { Queue.empty with roll := some { frame := f, onWire := true, kept := .nothing } }

/-- A station with its own part on the wire. -/
def sendingFrag (f : FragFrame) (s : State) : State :=
  s.setQueue { s.frames.queue with frag := some { frame := f, onWire := true, kept := .nothing } }

/-- Section 11.8: CAPWIN 8, TURN 50 µs and HLD code 11. -/
def imageBytes (turn pers miss : Byte) : List Byte :=
  let b := [0, 8, turn, 2, miss, 10, 20, 50, pers, 1, 0xFF] ++ List.replicate 7 0
    ++ [0, 100, 0x7F, 0xFF] ++ List.replicate 136 0
  b ++ crcBytes b

/-- A station whose first read of the image is under way. -/
def loading (role : Role) : State := after (.rstRelease 3 role) State.reset

/-! ## Bits, frames and words (R200 to R204) -/

/-- The check value of this cyclic check over the digits 1 to 9, known for the polynomial and start of R200. -/
theorem test_crc_check_value : crc16 [49, 50, 51, 52, 53, 54, 55, 56, 57] = 0x29B1 := by decide +kernel

/-- SKIP(120, sender 2, subject 9, STALLED, 1), its bits written out from R200 and R201. -/
theorem test_skip_bytes : frameBody (.skip (skipOf 120 9 1)) = [0x20, 0x00, 0x00, 0x0F, 0x05, 0x32] := by
  decide +kernel

/-- R201, R202: the lengths of the kinds; 16 samples make 51 bytes. -/
theorem test_frame_lengths :
    [Frame.take (takeA 1), .skip (skipOf 1 9 0), .roll (rollOf 2 .join 1), .frag (part 1 2 0 true 0),
      .frag (part 1 2 0 false 16)].map (fun f => (frameBytes f).length) = [13, 8, 11, 9, 51] := by decide +kernel

theorem test_frames_read_back :
    checkFrame (frameBytes (.frag (part 120 2 1 true 4))) = .good (.frag (part 120 2 1 true 4))
      ∧ checkFrame ((frameBytes (.skip (skipOf 120 9 1))).set 6 0) = .bad
      ∧ checkFrame [1, 2, 3, 4, 5, 6] = .bad := by decide +kernel

/-- R146: a SKIP that names its own sender, and a last-but-not-LAST fourth part, are malformed. -/
theorem test_malformed_fields :
    checkFrame (frameBytes (.skip { skipOf 120 2 1 with subject := 2 })) = .malformed
      ∧ checkFrame (frameBytes (.frag (part 120 2 3 false 4))) = .malformed := by decide +kernel

/-- No row of the table gives bits. -/
theorem test_no_word_spells_a_command : decodeTableWord 32 0 = none
    ∧ State.reset.withFetchWord 32 0 = State.reset := by decide +kernel

/-! ## Well-formed operands: each check refuses an ill-formed term -/

theorem test_wellFormed_refuses :
    (Instr.imageReadComplete [1, 2] false).wellFormed = false
      ∧ (Instr.badFrame (frameBytes (.skip (skipOf 120 9 1)))).wellFormed = false
      ∧ (Instr.takeReception (takeA 0)).wellFormed = false
      ∧ (Instr.fragReception (part 120 2 3 false 4)).wellFormed = false
      ∧ (Instr.skipReception { skipOf 120 9 1 with subject := 2 }).wellFormed = false
      ∧ (Instr.rollReception { rollOf 2 .join 1 with count := 65 }).wellFormed = false
      ∧ (Instr.closeTimerExpiry 0).wellFormed = false
      ∧ (Instr.inspectionWriteOther 0x41 40).wellFormed = false := by decide +kernel

theorem test_wellFormed_accepts :
    (Instr.imageReadComplete (imageBytes 50 0x15 2) false).wellFormed = true
      ∧ (Instr.badFrame [1, 2, 3]).wellFormed = true ∧ (Instr.takeReception (takeA 1)).wellFormed = true
      ∧ (Instr.fragReception (part 120 2 3 true 16)).wellFormed = true
      ∧ (Instr.skipReception (skipOf 120 9 4)).wellFormed = true
      ∧ (Instr.rollReception (rollOf 2 .join 0)).wellFormed = true
      ∧ (Instr.inspectionWriteOther 0x41 39).wellFormed = true := by decide +kernel

/-! ## Reset and the image -/

theorem test_rstAssert : after .rstAssert (acquirer 2) = State.reset := by decide +kernel

theorem test_rstRelease :
    (loading .collector).pins = { rst := false, address := 3, role := .collector }
      ∧ (loading .collector).start.imagePort = .firstRead := by decide +kernel

/-- The check word that `imageBytes` carries is right, whatever the fields. -/
theorem test_imageBytes_check (turn pers miss : Byte) : imageCheck (imageBytes turn pers miss) = true := by
  have h : ∀ b : List Byte, b.length = 158 → imageCheck (b ++ crcBytes b) = true := by
    intro b hb
    simp [imageCheck, ← hb, crcBytes]
  exact h _ (by simp)

/-- The completion of a first read of `imageBytes`, where every field is in range, loads it. -/
theorem loads_imageBytes (turn pers miss : Byte) (h : imageInRange (imageBytes turn pers miss) = true) :
    after (.imageReadComplete (imageBytes turn pers miss) false) (loading .acquirer)
      = State.loadGood (imageBytes turn pers miss) false
        ((loading .acquirer).setStart { (loading .acquirer).start with imageBuffer := imageBytes turn pers miss }) := by
  have hp : (loading .acquirer).pins.rst = false := rfl
  have hi : (loading .acquirer).start.imagePort = .firstRead := rfl
  simp [after, exec, execImageReadComplete, State.completeRead, test_imageBytes_check, h, hp, hi]

/-- Section 11.8: TURN 50 µs is raised to 110 µs; IMAGE_ADJUSTED stands first, LINE_PROHIBITED for HLD is further. -/
theorem test_imageReadComplete :
    let t := after (.imageReadComplete (imageBytes 5 0x1D 2) false) (loading .acquirer)
    t.config.turn = 110 ∧ t.config.hld = .listen ∧ t.config.trg = .sink ∧ t.start.station = .listening
      ∧ t.insp.faults.first.map (·.code) = some .imageAdjusted ∧ t.insp.faults.further = 1
      ∧ t.insp.faults.flags = 0b110 ∧ t.config.thresholds.getD 0 0 = 100
      ∧ t.config.thresholds.getD 1 0 = 0x3FFF := by
  rw [loads_imageBytes _ _ _ (by decide +kernel)]
  decide +kernel

/-- R177: DAT code 00 leaves an acquirer MUTE. -/
theorem test_imageReadComplete_mute :
    (after (.imageReadComplete (imageBytes 50 0x14 2) false) (loading .acquirer)).start.station = .mute := by
  rw [loads_imageBytes _ _ _ (by decide +kernel)]
  decide +kernel

/-! ## Capture (section 1.10) -/

/-- Section 1.10: the record 41 with its window open. -/
def capturing : State :=
  let s := acquirer 3
  after (.triggerEdge false) { s with agree := { s.agree with evn := 41 } }

/-- The word of a sample on LP0 to LP31 (R203). -/
def sample (channel value : Nat) (overrange : Bool) : Word :=
  BitVec.ofNat 32 (channel * 65536 + (if overrange then 16384 else 0) + value)

/-- The record after the six arrivals of section 1.10. -/
def captured : State :=
  after (.sampleArrival (sample 2 360 false)) <| after (.sampleArrival (sample 5 50 true)) <|
  after (.sampleArrival (sample 4 0 false)) <| after (.sampleArrival (sample 9 900 false)) <|
  after (.sampleArrival (sample 5 120 false)) <| after (.sampleArrival (sample 2 350 false)) capturing

theorem test_triggerEdge :
    capturing.store.records = [newRecord 41 1003000] ∧ capturing.agree.evn = 42
      ∧ capturing.store.window = some 400 ∧ capturing.drivesHld = true := by decide +kernel

theorem test_sampleArrival :
    captured.store.records.map (fun r => r.samples.map fun x => (x.channel.toNat, x.value.toNat, x.overrange))
        = [[(2, 350, false), (4, 0, false), (5, 50, true)]]
      ∧ captured.store.records.map (fun r => (r.flags.ovr, r.flags.dbl, r.flags.trunc)) = [(true, true, false)]
      ∧ captured.count .suppressed = 1 ∧ captured.count .doubles = 1 ∧ captured.count .straySamples = 0 := by
  decide +kernel

theorem test_captureWindowExpiry :
    let t := after .captureWindowExpiry captured
    t.store.window = none ∧ t.store.records.map (·.state) = [.ready]
      ∧ (after (.sampleArrival (sample 7 500 false)) t).count .straySamples = 1 := by decide +kernel

/-! ## TRG -/

theorem test_triggerEdge_held : (after (.triggerEdge true) (acquirer 9)).count .heldEdges = 1 := by decide +kernel

theorem test_localTriggerRequest :
    (after (.localTriggerRequest false) (acquirer 9)).trig.normalPulse = some 50
      ∧ (after (.localTriggerRequest true) (acquirer 9)).count .refusedTriggers = 1 := by decide +kernel

theorem test_normalPulseExpiry :
    let t := after (.localTriggerRequest false) (acquirer 9)
    t.drivesTrg = true ∧ (after .normalPulseExpiry t).drivesTrg = false := by decide +kernel

theorem test_restartTrunk :
    let t := after .restartTrunk (acquirer 9)
    t.trig.restartPulse = some 10000 ∧ t.trig.outcome = .driven ∧ t.drivesTrg = true
      ∧ (after .restartTrunk (station .mute .acquirer 9)).trig.outcome = .refused := by decide +kernel

theorem test_restartPulseExpiry :
    (after .restartPulseExpiry (after .restartTrunk (acquirer 9))).drivesTrg = false := by decide +kernel

/-- A station whose detector runs. -/
def detecting : State := after (.triggerEdge false) slipped

/-- A station that is restarting. -/
def restarting : State := after .trunkRestartDetection detecting

theorem test_trunkRestartDetection :
    restarting.trig.restarting = true ∧ restarting.store = Store.empty ∧ restarting.agree = Agreement.blank
      ∧ restarting.frames.queue = Queue.empty ∧ restarting.time = { counter := 1003000, state := .unset } := by
  decide +kernel

theorem test_trgRelease :
    let t := after .trgRelease restarting
    t.start.station = .rollcall ∧ t.trig.restarting = false
      ∧ t.frames.queue.roll.map (fun p => p.frame.mode) = some .call := by decide +kernel

/-! ## Roll call -/

/-- A LISTENING station. -/
def listening : State :=
  let s := station .listening .acquirer 9
  { s with start := { s.start with listenTimer := some 100 } }

/-- A station in ROLLCALL whose roll timer runs. -/
def rollcall : State :=
  let s := after .listenTimerExpiry listening
  { s with start := { s.start with rollTimer := some 100 } }

theorem test_listenTimerExpiry :
    (after .listenTimerExpiry listening).start.station = .rollcall
      ∧ (after .listenTimerExpiry listening).drivesHld = true := by decide +kernel

theorem test_rollTimerExpiry :
    (after (.rollTimerExpiry true) rollcall).start.rollMet = true
      ∧ (after (.rollTimerExpiry true) rollcall).drivesHld = false := by decide +kernel

theorem test_hldFall :
    let t := after .hldFall (after (.rollTimerExpiry true) rollcall)
    t.start.station = .running ∧ t.agree.evn = 1 ∧ t.time = { counter := 0, state := .set } := by decide +kernel

/-! ## Turns and members (section 3.4) -/

theorem test_turnTimerExpiry :
    (after .turnTimerExpiry draining).frames.queue.skip.map (·.frame)
        = some { number := 30, sender := 5, subject := 2, reason := .noStart, heard := 0 }
      ∧ (after .turnTimerExpiry draining).turn.timer = .skipping 2 30 := by decide +kernel

/-- Section 3.4, first row: A's mark reaches 30; B offers 30 part 0 and times A for 31. -/
theorem test_fragReception :
    let t := after (.fragReception (part 30 2 0 true 5)) draining
    [t.mark 2, t.mark 5, t.mark 9] = [30, 29, 29] ∧ t.agree.takeList.map (·.number) = [30, 31, 32]
      ∧ t.frames.queue.frag.map (fun p => (p.frame.number, p.frame.index, p.frame.last, p.frame.samples.length))
        = some (30, 0, true, 10)
      ∧ t.turn.timer = .running 2 31 25000 ∧ t.store.records.map (·.state) = [.sending, .ready, .ready] := by
  decide +kernel

/-- Section 2.13, step 5: a part for an event the list lacks is an implied take. -/
theorem test_fragReception_implied :
    let t := after (.fragReception (part 20 2 0 true 0)) { slipped with agree := { slipped.agree with
      evn := 22, pendingTakes := [], highTake := 21, takeList := [{ number := 21, time := some 1003000 }] } }
    t.agree.takeList = [{ number := 20, time := none }, { number := 21, time := some 1003000 }]
      ∧ t.mark 2 = 20 := by decide +kernel

theorem test_skipReception :
    let t := after (.skipReception { skipOf 30 9 0 with sender := 2 }) draining
    t.mark 9 = 30 ∧ (t.entry 9).misses = 1 ∧ (t.entry 9).state = .present ∧ t.mark 2 = 29 := by decide +kernel

theorem test_rollReception :
    let t := after (.rollReception (rollOf 7 .join 33)) draining
    (t.entry 7).state = .present ∧ t.mark 7 = 32 ∧ (t.entry 7).role = some .acquirer := by decide +kernel

/-! ## TAKE frames (section 2.13) -/

/-- Step 4: the pending 20 becomes 21, EVN 22, RENUM, and the entry is answered. -/
theorem test_takeReception :
    let t := after (.takeReception (takeA 21)) slipped
    t.agree.evn = 22 ∧ t.agree.pendingTakes = [] ∧ t.agree.highTake = 21
      ∧ t.store.records.map (fun r => (r.number, r.answered, r.flags.renum, r.flags.tsus)) = [(21, true, true, false)]
      ∧ t.count .numberSlips = 1 ∧ t.frames.queue.takes = [] := by decide +kernel

/-- R195: alignment moves the counter by T − E. -/
theorem test_takeReception_aligns :
    let s := { slipped with time := { counter := 1003500, state := .unset } }
    (after (.takeReception { takeA 20 with time := 2003000 }) s).time = { counter := 2003500, state := .set } := by
  decide +kernel

/-! ## Event building and delivery (sections 5.7 and 6.9) -/

/-- Section 5.7 to the row at 78 µs. -/
def building : State :=
  after (.fragReception (part 120 9 0 false 16)) <| reopen <| after (.fragReception (lost 120 5)) <| reopen <|
  after (.fragReception (part 120 2 1 true 4)) <| reopen <| after (.fragReception (part 120 2 0 false 16)) collector
where
  /-- The next frame begins after an idle gap. -/
  reopen (s : State) : State := { s with frames := { s.frames with dat := .inFrame } }

/-- Section 5.7, the row at 590 µs, and with it the head handed over. -/
def delivering : State :=
  after (.skipReception (skipOf 120 9 1)) ({ building with frames := { building.frames with dat := .inFrame } })

theorem test_build_rows :
    building.build.builds.map (fun b => (b.number, b.time, b.state)) = [(120, some 7340000, .opened)]
      ∧ building.build.builds.map (fun b => b.contributions.map fun c => (c.member, c.state, c.samples.length))
        = [[(2, .done, 20), (5, .lost, 0), (9, .partly, 16)]]
      ∧ building.build.samples = 36 ∧ [building.mark 2, building.mark 5, building.mark 9] = [120, 120, 119] := by
  decide +kernel

theorem test_build_closes_and_is_handed_over :
    delivering.build.builds.map (fun b => (b.state, b.cause)) = [(.delivering, some .complete)]
      ∧ delivering.port.state = .record 0 44 ∧ delivering.port.offers = 1 ∧ delivering.agree.takeList = [] := by
  decide +kernel

/-- Section 6.9: header type 100, 3 contributions, 44 words; number 120; time 7 340 000. -/
theorem test_record_words :
    delivering.build.builds.map (fun b => b.words.take 5)
        = [[0x8003002C, 120, 0, 7340000, 0xC2000014]]
      ∧ delivering.build.builds.map (fun b => (b.words.length, b.words.getD 43 0)) = [(44, 0xE0000078)] := by
  decide +kernel

theorem test_takingEvent :
    (after .takingEvent delivering).port = { state := .record 1 44, lp := 120, offers := 2 } := by decide +kernel

/-- Section 6.9: at the 44th taking event the build leaves the table. -/
theorem test_takingEvent_end :
    let t := after .takingEvent { delivering with port := { delivering.port with state := .record 43 44 } }
    t.build = { builds := [], lastDelivered := 120 } ∧ t.port.state = .idle := by decide +kernel

theorem test_closeTimerExpiry :
    let t := after (.closeTimerExpiry 120) (after (.fragReception (part 120 2 0 false 16)) collector)
    t.build.builds.map (fun b => (b.state, b.cause)) = [(.delivering, some .timeout)]
      ∧ t.build.builds.map (fun b => b.contributions.map (·.state)) = [[.partly, .unheard, .unheard]] := by
  decide +kernel

/-! ## DAT -/

/-- A station with a TAKE, a SKIP and a ROLL pending on an idle DAT. -/
def pendingFrames : State :=
  { slipped with frames := { slipped.frames with
      dat := .idle
      queue := { slipped.frames.queue with
        skip := some (.fresh { skipOf 30 5 0 with sender := 9 }), roll := some (.fresh (rollOf 9 .echo 20)) } } }

/-- The same station with its TAKE on the wire. -/
def onTheWire : State := after .contentionStart pendingFrames

theorem test_datIdle :
    (after .datIdle { slipped with frames := { slipped.frames with dat := .busy } }).frames.dat = .idle := by
  decide +kernel

theorem test_contentionStart :
    onTheWire.frames.queue.onWire = some (.take { number := 20, sender := 9, time := 1003000 })
      ∧ onTheWire.frames.dat = .inFrame := by decide +kernel

theorem test_lostContention :
    (after .lostContention onTheWire).frames.queue = pendingFrames.frames.queue
      ∧ (after .lostContention onTheWire).frames.failures = 0 := by decide +kernel

theorem test_frameAbandoned :
    let t := after .frameAbandoned onTheWire
    t.frames.failures = 1 ∧ t.count .txRetries = 1 ∧ t.frames.dat = .abandoned := by decide +kernel

/-- The abandonment that brings the count to 8. -/
theorem test_frameAbandoned_eighth :
    let t := after .frameAbandoned { onTheWire with frames := { onTheWire.frames with failures := 7 } }
    t.start.station = .mute ∧ t.frames.queue = Queue.empty
      ∧ t.insp.faults.first.map (fun f => (f.code, f.context)) = some (.trunkDrive, 20) := by decide +kernel

theorem test_badFrame :
    (after (.badFrame [1, 2, 3]) slipped).count .badFrames = 1
      ∧ (after (.badFrame ([0xE0, 0, 0, 0, 0] ++ crcBytes [0xE0, 0, 0, 0, 0])) slipped).count .malformed = 1 := by
  decide +kernel

/-! ## Inspection and time -/

theorem test_clearCounters : (after .clearCounters captured).count .suppressed = 0 := by decide +kernel

theorem test_ackFault :
    (after .ackFault (captured.raise .silenced 88)).insp.faults = FaultRecord.empty := by decide +kernel

/-- Section 11.8, fourth row: fault set bits 1, 2 and 6, first code 2, further 2. -/
theorem test_faultsRead :
    let s := ((captured.raise .imageAdjusted 0).raise .lineProhibited 0).raise .silenced 88
    (after .faultsRead s).insp.taken = 0x00022046 ∧ (after .faultsRead s).insp.ext.faultTimeLo = 1003000 := by
  decide +kernel

theorem test_inspectionWriteOther :
    (after (.inspectionWriteOther 0x40 39) captured).count .suppressed = 1
      ∧ (after (.inspectionWriteOther 0x40 40) captured).count .suppressed = 0 := by decide +kernel

/-- Section 1.10: 1 record, 1021 free entries, CAPTURING, the window reason standing. -/
theorem test_storeRead :
    (after .storeRead captured).insp.taken = BitVec.ofNat 32 (1 + 1021 * 2 ^ 6 + 2 ^ 19 + 2 ^ 20)
      ∧ (after .storeRead captured).insp.ext.storeHead = 41 := by decide +kernel

theorem test_takesRead :
    (after .takesRead slipped).insp.taken = BitVec.ofNat 32 (2 ^ 7)
      ∧ (after .takesRead slipped).insp.ext.takesEvn = 21 ∧ (after .takesRead slipped).insp.ext.takesHigh = 19 := by
  decide +kernel

/-- Section 5.7: one build, DELIVERING, 4060 free entries. -/
theorem test_buildsRead :
    (after .buildsRead delivering).insp.taken = BitVec.ofNat 32 (1 + 4060 * 2 ^ 4 + 2 * 2 ^ 17)
      ∧ (after .buildsRead delivering).insp.ext.buildsHead = 120
      ∧ (after .buildsRead delivering).insp.ext.buildsLast = 119 := by decide +kernel

theorem test_timeLoRead :
    let t := after .timeLoRead { collector with time := { counter := 0x000512345678, state := .set } }
    t.insp.taken = 0x12345678 ∧ t.insp.ext.timeHi = 0x80000005 ∧ t.windowWord 0x0F = 0x80000005 := by decide +kernel

theorem test_rosterRead :
    (after (.rosterRead 5) collector).insp.taken = BitVec.ofNat 32 (2 + 8 * 2 ^ 4)
      ∧ (after (.rosterRead 5) collector).insp.ext.rosterMark = 119 := by decide +kernel

theorem test_tick :
    let s := { captured with time := { counter := 0xFFFFFFFFFFFF, state := .set } }
    (after .tick s).time.counter = 0 ∧ (after .tick s).store.window = some 399 := by decide +kernel

theorem test_step_idles_and_takes_the_front :
    step State.reset = .next State.reset
      ∧ (match step { slipped with pending := [.clearCounters, .tick] } with
          | .next t => t.pending = [.tick]
          | .fault _ => False
          | .refused _ => False) := by
  refine ⟨rfl, ?_⟩
  simp only [step]
  rfl

/-! ## Premises: for each statement with hypotheses a state and operands that meet them together -/

/-- A HALTED and a MUTE station with nothing in their blocks, and a RUNNING one. -/
theorem test_EveryCommandCompletes_premises :
    ([(loading .acquirer).halt, (loading .acquirer).enterMute, draining].all fun s =>
      decide s.ResetHeld && decide s.UnloadedQuiet && decide s.RestartQuiet && decide s.StartQuiet
        && decide s.StateQuiet && decide s.RoleQuiet && decide s.TimersInPlace && decide s.LineInPlace
        && decide (s.pins.rst = false)) = true
      ∧ (loading .acquirer).halt.ReadsInLoading ∧ draining.ReadsInLoading ∧ Instr.tick ≠ .rstAssert := by
  decide +kernel

theorem test_RstReleaseSamplesStraps_premises :
    State.reset.pins.rst = true ∧ (acquirer 2).pins.rst = false := by decide +kernel

/-- A station whose second read is under way. -/
def secondRead : State :=
  { loading .acquirer with start := { (loading .acquirer).start with imagePort := .secondRead } }

theorem test_BadImageIsRereadOrHalts_premises :
    (loading .acquirer).pins.rst = false
      ∧ ((loading .acquirer).start.imagePort = .firstRead ∧ imageCheck [] = false)
      ∧ (secondRead.start.imagePort = .secondRead ∧ imageCheck [] = false)
      ∧ ((loading .acquirer).start.imagePort ≠ .idle ∧ imageCheck (imageBytes 50 0x15 0) = true
        ∧ imageInRange (imageBytes 50 0x15 0) = false)
      ∧ (acquirer 2).start.imagePort = .idle := by
  refine ⟨rfl, by decide +kernel, by decide +kernel,
    ⟨by decide +kernel, test_imageBytes_check .., by decide +kernel⟩, rfl⟩

/-- Of GoodImageLoads and of ShortTurnIsRaisedAndFaultsComeInOrder. At the bounds of R173: TURN 100 µs is too short
for CAPWIN 8 µs, 110 µs is long enough. -/
theorem test_GoodImageLoads_premises :
    (loading .acquirer).pins.rst = false ∧ (loading .acquirer).start.imagePort ≠ .idle
      ∧ imageCheck (imageBytes 10 0x15 2) = true ∧ imageInRange (imageBytes 10 0x15 2) = true
      ∧ imageCheck (imageBytes 11 0x3F 7) = true ∧ imageInRange (imageBytes 11 0x3F 7) = true
      ∧ 10 * ((imageBytes 10 0x15 2).getD 2 0).toNat ≤ 8 + 100
      ∧ 8 + 100 < 10 * ((imageBytes 11 0x3F 7).getD 2 0).toNat := by
  refine ⟨rfl, by decide +kernel, test_imageBytes_check .., by decide +kernel, test_imageBytes_check ..,
    by decide +kernel, by decide +kernel, by decide +kernel⟩

/-- A LISTENING collector with the mute attribute. -/
def muteListener : State :=
  let s := station .listening .collector 14
  { s with start := { s.start with listenTimer := some 100, muteAttr := true } }

/-- Both are stations whose blocks hold what their state and role allow. -/
theorem test_ListeningEnds_coherent : listening.Coherent ∧ muteListener.Coherent := by
  refine ⟨⟨?_, ?_, ?_, ?_, ?_, ?_, ?_, ?_, ?_⟩, ?_, ?_, ?_, ?_, ?_, ?_, ?_, ?_, ?_⟩ <;> decide +kernel

theorem test_ListeningEnds_premises :
    ([(listening, Frame.roll (rollOf 2 .call 0)), (listening, .take (takeA 1)),
        (muteListener, .roll (rollOf 2 .call 0)), (muteListener, .skip (skipOf 30 5 0))].all fun x =>
      decide (x.1.pins.rst = false ∧ x.1.start.station = .listening ∧ x.1.start.listenTimer.isSome = true
        ∧ x.1.Hears x.2 ∧ x.1.Foreign x.2)) = true
      ∧ (station .listening .acquirer 9).start.listenTimer = none := by decide +kernel

theorem test_EpochStartsNumbering_premises :
    (rollcall.pins.rst = false ∧ rollcall.start.station = .rollcall ∧ rollcall.start.rollTimer.isSome = true
        ∧ rollcall.readsHld true = true ∧ rollcall.start.rollMet = false)
      ∧ (after (.rollTimerExpiry true) rollcall).start.rollMet = true
      ∧ ({ rollcall with config := { image with hld := .listen } } : State).readsHld false = false := by
  decide +kernel

/-- A station with 1024 samples stored and a CAPTURING record. -/
def fullStore : State :=
  { capturing with store := { capturing.store with
      records := (List.range 16).map (fun n => record (n + 1) 64) ++ [newRecord 41 1003000] } }

/-- One witness for each row of R4's table. -/
theorem test_SamplesAreFiltered_premises :
    (collector.isCollector = true ∧ State.reset.pins.rst = true ∧ (station .loading .acquirer 2).unloaded = true)
      ∧ (capturing.isAcquirer = true ∧ capturing.unloaded = false ∧ (acquirer 2).store.window = none
        ∧ capturing.store.window.isSome = true ∧ capturing.store.capturing.isSome = true)
      ∧ (capturing.config.channelEnable.getLsbD 9 = false ∧ capturing.config.channelEnable.getLsbD 7 = true)
      ∧ ((capturing.config.thresholds.getD 5 0).toNat = 200 ∧ (capturing.config.thresholds.getD 4 0).toNat = 0)
      ∧ (fullStore.store.records.map fun q => q.samples.length).sum = 1024 := by decide +kernel

/-- The own turn for 30 is open over a CAPTURING record, with nothing offered. -/
def capturingInTurn : State :=
  let s := { draining with store := { window := some 1, records := [newRecord 30 0] } }
  after (.fragReception (part 30 2 0 true 5))
    { s with frames := { s.frames with queue := { s.frames.queue with frag := none } } }

theorem test_WindowExpiryEndsCapture_premises :
    (captured.pins.rst = false ∧ captured.store.window.isSome = true ∧ captured.ownTurn = none)
      ∧ capturingInTurn.store.window.isSome = true ∧ capturingInTurn.ownTurn = some 30
      ∧ (capturingInTurn.record? 30).map (·.state) = some .capturing
      ∧ capturingInTurn.frames.queue.frag = none := by decide +kernel

/-- Section 3.4's station B with its part of 30 offered, and a CAPTURING record 33 behind it. -/
def capturingBehind : State :=
  let s := after (.fragReception (part 30 2 0 true 5)) draining
  { s with store := { window := some 1, records := s.store.records ++ [newRecord 33 0] } }

/-- The own turn is open for 30, whose part is offered; the expiry makes record 33 READY. -/
theorem test_WindowExpiryEndsCapture_otherTurn :
    (capturingBehind.pins.rst = false ∧ capturingBehind.store.window.isSome = true ∧ capturingBehind.OfferInv
        ∧ capturingBehind.ownTurn = some 30 ∧ (capturingBehind.record? 30).map (·.state) = some .sending)
      ∧ (after .captureWindowExpiry capturingBehind).store.records.map (·.state)
        = [.sending, .ready, .ready, .ready] := by decide +kernel

/-- Four pending entries. -/
def fullPending : State :=
  { slipped with agree := { slipped.agree with
      evn := 24, pendingTakes := [20, 21, 22, 23].map fun n => { number := n, edgeTime := 0 } } }

theorem test_TriggerEdgeIsDecided_premises :
    ((acquirer 2).pins.rst = false ∧ (acquirer 2).unloaded = false ∧ (acquirer 2).trig.level = false)
      ∧ detecting.trig.level = true ∧ collector.pins.role ≠ .acquirer
      ∧ (acquirer 2).readsHld true = true ∧ fullPending.agree.pendingTakes.length = 4
      ∧ ((acquirer 2).pins.role = .acquirer ∧ (acquirer 2).start.station = .running
        ∧ (acquirer 2).readsHld false = false ∧ (acquirer 2).agree.exhausted = false
        ∧ (acquirer 2).agree.pendingTakes.length < 4) := by decide +kernel

/-- 32 records, and the last number to give; HLD stays released with a LISTEN personality. -/
def fullRecords : State :=
  { acquirer 2 with
    config := { image with hld := .listen }
    agree := { (acquirer 2).agree with evn := maxEvent }
    store := { window := none, records := (List.range 32).map fun n => record (n + 1) 0 } }

theorem test_AcceptedEdgeHasFiveEffects_premises :
    ([acquirer 2, fullRecords].all fun s => decide (s.pins.rst = false ∧ s.trig.level = false ∧ s.isAcquirer = true
        ∧ s.start.station = .running ∧ s.readsHld false = false ∧ s.agree.exhausted = false
        ∧ s.agree.pendingTakes.length < 4)) = true
      ∧ (acquirer 2).store.records.length < 32 ∧ 32 ≤ fullRecords.store.records.length
      ∧ fullRecords.agree.evn = maxEvent := by decide +kernel

theorem test_LocalRequestTable_premises :
    collector.pins.role = .collector ∧ (station .halted .acquirer 2).start.station = .halted
      ∧ collector.pins.rst = false ∧ (acquirer 2).pins.role = .acquirer
      ∧ (acquirer 2).start.station ≠ .halted := by decide +kernel

theorem test_RestartTrunkTableAndPulses_premises :
    (acquirer 2).pins.rst = false ∧ (acquirer 2).trig.restartPulse = none ∧ (acquirer 2).trig.normalPulse = none := by
  decide +kernel

theorem test_DetectionEmptiesEveryBlock_premises :
    (acquirer 2).pins.rst = false ∧ (acquirer 2).trig.detector = none ∧ detecting.trig.detector.isSome = true
      ∧ detecting.port.state.cursor = none ∧ delivering.port.state.cursor = some 0
      ∧ (after (.triggerEdge false) delivering).trig.detector.isSome = true := by decide +kernel

theorem test_TrgReleaseEndsRestart_premises :
    (restarting.pins.rst = false ∧ restarting.unloaded = false ∧ restarting.drivesTrg = false
        ∧ restarting.trig.restarting = true ∧ restarting.start.station ≠ .mute)
      ∧ detecting.trig.restarting = false ∧ (station .mute .acquirer 2).start.station = .mute := by decide +kernel

/-- A full take list. -/
def fullList : State :=
  { acquirer 5 with agree := { (acquirer 5).agree with
      highTake := 84, takeList := (List.range 64).map fun n => { number := n + 21, time := none } } }

theorem test_TakeListSteps_premises :
    ([slipped, fullList].all fun s => decide (s.Hears (.take (takeA 85)) ∧ s.NoClash (.take (takeA 85))
        ∧ s.tracks = true)) = true
      ∧ fullList.listed 84 = true ∧ (fullList.listed 20 = false ∧ 20 ≤ fullList.agree.highTake)
      ∧ (fullList.listed 85 = false ∧ fullList.agree.highTake < 85 ∧ 64 ≤ fullList.agree.takeList.length)
      ∧ (slipped.listed 20 = false ∧ slipped.agree.highTake < 20 ∧ slipped.agree.takeList.length < 64) := by
  decide +kernel

/-- R33: a full list with the reason standing, in RUNNING and in a JOINING station, which matches nothing. -/
theorem test_TakeListSteps_standing :
    let s := { fullList with agree := { fullList.agree with listFull := true } }
    let j := { fullList with start := { fullList.start with station := .joining } }
    (s.Hears (.take (takeA 85)) ∧ s.NoClash (.take (takeA 85)) ∧ s.tracks = true ∧ s.agree.listFull = true
        ∧ (after (.takeReception (takeA 85)) s).agree.exhausted = false
        ∧ (after (.takeReception (takeA 85)) s).faultPin = false)
      ∧ (j.Hears (.take (takeA 85)) ∧ j.tracks = true ∧ j.matches = false
        ∧ (after (.takeReception (takeA 85)) j).insp.faults.first.map (fun f => (f.code, f.context))
          = some (.takeListFull, 85)) := by decide +kernel

/-- R98: a TAKE for 120 fills its NO_TIME entry and the OPEN build with it. -/
def untimed : State :=
  { collector with
    agree := { collector.agree with takeList := [{ number := 120, time := none }] }
    build := { collector.build with builds := [collector.newBuild 120 none] } }

theorem test_TakeListSteps_builds :
    (untimed.Hears (.take (takeA 120)) ∧ untimed.NoClash (.take (takeA 120)) ∧ untimed.tracks = true)
      ∧ (untimed.takeTime 120 = none ∧ untimed.listed 120 = true)
      ∧ (after (.takeReception (takeA 120)) untimed).build.builds.map (·.time) = [some 1003000] := by decide +kernel

theorem test_TakeAnswersOldestPending_premises :
    slipped.Hears (.take (takeA 20)) ∧ slipped.NoClash (.take (takeA 20)) ∧ slipped.matches = true
      ∧ slipped.listed 20 = false ∧ slipped.agree.highTake < 20
      ∧ slipped.agree.pendingTakes.head?.map (·.number) = some 20 := by decide +kernel

theorem test_TakeRenumbersPending_premises :
    slipped.Hears (.take (takeA 21)) ∧ slipped.NoClash (.take (takeA 21)) ∧ slipped.matches = true
      ∧ slipped.listed 21 = false ∧ slipped.agree.highTake < 21
      ∧ (∀ p ∈ slipped.agree.pendingTakes.head?, p.number ≠ 21) ∧ slipped.agree.pendingTakes.head?.isSome = true := by
  decide +kernel

/-- The two clauses on the record and on the pair: no answered record of the number, and both time states. -/
theorem test_TakeRenumbersPending_record :
    (∀ q ∈ slipped.store.records, q.answered = true → q.number ≠ 21)
      ∧ (slipped.store.records.find? (fun q : Record => q.number = 20 && !q.answered)).isSome = true
      ∧ slipped.time.state = .set ∧ { slipped.time with state := .unset }.state = .unset
      ∧ (after (.takeReception (takeA 21)) slipped).frames.queue.takes = [] := by decide +kernel

theorem test_TakeCatchesUp_premises :
    let s := acquirer 9
    s.Hears (.take (takeA 20)) ∧ s.NoClash (.take (takeA 20)) ∧ s.matches = true ∧ s.listed 20 = false
      ∧ s.agree.highTake < 20 ∧ s.agree.pendingTakes = [] ∧ s.agree.exhausted = false ∧ s.agree.evn ≤ 20
      ∧ s.Hears (.take (takeA 4294967295)) ∧ s.agree.evn ≤ maxEvent := by decide +kernel

/-- The station's own part for 30 on the wire, its record SENDING. -/
def sendingOwn : State :=
  let s := after (.fragReception (part 30 2 0 true 5)) draining
  after .contentionStart { s with frames := { s.frames with dat := .idle } }

/-- The part it sends. -/
def ownPart : FragFrame := { part 30 5 0 true 10 with samples := (record 30 10).samples }

theorem test_FinalPartMovesMarks_premises :
    (draining.Hears (.frag (part 30 2 0 true 5)) ∧ draining.NoClash (.frag (part 30 2 0 true 5))
        ∧ draining.tracks = true ∧ draining.isMember 2 = true ∧ draining.heeds 2 = true ∧ draining.mark 2 < 30
        ∧ draining.isOwn (.frag (part 30 2 0 true 5)) = false)
      ∧ sendingOwn.Hears (.frag ownPart) ∧ sendingOwn.isOwn (.frag ownPart) = true ∧ sendingOwn.heeds 5 = true
      ∧ sendingOwn.mark 5 < 30 ∧ (sendingOwn.record? 30).map (·.state) = some .sending := by decide +kernel

/-- The station's own LOST part on the wire, with no record. -/
theorem test_FinalPartMovesMarks_lost_premises :
    let s := sendingFrag (lost 30 5) { draining with store := Store.empty }
    s.Hears (.frag (lost 30 5)) ∧ s.isOwn (.frag (lost 30 5)) = true ∧ s.heeds 5 = true ∧ s.mark 5 < 30
      ∧ s.record? 30 = none := by decide +kernel

/-- An ABSENT sender; and an event that the part implies, next to one that stands in the list. -/
theorem test_FinalPartMovesMarks_learned_premises :
    (draining.Hears (.frag (part 30 7 0 true 5)) ∧ draining.NoClash (.frag (part 30 7 0 true 5))
        ∧ (draining.entry 7).state = .absent ∧ draining.heeds 7 = true ∧ draining.mark 7 < 30)
      ∧ draining.Implies 33 ∧ ¬ draining.Implies 32 ∧ ascending (draining.agree.takeList.map (·.number))
      ∧ draining.Hears (.frag (part 33 2 0 true 5)) ∧ draining.mark 2 < 33 := by decide +kernel

theorem test_NonFinalPartCountsAndRestarts_premises :
    let f := part 30 2 0 false 16
    let g := part 30 5 0 false 10
    let s := sendingFrag g { draining with store := { window := none, records :=
      [{ record 30 20 with state := .sending }] } }
    (draining.Hears (.frag f) ∧ draining.NoClash (.frag f) ∧ draining.tracks = true ∧ draining.TimerInv
        ∧ draining.heeds 2 = true ∧ draining.mark 2 < 30)
      ∧ (s.Hears (.frag g) ∧ s.isOwn (.frag g) = true ∧ s.TimerInv ∧ s.heeds 5 = true ∧ s.mark 5 < 30
        ∧ (s.record? 30).map (·.state) = some .sending)
      ∧ (draining.Hears (.frag (part 30 7 0 false 16)) ∧ (draining.entry 7).state = .absent
          ∧ draining.heeds 7 = true) := by
  decide +kernel

/-- The station's own part for 29 on the wire, late, with a SENDING record. -/
def lateOwn (last : Bool) : State :=
  sendingFrag (part 29 5 0 last 10) { draining with store := { window := none, records :=
    [{ record 29 20 with state := .sending }] } }

theorem test_LatePartsAndSkipsMoveNothing_premises :
    (draining.tracks = true ∧ draining.Hears (.frag (part 29 2 0 true 5))
        ∧ draining.NoClash (.frag (part 29 2 0 true 5)) ∧ draining.isMember 2 = true ∧ 29 ≤ draining.mark 2
        ∧ draining.isOwn (.frag (part 29 2 0 true 5)) = false)
      ∧ ([true, false].all fun last => decide ((lateOwn last).Hears (.frag (part 29 5 0 last 10))
        ∧ (lateOwn last).isOwn (.frag (part 29 5 0 last 10)) = true ∧ (lateOwn last).isMember 5 = true
        ∧ 29 ≤ (lateOwn last).mark 5 ∧ ((lateOwn last).record? 29).map (·.state) = some .sending)) = true
      ∧ (draining.Hears (.skip (skipOf 29 9 0)) ∧ draining.NoClash (.skip (skipOf 29 9 0))
        ∧ draining.isMember 9 = true ∧ 29 ≤ draining.mark 9)
      ∧ (let s := draining.setEntry 9 { member 29 with state := .silent }
        s.Hears (.skip (skipOf 30 9 0)) ∧ s.NoClash (.skip (skipOf 30 9 0)) ∧ s.heeds 9 = false) := by decide +kernel

/-- R55, R94: a SILENT sender at an acquirer, a MISMATCHED one at a collector, and one whose role is COLLECTOR. -/
theorem test_LatePartsAndSkipsMoveNothing_outside :
    ([(draining, EntryState.silent, Role.acquirer), (collector, .mismatched, .acquirer),
        (collector, .silent, .collector)].all fun x =>
      let s := x.1.setEntry 9 { member 29 with state := x.2.1, role := some x.2.2 }
      decide (s.tracks = true ∧ s.Hears (.frag (part 120 9 0 true 5)) ∧ s.NoClash (.frag (part 120 9 0 true 5))
        ∧ s.heeds 9 = false ∧ s.isOwn (.frag (part 120 9 0 true 5)) = false ∧ s.TableInv
        ∧ (s.builds = false ∨ (s.entry 9).state ≠ .silent ∧ (s.entry 9).state ≠ .calling
          ∨ (s.entry 9).role = some .collector))) = true ∧ draining.TimerInv := by decide +kernel

/-- A part from a collector's own ABSENT address, and a late part from a MUTE acquirer's own address (log 37). -/
theorem test_LatePartsAndSkipsMoveNothing_ownAddress :
    let s := { collector with start := { collector.start with muteAttr := true } }
    let f := part 120 14 0 true 4
    let m := trunk 29 29 29 (station .mute .acquirer 5)
    let g := part 29 5 0 true 4
    (s.tracks = true ∧ s.Hears (.frag f) ∧ s.NoClash (.frag f) ∧ s.isOwn (.frag f) = false ∧ s.heeds 14 = false
        ∧ f.sender = s.pins.address ∧ (s.entry 14).state = .absent ∧ s.TableInv)
      ∧ (m.tracks = true ∧ m.Hears (.frag g) ∧ m.NoClash (.frag g) ∧ m.isOwn (.frag g) = false
        ∧ m.isMember 5 = true ∧ g.sender = m.pins.address ∧ g.number.toNat ≤ m.mark 5) := by decide +kernel

theorem test_SkipTakesEffect_premises :
    ([(9 : Addr), 7].all fun m => decide (draining.Hears (.skip (skipOf 30 m 0))
        ∧ draining.NoClash (.skip (skipOf 30 m 0)) ∧ draining.tracks = true ∧ draining.heeds m = true
        ∧ draining.mark m < 30 ∧ m ≠ draining.pins.address)) = true
      ∧ draining.isMember 9 = true ∧ (draining.entry 7).state = .absent := by decide +kernel

/-- R38: an implied take that the full list refuses raises TAKE_LIST_FULL with its number. -/
theorem test_refused_implied_take :
    let s := after (.skipReception (skipOf 85 9 0)) fullList
    s.insp.faults.first.map (fun f => (f.code, f.context)) = some (.takeListFull, 85) ∧ s.agree.highTake = 84 := by
  decide +kernel

/-- Section 3.4's station B with its own SKIP on the wire. -/
def skippingOnWire : State :=
  let s := after .turnTimerExpiry draining
  { s with frames := { s.frames with queue := s.frames.queue.driveSelected } }

/-- The own SKIP received back, and another station's for the same subject while it waits (R61, R62, R139). -/
theorem test_SkipTakesEffect_withdraws :
    let s := after .turnTimerExpiry draining
    let k := { skipOf 30 2 0 with sender := 5, reason := .noStart }
    let j := { skipOf 30 2 0 with sender := 9 }
    (skippingOnWire.SkipInv ∧ skippingOnWire.Hears (.skip k) ∧ skippingOnWire.isOwn (.skip k) = true
        ∧ skippingOnWire.tracks = true ∧ skippingOnWire.heeds 2 = true ∧ skippingOnWire.mark 2 < 30)
      ∧ (s.SkipInv ∧ s.turn.timer = .skipping 2 30 ∧ s.Hears (.skip j) ∧ s.Foreign (.skip j))
      ∧ (after (.skipReception k) skippingOnWire).frames.queue.skip = none
      ∧ (after (.skipReception k) skippingOnWire).count .skipsSent = 1
      ∧ (after (.skipReception j) s).frames.queue.skip = none := by decide +kernel

theorem test_OwnSkipDropsAndSilences_premises :
    let s := draining.setEntry 5 { member 29 with misses := 1 }
    (draining.Hears (.skip (skipOf 30 5 0)) ∧ draining.Foreign (.skip (skipOf 30 5 0)) ∧ draining.isAcquirer = true
        ∧ draining.start.station = .running ∧ draining.pins.address = 5 ∧ draining.isMember 5 = true
        ∧ draining.mark 5 < 30 ∧ draining.ownEntry.misses + 1 < draining.config.misslim)
      ∧ (s.Hears (.skip (skipOf 30 5 0)) ∧ s.isMember 5 = true ∧ s.config.misslim ≤ s.ownEntry.misses + 1) := by
  decide +kernel

/-- A MUTE acquirer, one miss below MISSLIM, skipped. -/
def muted : State :=
  (trunk 29 29 29 (station .mute .acquirer 5)).setEntry 5 { member 29 with misses := 1 }

theorem test_OwnSkipDropsAndSilences_muted :
    (muted.Coherent ∧ muted.start.station = .mute ∧ muted.isAcquirer = true)
      ∧ (muted.Hears (.skip (skipOf 30 5 0)) ∧ muted.Foreign (.skip (skipOf 30 5 0)) ∧ muted.pins.address = 5
        ∧ muted.isMember 5 = true ∧ muted.mark 5 < 30 ∧ muted.config.misslim ≤ muted.ownEntry.misses + 1
        ∧ muted.agree.takeList.length < 64) := by
  refine ⟨⟨⟨?_, ?_, ?_, ?_, ?_, ?_, ?_, ?_, ?_⟩, ?_, ?_⟩, ?_⟩ <;> decide +kernel

theorem test_TurnTimerExpiryOffersSkip_premises :
    draining.pins.rst = false ∧ draining.turn.timer = .running 2 30 25000
      ∧ ∀ x ∈ (acquirer 2).turn.timer.bound, (acquirer 2).turn.timer = .skipping x.1 x.2 := by decide +kernel

theorem test_RollOfAnotherStation_premises :
    ([RollMode.call, .join, .echo].all fun m => decide (draining.Hears (.roll (rollOf 9 m 33))
        ∧ draining.Foreign (.roll (rollOf 9 m 33)) ∧ draining.tracks = true
        ∧ (rollOf 9 m 33).signature = draining.config.signature)) = true
      ∧ draining.start.station = .running ∧ draining.start.muteAttr = false
      ∧ draining.frames.queue.roll.bind Place.leaveUnsent = none
      ∧ (station .joining .acquirer 5).start.station = .joining := by decide +kernel

/-- R103, R106: a CALL of the one member still awaited leaves it NOT_EXPECTED, and the build closes. -/
theorem test_RollOfAnotherStation_builds :
    let s := trunk 120 120 119 { collector with
      build := { collector.build with builds := [collector.newBuild 120 none] } }
    s.TableInv ∧ s.Hears (.roll (rollOf 9 .call 0)) ∧ s.Foreign (.roll (rollOf 9 .call 0)) ∧ s.tracks = true
      ∧ ((after (.rollReception (rollOf 9 .call 0)) s).build.builds.map fun b =>
        (b.cause, b.contributions.map (·.state))) = [(some .complete, [.unheard, .unheard, .notExpected])] := by
  decide +kernel

/-- A JOINING station with its own JOIN on the wire. -/
def joiner (role : Role) (field : BitVec 32) : State :=
  sendingRoll { rollOf 5 .join field with role := role } (station .joining role 5)

theorem test_OwnJoinEntersRunning_premises :
    ([(Role.acquirer, 33), (.acquirer, 0), (.collector, 33)].all fun x =>
      let f := { rollOf 5 .join x.2 with role := x.1 }
      decide ((joiner x.1 x.2).Hears (.roll f) ∧ (joiner x.1 x.2).isOwn (.roll f) = true ∧ f.mode = .join
        ∧ (joiner x.1 x.2).tracks = true
        ∧ (joiner x.1 x.2).start.station = .joining ∧ (joiner x.1 x.2).agree.exhausted = false)) = true := by
  decide +kernel

/-- A RUNNING station's own ECHO and own JOIN; each leaves the ROLL place, an offer kept behind it (R139). -/
theorem test_OwnJoinEntersRunning_running :
    ([RollMode.echo, .join].all fun m =>
      let s := sendingRoll (rollOf 5 m 33) draining
      let kept : Place RollFrame := { frame := rollOf 5 m 33, onWire := true, kept := .offer (rollOf 5 .echo 33) }
      let u := s.setQueue { s.frames.queue with roll := some kept }
      decide (s.Hears (.roll (rollOf 5 m 33)) ∧ s.isOwn (.roll (rollOf 5 m 33)) = true ∧ s.tracks = true
        ∧ s.start.station = .running ∧ (s.entry 5).state = .present ∧ u.isOwn (.roll (rollOf 5 m 33)) = true
        ∧ (after (.rollReception (rollOf 5 m 33)) s).frames.queue.roll = none
        ∧ (after (.rollReception (rollOf 5 m 33)) u).frames.queue.roll.map (fun p => p.frame.mode)
          = some .echo)) = true := by
  decide +kernel

theorem test_DifferingSignatureMismatches_premises :
    let f := { rollOf 9 .join 33 with signature := 7 }
    let s := draining.setEntry 9 { member 29 with state := .mismatched }
    (draining.Hears (.roll f) ∧ draining.Foreign (.roll f) ∧ draining.tracks = true
        ∧ f.signature ≠ draining.config.signature ∧ (draining.entry 9).state ≠ .mismatched)
      ∧ (s.Hears (.roll f) ∧ (s.entry 9).state = .mismatched)
      ∧ (rollcall.Foreign (.roll { f with sender := 2 }) ∧ rollcall.Hears (.roll { f with sender := 2 })
        ∧ rollcall.start.station = .rollcall ∧ f.mode ≠ .echo)
      ∧ (rollcall.Foreign (.roll { f with sender := 2, mode := .echo })
        ∧ rollcall.Hears (.roll { f with sender := 2, mode := .echo }) ∧ f.signature ≠ rollcall.config.signature
        ∧ rollcall.start.muteAttr = false)
      ∧ (draining.Hears (.roll { f with mode := .call }) ∧ draining.start.station = .running
        ∧ draining.start.muteAttr = false ∧ draining.frames.queue.roll.bind Place.leaveUnsent = none) := by
  decide +kernel

/-- A collector with the mute attribute hears an ECHO at its own address: one fault, and its own entry stays. -/
theorem test_DifferingSignatureMismatches_ownAddress :
    let f := { rollOf 14 .echo 33 with signature := 7 }
    ([StationState.running, .rollcall].all fun st =>
      let s := station st .collector 14
      let s := { s with start := { s.start with muteAttr := true } }
      decide (s.Hears (.roll f) ∧ s.isOwn (.roll f) = false ∧ f.sender = s.pins.address ∧ s.isCollector = true
        ∧ s.start.muteAttr = true ∧ (s.tracks = true ∨ s.start.station = .rollcall)
        ∧ f.signature ≠ s.config.signature ∧ (s.entry 14).state ≠ .mismatched ∧ s.TableInv
        ∧ (after (.rollReception f) s).insp.faults.further = 0
        ∧ (after (.rollReception f) s).faultPin = true
        ∧ (after (.rollReception f) s).ownEntry = s.ownEntry)) = true := by
  decide +kernel

theorem test_RollcallTakesRollFrames_premises :
    let s := sendingRoll (rollOf 9 .call 0) rollcall
    ([(s, RollMode.call, (9 : Addr)), (rollcall, .call, 2), (rollcall, .join, 2), (rollcall, .echo, 2)].all fun x =>
      decide (x.1.Hears (.roll (rollOf x.2.2 x.2.1 0)) ∧ x.1.NoClash (.roll (rollOf x.2.2 x.2.1 0))
        ∧ x.1.start.station = .rollcall ∧ (rollOf x.2.2 x.2.1 0).signature = x.1.config.signature
        ∧ x.1.agree = Agreement.blank)) = true
      ∧ s.isOwn (.roll (rollOf 9 .call 0)) = true ∧ rollcall.isOwn (.roll (rollOf 2 .echo 0)) = false := by
  decide +kernel

/-- A TAKE, a FRAG part and a SKIP in ROLLCALL. -/
theorem test_RollcallTakesRollFrames_others :
    ([Frame.take (takeA 1), .frag (part 1 2 0 true 4), .skip (skipOf 1 5 0)].all fun g =>
      decide (rollcall.Hears g ∧ rollcall.NoClash g ∧ g.isRoll = false ∧ rollcall.start.station = .rollcall
        ∧ rollcall.agree = Agreement.blank ∧ rollcall.Emptied
        ∧ (after g.reception rollcall).roster = rollcall.roster)) = true := by decide +kernel

theorem test_AddressClashMutes_premises :
    ([(acquirer 2, takeA 20), (collector, { takeA 20 with sender := 14 })].all fun x =>
      decide (x.1.Hears (.take x.2) ∧ x.1.isOwn (.take x.2) = false
        ∧ frameSender (.take x.2) = x.1.pins.address ∧ x.1.detectsClash = true
        ∧ x.1.insp.faults.first = none ∧ x.1.RosterInv)) = true
      ∧ collector.isCollector = true ∧ collector.start.station = .running := by decide +kernel

/-- A collector in ROLLCALL whose CALL has not come back hears its own address in a TAKE, a part and a JOIN (R180). -/
theorem test_AddressClashMutes_rollcall :
    ([Frame.take { takeA 1 with sender := 14 }, .frag (part 1 14 0 true 4), .roll (rollOf 14 .join 1)].all fun g =>
      let s := after .listenTimerExpiry { muteListener with start := { muteListener.start with muteAttr := false } }
      decide (s.takesFrame = true ∧ frameValid g = true ∧ s.isOwn g = false ∧ frameSender g = s.pins.address
        ∧ s.detectsClash = true ∧ s.isCollector = true ∧ s.start.station = .rollcall ∧ s.start.rollTimer = none
        ∧ s.start.rollMet = false ∧ g.isEcho = false
        ∧ (after g.reception s).start.rollTimer = some 1000000)) = true := by decide +kernel

/-- A restarting collector in ROLLCALL. -/
def restartingCollector : State :=
  after .datIdle ((after .trunkRestartDetection (after (.triggerEdge false) collector)).setStation .rollcall)

/-- A frame at its own address is a clash, also while restarting (R86, R147), and starts its roll timer (R180, log 15).
-/
theorem test_AddressClashMutes_restartingCollector :
    let s := restartingCollector
    let f := { takeA 20 with sender := 14 }
    (s.trig.restarting = true ∧ s.takesFrame = true ∧ frameValid (.take f) = true ∧ s.isOwn (.take f) = false
        ∧ frameSender (.take f) = s.pins.address ∧ s.detectsClash = true ∧ s.isCollector = true
        ∧ s.start.rollTimer = none ∧ s.start.rollMet = false)
      ∧ (after (.takeReception f) s).start.rollTimer = some 1000000
      ∧ (after (.takeReception f) s).faultPin = true := by decide +kernel

/-- So it is in a restarting acquirer, which has no owner for another station's frame (R163). -/
theorem test_AddressClashMutes_restartingAcquirer :
    let s := after .datIdle restarting
    let g := { takeA 20 with sender := 9 }
    (s.trig.restarting = true ∧ s.takesFrame = true ∧ s.detectsClash = true ∧ frameValid (.take g) = true
        ∧ s.isOwn (.take g) = false ∧ frameSender (.take g) = s.pins.address
        ∧ (after (.takeReception g) s).start.station = .mute)
      ∧ (s.NoClash (.take (takeA 20)) ∧ s.RestartQuiet
        ∧ (after (.takeReception (takeA 20)) s).agree = Agreement.blank) := by decide +kernel

/-- The address of the collector is learned from no part, and no ROLL of another station changes its entry (R87). -/
theorem test_ownEntry_of_a_mute_collector :
    let s := { collector with start := { collector.start with muteAttr := true } }
    (after (.fragReception (part 120 14 0 true 4)) s).ownEntry = s.ownEntry
      ∧ (after (.rollReception (rollOf 14 .join 121)) s).ownEntry = s.ownEntry
      ∧ (after (.fragReception (part 120 7 0 true 4)) s).isMember 7 = true := by decide +kernel

/-- R155, R156: a roll-call reason stands on in the MUTE entered from ROLLCALL, and drives nothing. -/
theorem test_rollCallReason_in_mute :
    let t := after (.takeReception { takeA 1 with sender := rollcall.pins.address }) rollcall
    t.start.station = .mute ∧ HoldReason.rollCall.stands t = true ∧ t.drivesHld = false := by decide +kernel

/-- A part for a new build, one for an OPEN build, and a LOST one; parts of an ABSENT, a SILENT and a CALLING sender. -/
theorem test_PartEntersItsBuild_premises :
    let s := { building with frames := { building.frames with dat := .inFrame } }
    ([(collector, part 120 2 0 false 16), (collector, lost 120 2), (s, part 120 9 1 true 16),
        (s, part 120 9 0 true 16), (s, part 120 9 2 true 16), (collector, part 120 7 0 true 16),
        (s, part 120 7 0 true 16)].all fun x =>
      decide (x.1.Hears (.frag x.2) ∧ x.1.NoClash (.frag x.2) ∧ x.1.builds = true ∧ x.1.TableInv
        ∧ x.1.heeds x.2.sender = true ∧ x.1.mark x.2.sender < x.2.number.toNat
        ∧ x.1.build.floor < x.2.number.toNat
        ∧ ((x.1.contributionBefore x.2.number.toNat x.2.sender false).map Contribution.isFinal)
          = some false)) = true
      ∧ ([EntryState.silent, .calling].all fun e =>
        let u := collector.setEntry 7 { member 119 with state := e }
        decide (u.Hears (.frag (lost 120 7)) ∧ u.NoClash (.frag (lost 120 7)) ∧ u.builds = true ∧ u.TableInv
          ∧ u.heeds 7 = false ∧ (u.entry 7).state = e ∧ (u.entry 7).role ≠ some .collector
          ∧ u.build.floor < 120
          ∧ ((u.contributionBefore 120 7 (!u.heeds 7)).map Contribution.isFinal) = some false)) = true := by
  decide +kernel

/-- R106: the last member's final part closes the build COMPLETE. -/
theorem test_PartEntersItsBuild_closes :
    let t := after (.fragReception (part 120 9 1 true 16)) { building with frames :=
        { building.frames with dat := .inFrame } }
    t.build.builds.map (fun b => (b.cause, b.state)) = [(some .complete, .delivering)] := by decide +kernel

/-- Eight OPEN builds. -/
def fullTable : State :=
  { collector with build := { collector.build with
      builds := (List.range 8).map fun n => { collector.newBuild (n + 121) none with contributions := [] } } }

/-- For a ninth build, for a CLOSED one and at the floor: a member's part, a SILENT sender's part, and a SKIP. -/
theorem test_PartsWithoutABuildAreCounted_premises :
    let closed := { fullTable with build := { fullTable.build with
      builds := fullTable.build.builds.map (Build.close .timeout) } }
    let floor := { collector with build := { collector.build with lastDelivered := 120 } }
    ([(fullTable, (130 : BitVec 32)), (closed, 121), (floor, 120)].all fun x =>
      let u := x.1.setEntry 7 { member 119 with state := .silent }
      decide (x.1.Hears (.frag (part x.2 2 0 true 0)) ∧ x.1.NoClash (.frag (part x.2 2 0 true 0)) ∧ x.1.builds = true
        ∧ x.1.TableInv ∧ x.1.heeds 2 = true ∧ x.1.mark 2 < x.2.toNat)
      && decide (x.1.Hears (.skip (skipOf x.2 9 0)) ∧ x.1.NoClash (.skip (skipOf x.2 9 0))
        ∧ x.1.isOwn (.skip (skipOf x.2 9 0)) = false ∧ x.1.heeds 9 = true ∧ x.1.mark 9 < x.2.toNat)
      && decide (u.Hears (.frag (lost x.2 7)) ∧ u.NoClash (.frag (lost x.2 7)) ∧ u.TableInv
          ∧ (u.entry 7).state = .silent
        ∧ (u.entry 7).role ≠ some .collector)
      && decide (x.2.toNat ≤ x.1.build.floor ∨ x.1.contributionBefore x.2.toNat 0 false = none)) = true
      ∧ fullTable.contributionBefore 130 0 false = none ∧ closed.contributionBefore 121 0 false = none
      ∧ 120 ≤ floor.build.floor := by
  decide +kernel

theorem test_SkipSettlesContribution_premises :
    let s := { building with frames := { building.frames with dat := .inFrame } }
    ([(collector, skipOf 120 9 0), (collector, skipOf 120 9 3), (s, skipOf 120 9 1), (collector, skipOf 120 7 1),
        (s, skipOf 120 7 0)].all fun x =>
      decide (x.1.Hears (.skip x.2) ∧ x.1.NoClash (.skip x.2) ∧ x.1.builds = true ∧ x.1.TableInv
        ∧ x.1.heeds x.2.subject = true ∧ x.1.mark x.2.subject < 120 ∧ x.1.build.floor < 120
        ∧ ((x.1.contributionBefore 120 x.2.subject
            (decide (x.1.config.misslim ≤ (x.1.heardEntry x.2.subject).misses + 1))).map
          Contribution.isFinal) = some false)) = true := by decide +kernel

/-- A build in which the contribution of 9, a member, is NOT_EXPECTED already. -/
def settledBuild : State :=
  let left (c : Contribution) : Contribution := if c.member = 9 then { c with state := .notExpected } else c
  let builds := building.build.builds.map fun b => { b with contributions := b.contributions.map left }
  { building with
    build := { building.build with builds := builds }, frames := { building.frames with dat := .inFrame } }

/-- Of the last row of R99, and of the SKIP of log 44: the contribution met is final. -/
theorem test_finalContribution_premises :
    (settledBuild.Hears (.frag (part 120 9 0 true 5)) ∧ settledBuild.NoClash (.frag (part 120 9 0 true 5))
        ∧ settledBuild.builds = true ∧ settledBuild.TableInv ∧ settledBuild.heeds 9 = true
        ∧ settledBuild.mark 9 < 120 ∧ settledBuild.build.floor < 120)
      ∧ (settledBuild.Hears (.skip (skipOf 120 9 0)) ∧ settledBuild.NoClash (.skip (skipOf 120 9 0)))
      ∧ (settledBuild.contributionBefore 120 9 false).map Contribution.isFinal = some true := by decide +kernel

theorem test_CloseTimerClosesByTimeout_premises :
    (building.pins.rst = false ∧ building.BuildInv
        ∧ (building.build.builds.find? (fun y : Build => y.number = 120)).map (·.state) = some .opened)
      ∧ (delivering.BuildInv
        ∧ (delivering.build.builds.find? (fun y : Build => y.number = 120)).map (·.state) = some .delivering) := by
  decide +kernel

/-- Before the end word of the record of section 6.9. -/
def lastWord : State := { delivering with port := { delivering.port with state := .record 43 44 } }

/-- With an abort word offered. -/
def aborted : State := { collector with port := { collector.port with state := .abort 7 } }

/-- In the middle of a record, before its end word, and before an abort word. -/
theorem test_TakingEventHandsOutWords_premises :
    (collector.BuildInv ∧ collector.wordValid = false)
      ∧ (delivering.BuildInv ∧ delivering.drivesPort = true ∧ delivering.build.builds.head?.map Build.total = some 44
        ∧ delivering.port.state.cursor = some 0)
      ∧ (lastWord.BuildInv ∧ lastWord.port.state.cursor = some 43)
      ∧ (aborted.BuildInv ∧ aborted.wordValid = true ∧ aborted.port.state.cursor = none) := by
  refine ⟨by decide +kernel, by decide +kernel, by decide +kernel, by decide +kernel⟩

/-- A station with a pending TAKE on a DAT that has shown no idle gap. -/
def onBusyDat : State := { slipped with frames := { slipped.frames with dat := .busy } }

theorem test_ContentionSelectsLowestFrame_premises :
    (pendingFrames.pins.rst = false ∧ pendingFrames.QueueInv ∧ pendingFrames.frames.dat = .idle
        ∧ pendingFrames.sending = true ∧ pendingFrames.frames.queue.frames ≠ []
        ∧ pendingFrames.frames.queue.onWire = none)
      ∧ (onBusyDat.QueueInv ∧ onBusyDat.sending = true ∧ onBusyDat.frames.queue.frames ≠ [])
      ∧ (onTheWire.QueueInv ∧ onTheWire.frames.queue.onWire.isSome = true ∧ onTheWire.frames.dat = .inFrame)
      ∧ (station .halted .acquirer 2).sending = false ∧ State.reset.frames.dat = .stopped := by
  refine ⟨by decide +kernel, by decide +kernel, by decide +kernel, by decide +kernel, by decide +kernel⟩

/-- Seven failures in a row. -/
def sevenFailures : State := { onTheWire with frames := { onTheWire.frames with failures := 7 } }

theorem test_UnsentFramesStayPending_premises :
    (pendingFrames.QueueInv ∧ pendingFrames.frames.queue.onWire = none)
      ∧ (onTheWire.pins.rst = false ∧ onTheWire.QueueInv ∧ onTheWire.frames.queue.onWire.isSome = true
        ∧ onTheWire.frames.failures < 7)
      ∧ (sevenFailures.QueueInv ∧ 7 ≤ sevenFailures.frames.failures) := by
  refine ⟨by decide +kernel, by decide +kernel, by decide +kernel⟩

/-- A collector in ROLLCALL with its CALL on the wire and seven failures: the eighth starts its roll timer (R180). -/
theorem test_UnsentFramesStayPending_rollcall :
    let s := after .listenTimerExpiry { muteListener with start := { muteListener.start with muteAttr := false } }
    let s := { s with frames := { queue := s.frames.queue.driveSelected, failures := 7, dat := .inFrame } }
    (s.pins.rst = false ∧ s.QueueInv ∧ s.frames.queue.onWire.isSome = true ∧ s.isCollector = true
        ∧ s.start.station = .rollcall ∧ s.start.rollTimer = none ∧ s.start.rollMet = false)
      ∧ (after .frameAbandoned s).start.rollTimer = some 1000000
      ∧ (after .frameAbandoned { s with frames := { s.frames with failures := 0 } }).frames.queue.roll.map
        (fun p => p.frame.mode) = some .call := by decide +kernel

/-- A body with its check. -/
def checked (body : List Byte) : List Byte := body ++ crcBytes body

/-- A witness for each of steps 2, 4, 5 and 6 of R145: a TAKE of 8 bytes, an unknown kind, a SKIP of 9 bytes, and a SKIP
for event 0. -/
theorem test_BadFramesAreCounted_premises :
    State.reset.takesFrame = false ∧ slipped.takesFrame = true
      ∧ ([checked [0, 0, 0, 0, 0, 0], checked [0x80, 0, 0, 0, 0], checked [0x20, 0, 0, 0x0F, 0x05, 0x32, 0],
          checked [0x20, 0, 0, 0, 0x05, 0x32]].map fun b =>
        (b.length, fieldAt (bitsOfBytes b) 0 3, fieldAt (bitsOfBytes b) 3 32,
          decide (b.drop (b.length - 2) = crcBytes (b.take (b.length - 2)))))
        = [(8, 0, 0, true), (7, 4, 0, true), (9, 1, 120, true), (8, 1, 0, true)] := by decide +kernel

/-- What they count: BAD_FRAMES for the first, MALFORMED for the others. -/
theorem test_badFrame_steps :
    (after (.badFrame (checked [0, 0, 0, 0, 0, 0])) slipped).count .badFrames = 1
      ∧ ([checked [0x80, 0, 0, 0, 0], checked [0x20, 0, 0, 0x0F, 0x05, 0x32, 0],
          checked [0x20, 0, 0, 0, 0x05, 0x32]].map fun b => (after (.badFrame b) slipped).count .malformed)
        = [1, 1, 1] := by decide +kernel

/-- R206: on the pins a read of STATUS takes its word with the eighth bit and shifts it out, bit 31 first; one that RST
cut is not resumed, and after the release none is taken before ISCS is high, though ISDO is driven. -/
theorem test_inspectPins :
    let address := (List.replicate 8 [InspectionPin.isckFall, .isckRise false]).flatten
    let s := (acquirer 2).inspectPins ([.iscs false] ++ address)
    let cut := after (.rstRelease 3 .acquirer) (after .rstAssert s)
    s.insp.taken = (acquirer 2).statusWord ∧ s.isdo = none ∧ s.insp.line = readLine 0x00
      ∧ (s.inspectPins [.iscs true]).insp.line = .released ∧ cut.insp.line = .held true ∧ cut.drivesIsdo = true
      ∧ (cut.inspectPins address).insp.taken = 0 ∧ (cut.inspectPins [.iscs true]).insp.line = .released
      ∧ (List.range 34).map (shiftedOut 0x80000001) = [true] ++ List.replicate 30 false ++ [true, false, false] := by
  decide +kernel

/-- R208: STATUS of a RUNNING acquirer at 2, SET, and of a restarting one at 9, UNSET. R10: the head is the lowest
number, wherever it stands. R209: HELD_EDGES is at 0x25. -/
theorem test_window_words :
    (acquirer 2).windowWord 0x00 = 0x125 ∧ restarting.windowWord 0x00 = 0x1095
      ∧ (after .storeRead { draining with store := { draining.store with
          records := [record 31 0, record 30 10] } }).windowWord 0x02 = 30
      ∧ (after (.triggerEdge true) (acquirer 2)).windowWord 0x25 = 1 := by decide +kernel

/-- R206: the command STORE_READ leaves the port with its address byte, and a write's command ends its transaction. -/
theorem test_inspection_line :
    (after .storeRead (acquirer 2)).insp.line = .selected [false, false, false, false, false, false, false, true] 0
      ∧ (after .clearCounters (after .storeRead (acquirer 2))).insp.line = .released
      ∧ (after .storeRead (acquirer 2)).isdo = none := by decide +kernel

/-- R206: ISDO changes at a falling edge of ISCK, not at the rise that follows it: 0x80000001, bit 31 first. -/
theorem test_isdo_at_falls :
    let s := { acquirer 2 with insp := { (acquirer 2).insp with taken := 0x80000001, line := readLine 0x00 } }
    let fall := s.inspectPin .isckFall
    let rise := fall.inspectPin (.isckRise true)
    s.isdo = none ∧ fall.isdo = some true ∧ rise.isdo = some true ∧ (rise.inspectPin .isckFall).isdo = some false := by
  decide +kernel

/-- R159, R170: nine bits for each byte on DAT; the read request on IMSO. -/
theorem test_port_bits :
    (onTheWire.datBits.map List.length) = some 117 ∧ (onTheWire.datBits.map (List.take 10))
        = some [false, false, false, false, false, false, false, false, false, false]
      ∧ (loading .acquirer).imsoBits = some (bitsOfBytes [3, 0, 0]) ∧ (acquirer 2).imsoBits = none := by decide +kernel

/-- One frame of each kind, at the bounds of R146. -/
theorem test_FrameRoundTrip_premises :
    ([.take (takeA 4294967295), .skip (skipOf 1 9 4), .frag (part 1 2 3 true 16), .frag (lost 1 2),
      .roll { rollOf 2 .echo 0 with count := 64 }].all frameValid) = true := by decide +kernel

/-- Of the reads, the commands, other writes and the tick: the port answers from the release of RST in every state. -/
theorem test_inspection_premises :
    ([acquirer 2, collector, station .halted .acquirer 2, loading .collector].all fun s =>
      decide (s.pins.rst = false ∧ s.LineInPlace ∧ s.insp.line = .released)) = true ∧ fullList.agree.listFull = false
      ∧ (after (.takeReception (takeA 85)) fullList).agree.listFull = true := by decide +kernel

theorem test_CounterIsMovedBy_premises :
    let s := { slipped with time := { counter := 1003500, state := .unset } }
    (Instr.takeReception { takeA 20 with time := 2003000 }).wellFormed = true
      ∧ (after (.takeReception { takeA 20 with time := 2003000 }) s).time.counter ≠ s.time.counter
      ∧ (after .tick s).time.counter ≠ s.time.counter
      ∧ (after (.rollTimerExpiry false) { rollcall with
          config := { image with hld := .listen }, time := { counter := 5, state := .unset } }).time.counter ≠ 5 := by
  decide +kernel

theorem test_MarksNeverDecrease_premises :
    (Instr.rollReception (rollOf 9 .call 0)).wellFormed = true ∧ draining.tracks = true
      ∧ exec (.rollReception (rollOf 9 .call 0)) draining = .next (after (.rollReception (rollOf 9 .call 0)) draining)
      ∧ (after (.rollReception (rollOf 9 .call 0)) draining).mark 9 < draining.mark 9 := by
  refine ⟨by decide +kernel, by decide +kernel, rfl, by decide +kernel⟩

theorem test_FaultsAndCountersOnlyGrow_premises :
    (Instr.localTriggerRequest true).wellFormed = true
      ∧ exec (.localTriggerRequest true) (acquirer 2) = .next (after (.localTriggerRequest true) (acquirer 2))
      ∧ (acquirer 2).count .refusedTriggers < (after (.localTriggerRequest true) (acquirer 2)).count .refusedTriggers
      ∧ (captured.raise .silenced 88).insp.faults.first.isSome = true := by
  refine ⟨by decide +kernel, rfl, by decide +kernel, by decide +kernel⟩

theorem test_LawsHoldAfterReset_premises :
    exec .rstAssert (acquirer 2) = .next (after .rstAssert (acquirer 2)) := rfl

/-- Section 3.4's station B with a command in front. -/
def commanded : State := { draining with pending := [.turnTimerExpiry] }

/-- A RUNNING acquirer with records, an offered part and a turn timer obeys every law, and the next step answers. -/
theorem test_StepKeeps_premises :
    commanded.Coherent ∧ commanded.StoreInv ∧ commanded.OrderInv ∧ commanded.AgreeInv ∧ commanded.RosterInv
        ∧ commanded.BuildInv
      ∧ commanded.QueueInv ∧ commanded.TimerInv ∧ commanded.OfferInv ∧ commanded.SkipInv
      ∧ (match step commanded with
        | .next t => t.turn.timer = .skipping 2 30
        | .fault _ => False
        | .refused _ => False) := by
  refine ⟨⟨?_, ?_, ?_, ?_, ?_, ?_, ?_, ?_, ?_⟩, ?_, ?_, ?_, ?_, ?_, ?_, ?_, ?_, ?_, ?_⟩ <;> first | decide +kernel | rfl

/-- A step offers part 0 of record 30 when A's final part opens the turn, with its flags and its one LAST part. -/
theorem test_StepKeepsTurns_offers :
    let t := after (.fragReception (part 30 2 0 true 5)) draining
    draining.offeredPart = none ∧ t.offeredPart.map (fun f => (f.index, f.last, f.samples.length)) = some (0, true, 10)
      ∧ ∀ f ∈ t.offeredPart, t.PartIsDue f := by decide +kernel

/-- The command in front, and a part for the oldest event, are outside the cases of log 28. -/
theorem test_StepKeepsStore_order_premises :
    commanded.pending.head? = some .turnTimerExpiry ∧ commanded.OrderIsSafe .turnTimerExpiry
      ∧ draining.OrderIsSafe (.fragReception (part 30 2 0 true 5)) := by
  refine ⟨rfl, ⟨by decide +kernel, ?_⟩, ⟨by decide +kernel, ?_⟩⟩ <;> intro f hf <;> cases hf
  intros
  decide +kernel

/-- So do a collector in the middle of a record, a station in ROLLCALL, one that is restarting and one that sends. -/
theorem test_StepKeeps_more_premises :
    ([slipped, capturing, building, delivering, rollcall, restarting, onTheWire].all fun s =>
      decide s.ResetHeld && decide s.UnloadedQuiet && decide s.RestartQuiet && decide s.StartQuiet
        && decide s.StateQuiet && decide s.RoleQuiet && decide s.TimersInPlace && decide s.ReadsInLoading
        && decide s.LineInPlace
        && decide s.StoreInv && decide s.OrderInv && decide s.AgreeInv && decide s.RosterInv && decide s.BuildInv
        && decide s.QueueInv && decide s.TimerInv && decide s.OfferInv) = true := by decide +kernel

end Sys2Proof.Tests
end

section
/-! The capture port's sample filter (R1, R4 to R7): each check of R4 in the rule's own terms, and the outcome of a
sample arrival. -/

namespace Sys2Proof.Machine

theorem State.capturesSamples_eq_false_iff (s : State) :
    s.capturesSamples = false ↔ s.pins.rst = true ∨ s.isCollector = true ∨ s.unloaded = true := by
  cases hrst : s.pins.rst <;> cases hrole : s.pins.role <;>
    simp [capturesSamples, isAcquirer, isCollector, hrst, hrole]

theorem State.capturesSamples_eq_true_iff (s : State) :
    s.capturesSamples = true ↔ s.pins.rst = false ∧ s.isAcquirer = true ∧ s.unloaded = false := by
  simp [capturesSamples, and_assoc]

theorem State.suppresses_iff (s : State) (x : Sample) :
    s.suppresses x = true ↔ x.overrange = false ∧ (s.threshold x.channel).toNat ≠ 0
      ∧ x.value.toNat < (s.threshold x.channel).toNat := by
  simp [suppresses, and_assoc, ← BitVec.toNat_inj]

theorem Record.hasChannel_iff (r : Record) (c : BitVec 6) :
    r.hasChannel c = true ↔ ∃ y ∈ r.samples, y.channel = c := by
  simp [hasChannel]

theorem Store.freeEntries_eq_zero_iff (st : Store) :
    st.freeEntries = 0 ↔ 1024 ≤ (st.records.map fun r => r.samples.length).sum :=
  Nat.sub_eq_zero_iff_le

/-- R1: where the capture port takes no arrivals, an arrival changes nothing. -/
theorem exec_sampleArrival_of_ignored {s : State} (lp : Word) (h : s.capturesSamples = false) :
    exec (.sampleArrival lp) s = .next s := by
  change execSampleArrival lp s = _
  simp [execSampleArrival, h]

theorem exec_sampleArrival_of_captures {s : State} (lp : Word) (h : s.capturesSamples = true) :
    exec (.sampleArrival lp) s = .next (s.filterSample (sampleOfPins lp)) := by
  change execSampleArrival lp s = _
  simp [execSampleArrival, h]

/-- R4, step 1. -/
theorem State.filterSample_of_no_window {s : State} (x : Sample) (h : s.store.window = none) :
    s.filterSample x = s.bump .straySamples := by
  simp [filterSample, h]

/-- R4, steps 2 to 6: with the window open over its record, the first check that applies decides. -/
theorem State.filterSample_of_capturing {s : State} {r : Record} (x : Sample)
    (hw : s.store.window.isSome = true) (hr : s.store.capturing = some r) :
    s.filterSample x =
      if s.enabled x.channel = false then s
      else if s.suppresses x = true then s.bump .suppressed
      else if r.hasChannel x.channel = true then
        (s.setStore (s.store.modifyCapturing Record.double)).bump .doubles
      else if s.store.freeEntries = 0 then
        if r.flags.trunc = true then s.setStore (s.store.modifyCapturing Record.truncate)
        else (s.setStore (s.store.modifyCapturing Record.truncate)).raise .storeOverrun r.number
      else s.setStore (s.store.modifyCapturing (Record.append x)) := by
  obtain ⟨w, hw⟩ := Option.isSome_iff_exists.mp hw
  simp [filterSample, hw, hr]

/-- Settles O10: an arrival that the port takes is stray without a window; over the CAPTURING record the model's
checks are those of R4, in its order. -/
theorem samplesAreFiltered : Obligations.SamplesAreFiltered := by
  intro s lp x hx
  have hpins : sampleOfPins lp = x := hx.symm
  refine ⟨fun hignored => exec_sampleArrival_of_ignored lp (s.capturesSamples_eq_false_iff.mpr hignored), ?_⟩
  intro hrst hacquirer hloaded
  have hexec : exec (.sampleArrival lp) s = .next (s.filterSample x) :=
    hpins ▸ exec_sampleArrival_of_captures lp (s.capturesSamples_eq_true_iff.mpr ⟨hrst, hacquirer, hloaded⟩)
  refine ⟨fun hclosed => ?_, fun hopen r hr => ?_⟩
  · rw [hexec, State.filterSample_of_no_window x hclosed]
  · rw [hexec, State.filterSample_of_capturing x hopen hr]
    simp only [State.suppresses_iff, Record.hasChannel_iff, Store.freeEntries_eq_zero_iff]
    -- Both sides are now R4's chain of checks; the updates of the store agree by definition.
    rfl

end Sys2Proof.Machine
end

section
/-! The inspection port's two commands on its own registers (R210, R212): what CLEAR COUNTERS and ACK FAULT leave, and
which earlier changes they undo. -/

namespace Sys2Proof.Machine

/-! ## The end of a transaction (R206) -/

@[simp] theorem State.setLine_setLine (x y : InspectionLine) (s : State) :
    (s.setLine x).setLine y = s.setLine y := rfl

/-! ## CLEAR COUNTERS (R210) -/

/-- R210, R206: out of RST the command zeroes the counters and ends its transaction. -/
theorem exec_clearCounters {s : State} (h : s.pins.rst = false) :
    exec .clearCounters s = .next (s.clearCounters.setLine .released) := by
  change execClearCounters s = _
  simp [execClearCounters, h]

@[simp] theorem State.clearCounters_counters (s : State) (i : Fin 18) : s.clearCounters.insp.counters[i] = 0 := by
  simp [clearCounters, Inspection.zeroCounters]

@[simp] theorem State.count_clearCounters (c : Counter) (s : State) : s.clearCounters.count c = 0 :=
  s.clearCounters_counters c.index

@[simp] theorem State.count_setLine (x : InspectionLine) (c : Counter) (s : State) :
    (s.setLine x).count c = s.count c := rfl

@[simp] theorem State.clearCounters_setLine (x : InspectionLine) (s : State) :
    (s.setLine x).clearCounters = s.clearCounters.setLine x := rfl

/-- Two in a row act as one. -/
@[simp] theorem State.clearCounters_clearCounters (s : State) : s.clearCounters.clearCounters = s.clearCounters := rfl

/-- An increment before the command is cleared with the rest. -/
@[simp] theorem State.clearCounters_bump (c : Counter) (s : State) : (s.bump c).clearCounters = s.clearCounters := rfl

/-- Settles O45: clearing forgets an increment and a clearing before it, and from 0 one increment counts to 1. -/
theorem clearCountersZeroesAll : Obligations.ClearCountersZeroesAll := by
  intro s ct hrst
  refine ⟨s.clearCounters.setLine .released, exec_clearCounters hrst, fun i => s.clearCounters_counters i, rfl,
    ?_, ?_, ?_⟩
  · rw [exec_clearCounters (by simp [hrst])]
    simp
  · rw [exec_clearCounters (by simp [hrst]), State.clearCounters_bump]
  · rw [State.count_bump_self, State.count_setLine, State.count_clearCounters]
    exact saturate_of_ne (by decide)

/-! ## ACK FAULT (R212) -/

/-- R212, R206: out of RST the command empties the fault record and ends its transaction. -/
theorem exec_ackFault {s : State} (h : s.pins.rst = false) :
    exec .ackFault s = .next (s.ackFault.setLine .released) := by
  change execAckFault s = _
  simp [execAckFault, h]

@[simp] theorem State.ackFault_faults (s : State) : s.ackFault.insp.faults = FaultRecord.empty := rfl

/-- A fault before the command is lost with the record. -/
@[simp] theorem State.ackFault_raise (code : FaultCode) (n : Nat) (s : State) :
    (s.raise code n).ackFault = s.ackFault := rfl

/-- R211: a fault that enters the empty record stands as the first, with its own flag alone. -/
theorem FaultRecord.enter_empty (f : FirstFault) :
    FaultRecord.empty.enter f = { first := some f, further := 0, flags := f.code.flag } := by
  rw [FaultRecord.enter_of_empty rfl]
  simp [FaultRecord.empty]

/-- R33: while the reason of the full list stands, a refused number raises nothing. -/
theorem State.refuseTake_of_listFull {s : State} (n : Nat) (h : s.agree.listFull = true) : s.refuseTake n = s := by
  simp [refuseTake, h]

/-- Settles O46: the record is empty after the command whatever was raised before, so the next fault enters as the
first; the agreement unit, which holds the reason of TAKE_LIST_FULL, is not touched. -/
theorem ackFaultEmptiesRecord : Obligations.AckFaultEmptiesRecord := by
  intro s code n hrst
  refine ⟨s.ackFault.setLine .released, exec_ackFault hrst, rfl, rfl, rfl, rfl, rfl, ?_, ?_, ?_⟩
  · rw [exec_ackFault (by simp [hrst]), State.ackFault_raise]
  · simp [FaultRecord.enter_empty, FaultCode.flag]
  · intro hfull
    exact State.refuseTake_of_listFull n (by simp [hfull])

end Sys2Proof.Machine
end

section
/-! The next state of a command: every command completes, and what it can do is said once, as the cases that a proof
about all commands goes through. -/

namespace Sys2Proof.Machine

/-! ## The next state -/

/-- The state that a command answers. -/
def State.after (c : Instr) (s : State) : State :=
  match exec c s with
  | .next t => t
  | .fault _ | .refused _ => s

/-- Every command completes. -/
theorem exec_eq_next (c : Instr) (s : State) : exec c s = .next (s.after c) := by
  cases c <;> rfl

theorem State.after_eq {c : Instr} {s t : State} (h : exec c s = .next t) : t = s.after c := by
  rw [exec_eq_next] at h
  exact (Host.Outcome.next.inj h).symm

/-- A step idles, or runs the command in front on the queue's rest. -/
theorem step_cases {s t : State} (h : step s = .next t) :
    t = s ∨ ∃ c rest, s.pending = c :: rest ∧ t = State.after c { s with pending := rest } := by
  unfold step at h
  split at h
  · exact .inl (Host.Outcome.next.inj h).symm
  · next c rest hp => exact .inr ⟨c, rest, hp, State.after_eq h⟩

/-- The end of a reception: the frame has left the wire, and its owners have had it (R139, R147). -/
def State.received (f : Frame) (s : State) : State :=
  (if s.isOwn f then s.endOwn else s.endOther).handleFrame (s.isOwn f) f

/-- A frame that ends on DAT is passed over, counted as malformed, or received. -/
theorem State.receive_eq (f : Frame) (s : State) :
    s.receive f = if !s.takesFrame then s else if !frameValid f then s.discardFrame .malformed else s.received f :=
  rfl

/-- The cases of a command: a statement about the next state holds when it holds of what each event does, under what
the event asks of the state. Outside RST and its release the station is not under RST. -/
theorem State.after_cases {P : State → Prop} (c : Instr) (s : State)
    (idle : P s)
    (reset : c = .rstAssert →
      P ({ State.reset with freeIndex := s.freeIndex, pending := s.pending }.setLine s.insp.line.hold))
    (release : s.pins.rst = true → ∀ straps role, c = .rstRelease straps role →
      P (((s.setPins { rst := false, address := straps, role := role }).setStart
        { s.start with station := .loading, imagePort := .firstRead }).setLine s.insp.line.release))
    (read : s.pins.rst = false → ∀ bytes trg, c = .imageReadComplete bytes trg → s.start.imagePort ≠ .idle →
      P (s.completeRead bytes trg))
    (sample : s.pins.rst = false → ∀ lp, c = .sampleArrival lp → s.capturesSamples = true →
      P (s.filterSample (sampleOfPins lp)))
    (window : s.pins.rst = false → c = .captureWindowExpiry → P s.expireWindow)
    (edge : s.pins.rst = false → ∀ b, c = .triggerEdge b → s.unloaded = false → s.trig.level = false →
      P (s.takeEdge b))
    (request : s.pins.rst = false → ∀ b, c = .localTriggerRequest b → s.isCollector = false →
      s.start.station ≠ .halted → P (s.requestTrigger b))
    (normalPulse : s.pins.rst = false → c = .normalPulseExpiry → P (s.setTrig { s.trig with normalPulse := none }))
    (restartPulse : s.pins.rst = false → c = .restartPulseExpiry →
      P (s.setTrig { s.trig with restartPulse := none }))
    (restart : s.pins.rst = false → P (s.restartTrunk.setLine .released))
    (detection : s.pins.rst = false → c = .trunkRestartDetection → s.trig.detector.isSome = true →
      P s.detectRestart)
    (trgRelease : s.pins.rst = false → c = .trgRelease → s.unloaded = false → s.drivesTrg = false → P s.releaseTrg)
    (listen : s.pins.rst = false → c = .listenTimerExpiry → s.start.station = .listening →
      s.start.listenTimer.isSome = true → P s.enterRollcall)
    (roll : s.pins.rst = false → ∀ b, c = .rollTimerExpiry b → s.start.station = .rollcall →
      s.start.rollTimer.isSome = true → P (s.meetRoll b))
    (hldFall : s.pins.rst = false → c = .hldFall → s.start.station = .rollcall → s.start.rollMet = true → P s.epoch)
    (turn : s.pins.rst = false → c = .turnTimerExpiry → P s.expireTurn)
    (close : s.pins.rst = false → ∀ n, c = .closeTimerExpiry n → P (s.timeoutBuild n.toNat).startDelivery)
    (datIdle : s.pins.rst = false → c = .datIdle → P s.idleDat)
    (contention : s.pins.rst = false → c = .contentionStart → P s.startFrame)
    (lost : s.pins.rst = false → c = .lostContention → s.frames.queue.onWire.isSome = true → P s.leaveWire)
    (abandoned : s.pins.rst = false → c = .frameAbandoned → ∀ f, s.frames.queue.onWire = some f → P (s.abandon f))
    (discard : s.pins.rst = false → s.takesFrame = true → ∀ k, P (s.discardFrame k))
    (received : s.pins.rst = false → s.takesFrame = true → ∀ f, heardFrame c = some f → frameValid f = true →
      P (s.received f))
    (taking : s.pins.rst = false → c = .takingEvent → s.drivesPort = true → P s.takeWord)
    (read_window : s.pins.rst = false → ∀ w ext bits, P ((s.takeRead w ext).setLine (.selected bits 0)))
    (clear : s.pins.rst = false → c = .clearCounters ∨ c.wellFormed = false →
      P (s.clearCounters.setLine .released))
    (ack : s.pins.rst = false → c = .ackFault ∨ c.wellFormed = false →
      P (s.ackFault.setLine .released))
    (write : s.pins.rst = false → P (s.setLine .released))
    (tick : s.pins.rst = false → c = .tick →
      P (s.setTime { s.time with counter := s.time.counter + 1 }).tickTimers) :
    P (s.after c) := by
  have guarded {g : Bool} {t : State} (h : g = false → P t) : P (if g then s else t) := by
    cases g
    · exact h rfl
    · exact idle
  have wanted {g : Bool} {t : State} (h : g = true → P t) : P (if g then t else s) := by
    cases g
    · exact idle
    · exact h rfl
  have rst_of_takes (h : s.takesFrame = true) : s.pins.rst = false := by
    simp only [State.takesFrame, Bool.and_eq_true, Bool.not_eq_true'] at h
    exact h.1
  have receive (f : Frame) (hf : heardFrame c = some f) : P (s.receive f) := by
    rw [State.receive_eq]
    cases ht : s.takesFrame
    · exact idle
    · cases hv : frameValid f
      · exact discard (rst_of_takes ht) ht _
      · exact received (rst_of_takes ht) ht f hf hv
  cases c with
  | rstAssert => exact reset rfl
  | rstRelease straps role => exact wanted fun h => release h _ _ rfl
  | imageReadComplete bytes trg =>
    refine guarded fun h => ?_
    simp only [Bool.or_eq_false_iff, decide_eq_false_iff_not] at h
    exact read h.1 _ _ rfl h.2
  | sampleArrival lp =>
    refine wanted fun h => sample ?_ lp rfl h
    simp only [State.capturesSamples, Bool.and_eq_true, Bool.not_eq_true'] at h
    exact h.1.1
  | captureWindowExpiry => exact guarded fun h => window h rfl
  | triggerEdge b =>
    refine guarded fun h => ?_
    simp only [Bool.or_eq_false_iff] at h
    exact edge h.1.1 b rfl h.1.2 h.2
  | localTriggerRequest b =>
    refine guarded fun h => ?_
    simp only [Bool.or_eq_false_iff, decide_eq_false_iff_not] at h
    exact request h.1.1 b rfl h.1.2 h.2
  | normalPulseExpiry => exact guarded fun h => normalPulse h rfl
  | restartTrunk => exact guarded fun h => restart h
  | restartPulseExpiry => exact guarded fun h => restartPulse h rfl
  | trunkRestartDetection =>
    refine guarded fun h => ?_
    simp only [Bool.or_eq_false_iff, Option.isNone_eq_false_iff] at h
    exact detection h.1 rfl h.2
  | trgRelease =>
    refine guarded fun h => ?_
    simp only [Bool.or_eq_false_iff] at h
    exact trgRelease h.1.1 rfl h.1.2 h.2
  | listenTimerExpiry =>
    refine guarded fun h => ?_
    simp only [Bool.or_eq_false_iff, decide_eq_false_iff_not, not_not, Option.isNone_eq_false_iff] at h
    exact listen h.1.1 rfl h.1.2 h.2
  | rollTimerExpiry b =>
    refine guarded fun h => ?_
    simp only [Bool.or_eq_false_iff, decide_eq_false_iff_not, not_not, Option.isNone_eq_false_iff] at h
    exact roll h.1.1 b rfl h.1.2 h.2
  | hldFall =>
    refine wanted fun h => ?_
    simp only [Bool.and_eq_true, Bool.not_eq_true', decide_eq_true_eq] at h
    exact hldFall h.1.1 rfl h.1.2 h.2
  | turnTimerExpiry => exact guarded fun h => turn h rfl
  | closeTimerExpiry n => exact guarded fun h => close h n rfl
  | datIdle => exact guarded fun h => datIdle h rfl
  | contentionStart => exact guarded fun h => contention h rfl
  | lostContention =>
    refine guarded fun h => ?_
    simp only [Bool.or_eq_false_iff, Option.isNone_eq_false_iff] at h
    exact lost h.1 rfl h.2
  | frameAbandoned =>
    refine guarded fun h => ?_
    split
    · next f hf => exact abandoned h rfl f hf
    · exact idle
  | badFrame bytes =>
    change P (s.receiveBytes bytes)
    unfold State.receiveBytes
    cases ht : s.takesFrame
    · exact idle
    · cases hb : checkFrame bytes with
      | bad => exact discard (rst_of_takes ht) ht _
      | malformed => exact discard (rst_of_takes ht) ht _
      | good f => exact receive f (by simp [heardFrame, hb])
  | takeReception f => exact receive (.take f) rfl
  | fragReception f => exact receive (.frag f) rfl
  | skipReception f => exact receive (.skip f) rfl
  | rollReception f => exact receive (.roll f) rfl
  | takingEvent =>
    refine wanted fun h => taking ?_ rfl h
    simp only [State.drivesPort, Bool.and_eq_true, Bool.not_eq_true'] at h
    exact h.1.1
  | clearCounters => exact guarded fun h => clear h (.inl rfl)
  | ackFault => exact guarded fun h => ack h (.inl rfl)
  | inspectionWriteOther address bits =>
    refine guarded fun h => ?_
    unfold State.writeTransaction
    split
    · next hbits =>
      have written (a : Nat) (ha : address.toNat = a) (hc : isCommandAddress (BitVec.ofNat 7 a) = true) :
          (Instr.inspectionWriteOther address bits).wellFormed = false := by
        rw [← ha, BitVec.ofNat_toNat, BitVec.setWidth_eq] at hc
        simp [Instr.wellFormed, hbits, hc]
      split
      · next ha => exact clear h (.inr (written _ ha rfl))
      · next ha => exact ack h (.inr (written _ ha rfl))
      · exact restart h
      · exact write h
    · exact write h
  | storeRead => exact guarded fun h => read_window h _ _ _
  | takesRead => exact guarded fun h => read_window h _ _ _
  | buildsRead => exact guarded fun h => read_window h _ _ _
  | faultsRead => exact guarded fun h => read_window h _ _ _
  | timeLoRead => exact guarded fun h => read_window h _ _ _
  | rosterRead a => exact guarded fun h => read_window h _ _ _
  | tick => exact guarded fun h => tick h rfl

end Sys2Proof.Machine
end

section
/-! The commands whose whole effect is one table or one block: the queue's front, RST and its release, local requests,
the pulses of TRG, the turn timer's expiry, the tick, and the drive of HLD. -/

namespace Sys2Proof.Machine

/-- Settles O1. -/
theorem stepRunsFrontCommand : Obligations.StepRunsFrontCommand := fun _ _ _ => rfl

/-! ## RST (R169) -/

/-- R206: at RST the line is held at its level, so ISCS keeps its level. -/
@[simp] theorem InspectionLine.isLow_hold (line : InspectionLine) : line.hold.isLow = line.isLow := rfl

/-- R73: every entry of the blank roster is blank. -/
@[simp] theorem Roster.blank_get (a : Addr) : Roster.blank[a] = RosterEntry.blank := by simp [Roster.blank]

theorem State.entry_of_blank {s : State} (h : s.roster = Roster.blank) (a : Addr) : s.entry a = RosterEntry.blank := by
  rw [State.entry, h]
  exact Roster.blank_get a

/-- Settles O3: the next state is the reset state with the inspection port held at its level. -/
theorem rstAssertTakesResetValues : Obligations.RstAssertTakesResetValues := by
  intro s
  refine ⟨_, exec_eq_next _ s, ?_⟩
  have hline : (s.after .rstAssert).insp.line = .held s.insp.line.isLow := rfl
  have hentry (a : Addr) : (s.after .rstAssert).entry a = RosterEntry.blank := State.entry_of_blank rfl a
  have hthreshold (c : Fin 64) : (s.after .rstAssert).config.thresholds[c]? = some 0 := by
    exact List.getElem?_replicate_of_lt c.isLt
  have hcounter (i : Fin 18) : (s.after .rstAssert).insp.counters[i] = 0 := by
    change Inspection.zeroCounters[i] = 0
    simp [Inspection.zeroCounters]
  refine ⟨rfl, rfl, rfl, rfl, rfl, rfl, rfl, rfl, rfl, rfl, rfl, rfl, rfl, rfl, rfl, rfl, rfl, rfl, hthreshold, rfl,
    rfl, rfl, rfl, rfl, rfl, rfl, rfl, rfl, rfl, rfl, rfl, rfl, rfl, rfl, rfl, ?_, rfl, rfl, rfl, rfl, rfl, rfl, rfl,
    hcounter, rfl, rfl, hline, rfl, rfl, rfl, rfl, rfl, rfl⟩
  intro a
  rw [hentry]
  exact ⟨rfl, rfl, rfl, rfl, rfl⟩

/-- R206: the release frees a held port whose ISCS is high, and leaves every other line. -/
theorem InspectionLine.release_eq (line : InspectionLine) :
    line.release = if line = .held false then .released else line := by
  cases line with
  | held low => cases low <;> rfl
  | released => rfl
  | selected bits falls => rfl

/-- Settles O4. -/
theorem rstReleaseSamplesStraps : Obligations.RstReleaseSamplesStraps := by
  intro s straps roleStrap
  refine ⟨fun hrst => ?_, fun hrst => ?_⟩
  · refine ⟨_, exec_eq_next _ s, ?_⟩
    have hafter : s.after (.rstRelease straps roleStrap) =
        ((s.setPins { rst := false, address := straps, role := roleStrap }).setStart
          { s.start with station := .loading, imagePort := .firstRead }).setLine s.insp.line.release :=
      if_pos hrst
    rw [hafter]
    refine ⟨?_, rfl, rfl⟩
    rw [InspectionLine.release_eq]
    rfl
  · exact (exec_eq_next _ s).trans (congrArg _ (if_neg (by simp [hrst])))

/-! ## Local requests and pulses (R26, R165, R166) -/

/-- Settles O14: the two merged tests of the model are the table's rows in their order. -/
theorem localRequestTable : Obligations.LocalRequestTable := by
  intro s othersHold hrst
  refine ⟨fun hignored => ?_, fun hrole hhalted => ?_⟩
  · refine (exec_eq_next _ s).trans (congrArg _ (if_pos ?_))
    rcases hignored with h | h <;> simp [State.isCollector, h]
  · refine (exec_eq_next _ s).trans (congrArg _ ?_)
    have hafter : s.after (.localTriggerRequest othersHold) = s.requestTrigger othersHold :=
      if_neg (by simp [hrst, State.isCollector, hrole, hhalted])
    rw [hafter]
    simp only [State.requestTrigger, State.pulseRuns, Bool.or_eq_true, decide_eq_true_eq, Bool.not_eq_true', or_assoc]
    by_cases h1 : s.start.station ≠ .running
    · simp [h1]
    by_cases h2 : s.trig.restarting = true
    · simp [h2]
    by_cases h3 : s.trig.normalPulse.isSome = true ∨ s.trig.restartPulse.isSome = true
    · simp [h1, h2, h3]
    by_cases h4 : s.config.triggerEnable = false
    · simp [h1, h2, h3, h4]
    by_cases h5 : s.config.trg = .listen
    · simp [h1, h2, h3, h4, h5]
    by_cases h6 : s.agree.exhausted = true
    · simp [h1, h2, h3, h4, h5, h6]
    by_cases h7 : s.readsHld othersHold = true
    · simp [h1, h2, h3, h4, h5, h6, h7]
    · simp only [h1, h2, h3, h4, h5, h6, h7, if_false, or_self]
      rfl

theorem State.drivesTrg_of_no_pulse {s : State} (hn : s.trig.normalPulse = none) (hr : s.trig.restartPulse = none) :
    s.drivesTrg = false := by
  simp [State.drivesTrg, hn, hr]

/-- R165: a command that is driven leaves TRG pulled. -/
theorem State.restartTrunk_drives {s : State} (hrst : s.pins.rst = false)
    (h : s.restartTrunk.trig.outcome = .driven) : s.restartTrunk.drivesTrg = true := by
  unfold State.restartTrunk at h ⊢
  (split <;> try split <;> try split) <;> simp_all [State.drivesTrg, State.mayDrive]

/-- Settles O15. -/
theorem restartTrunkTableAndPulses : Obligations.RestartTrunkTableAndPulses := by
  intro s r hrst hr
  have hrestart : s.after .restartTrunk = s.restartTrunk.setLine .released := if_neg (by simp [hrst])
  have hnormal : s.after .normalPulseExpiry = s.setTrig { s.trig with normalPulse := none } :=
    if_neg (by simp [hrst])
  have hpulse : s.after .restartPulseExpiry = s.setTrig { s.trig with restartPulse := none } :=
    if_neg (by simp [hrst])
  refine ⟨?_, ⟨_, exec_eq_next _ s, ?_⟩, ?_, ?_, fun hp => ⟨_, exec_eq_next _ s, ?_⟩,
    fun hp => ⟨_, exec_eq_next _ s, ?_⟩⟩
  · rw [exec_eq_next, hrestart, hr]
    unfold State.restartTrunk
    cases hst : s.start.station <;> simp only [reduceCtorEq, or_self, or_true, true_or, if_true, if_false] <;>
      (repeat' split) <;> rfl
  · rw [hrestart]
    exact fun hd => State.restartTrunk_drives hrst hd
  · rw [exec_eq_next, hnormal]; rfl
  · rw [exec_eq_next, hpulse]; rfl
  · rw [hnormal]; exact State.drivesTrg_of_no_pulse rfl hp
  · rw [hpulse]; exact State.drivesTrg_of_no_pulse hp rfl

/-! ## The turn timer's expiry and the tick (R60, R190) -/

/-- Settles O27. -/
theorem turnTimerExpiryOffersSkip : Obligations.TurnTimerExpiryOffersSkip := by
  intro s m n left k hrst hk
  have hafter : s.after .turnTimerExpiry = s.expireTurn := if_neg (by simp [hrst])
  refine ⟨fun hrunning => ?_, fun hidle => ?_⟩ <;> rw [exec_eq_next, hafter]
  · simp only [State.expireTurn, hrunning, hk]
    rfl
  · unfold State.expireTurn
    split
    · next x y z h => rw [h] at hidle; exact absurd (hidle (x, y) rfl) (by simp)
    · rfl

/-- Settles O48. -/
theorem tickAdvancesTimeAndTimers : Obligations.TickAdvancesTimeAndTimers := by
  intro s
  refine ⟨fun hrst => (exec_eq_next _ s).trans (congrArg _ (if_pos hrst)), fun hrst => ?_⟩
  have hafter : s.after .tick = (s.setTime { s.time with counter := s.time.counter + 1 }).tickTimers :=
    if_neg (by simp [hrst])
  rw [exec_eq_next, hafter]
  cases htimer : s.turn.timer <;>
    simp [State.tickTimers, State.setTime, State.setStart, State.setTrig, State.setStore, State.setTurn,
      State.setBuild, TurnTimer.tick, tickTimer, htimer]

/-! ## The drive of HLD (R157) -/

/-- R155: the states in which the station may drive the trunk. -/
theorem State.mayDrive_iff (s : State) : s.mayDrive = true ↔
    s.pins.rst = false ∧ (s.start.station = .rollcall ∨ s.start.station = .joining ∨ s.start.station = .running
      ∨ s.start.station = .silenced) := by
  unfold State.mayDrive
  cases s.start.station <;> simp

/-- R17, R42, R110, R156: the nine reasons with their thresholds as numbers. -/
theorem State.holds_iff (s : State) : s.holds = true ↔
    s.store.window.isSome = true ∨ 30 ≤ s.store.records.length
      ∨ 961 ≤ (s.store.records.map fun r => r.samples.length).sum ∨ 4 ≤ s.agree.pendingTakes.length
      ∨ s.agree.listFull = true ∨ s.agree.exhausted = true ∨ 6 ≤ s.build.builds.length ∨ 3073 ≤ s.build.samples
      ∨ s.start.rollCallReason = true := by
  have hdescriptors : s.store.freeDescriptors < Config.descriptorsLow ↔ 30 ≤ s.store.records.length := by
    simp only [Store.freeDescriptors, Config.recordCapacity, Config.descriptorsLow]; omega
  have hentries : s.store.freeEntries < Config.entriesLow
      ↔ 961 ≤ (s.store.records.map fun r => r.samples.length).sum := by
    simp only [Store.freeEntries, Store.samples, Config.storeEntries, Config.entriesLow]; omega
  have hmemory : s.build.freeEntries < Config.memoryLow ↔ 3073 ≤ s.build.samples := by
    simp only [BuildUnit.freeEntries, Config.buildEntries, Config.memoryLow]; omega
  have hpending : Config.pendingCapacity ≤ s.agree.pendingTakes.length ↔ 4 ≤ s.agree.pendingTakes.length := Iff.rfl
  have hbuilds : Config.buildsHigh ≤ s.build.builds.length ↔ 6 ≤ s.build.builds.length := Iff.rfl
  simp only [State.holds, allHoldReasons, List.any_cons, List.any_nil, HoldReason.stands, Bool.or_eq_true,
    decide_eq_true_eq, Bool.false_eq_true, or_false, hdescriptors, hentries, hmemory, hpending, hbuilds]

theorem Personality.ne_listen_iff (p : Personality) : p ≠ .listen ↔ p = .sink ∨ p = .sinkTerm := by
  cases p <;> simp

/-- Settles O52. -/
theorem hldIsPulledForNineReasons : Obligations.HldIsPulledForNineReasons := by
  intro s
  simp only [State.drivesHld, Bool.and_eq_true, decide_eq_true_eq, State.mayDrive_iff, State.holds_iff,
    Personality.ne_listen_iff, and_assoc]

/-! ## The laws at reset -/

/-- The laws hold under RST, with the inspection port held at either level of ISCS. -/
theorem State.laws_of_reset (low : Bool) : 
    let t := State.reset.setLine (.held low)
    t.Coherent ∧ t.StoreInv ∧ t.OrderInv ∧ t.AgreeInv ∧ t.RosterInv ∧ t.BuildInv ∧ t.QueueInv ∧ t.TimerInv
      ∧ t.OfferInv ∧ t.SkipInv := by
  cases low <;>
    refine ⟨⟨?_, ?_, ?_, ?_, ?_, ?_, ?_, ?_, ?_⟩, ?_, ?_, ?_, ?_, ?_, ?_, ?_, ?_, ?_⟩ <;> decide

/-- Settles O53: no law looks at the index of free values or at the waiting commands, which RST_ASSERT keeps. -/
theorem lawsHoldAfterReset : Obligations.LawsHoldAfterReset := by
  rintro t (rfl | ⟨s, hs⟩)
  · exact State.laws_of_reset false
  · rw [State.after_eq hs]
    exact State.laws_of_reset s.insp.line.isLow

end Sys2Proof.Machine
end

section
/-! The blocks' coherence with the station's state and role, block by block, and that every step keeps it: what each
block must hold is said once, each write to a block asks for it, and the operations are chains of such writes. -/

namespace Sys2Proof.Machine

/-! ## Coherence, block by block -/

/-- R177: the states before ROLLCALL. -/
abbrev State.early (s : State) : Prop :=
  s.start.station = .loading ∨ s.start.station = .halted ∨ s.start.station = .listening

/-- R163, R177, R179: nothing of a trunk is held: before JOINING and RUNNING, and while restarting. -/
abbrev State.atRest (s : State) : Prop :=
  s.early ∨ s.start.station = .rollcall ∨ s.trig.restarting = true

/-- R20, R24, R28, R58: turns and records belong to a RUNNING acquirer that is not restarting. -/
abbrev State.drains (s : State) : Prop :=
  s.isAcquirer = true ∧ s.start.station = .running ∧ s.trig.restarting = false

/-- Coherence, as what each block must hold. -/
structure State.Fits (s : State) : Prop where
  pins : s.pins.rst = true → s.start.station = .loading ∧ s.start.imagePort = .idle
  muteAttr : s.unloaded = true ∨ s.isAcquirer = true → s.start.muteAttr = false
  mute : s.start.station = .mute → s.isAcquirer = true
  imagePort : s.start.station ≠ .loading → s.start.imagePort = .idle
  listenTimer : s.start.station ≠ .listening ∨ s.trig.restarting = true → s.start.listenTimer = none
  roll : s.start.station ≠ .rollcall ∨ s.trig.restarting = true ∧ s.start.muteAttr = false →
    s.start.rollTimer = none ∧ s.start.rollMet = false
  reason : s.start.rollCallReason = true →
    (s.start.station = .rollcall ∨ s.start.station = .mute) ∧ s.trig.restarting = false
  config : s.unloaded = true → s.config.trg = .listen ∧ s.config.hld = .listen ∧ s.config.dat = .listen
  trig : s.unloaded = true → s.trig.normalPulse = none ∧ s.trig.restartPulse = none ∧ s.trig.detector = none
    ∧ s.trig.restarting = false
  detector : s.trig.detector.isSome = true → s.trig.level = true ∧ s.trig.restarting = false
  restarting : s.trig.restarting = true → s.trig.level = true
  pulses : ¬ (s.trig.normalPulse.isSome = true ∧ s.trig.restartPulse.isSome = true)
  store : s.drains ∨ s.store = Store.empty
  agree : s.atRest → s.agree = Agreement.blank
  pendingTakes : s.isAcquirer = true ∧ (s.start.station = .running ∨ s.start.station = .silenced)
    ∨ s.agree.pendingTakes = []
  collector : s.isCollector = true → s.agree.evn = 0 ∧ s.agree.exhausted = false
  turn : s.atRest → s.turn = Turn.blank
  timer : s.drains ∨ s.turn.timer = .stopped
  roster : s.early ∨ s.trig.restarting = true → s.roster = Roster.blank
  queue : s.early ∨ s.start.station = .mute ∨ s.trig.restarting = true → s.frames.queue = Queue.empty
  takes : s.isCollector = true → s.frames.queue.takes = []
  dat : s.unloaded = true → s.frames.dat = .stopped ∧ s.frames.failures = 0
  build : s.atRest ∨ s.isAcquirer = true → s.build = BuildUnit.empty
  port : s.unloaded = true ∨ s.isAcquirer = true → s.port.state = .idle
  line : s.LineInPlace

@[simp] theorem State.unloaded_iff (s : State) :
    s.unloaded = true ↔ s.start.station = .loading ∨ s.start.station = .halted := by
  simp [State.unloaded]

theorem State.tracks_iff (s : State) : s.tracks = true ↔ s.start.station = .joining ∨ s.start.station = .running
    ∨ s.start.station = .silenced ∨ s.start.station = .mute := by
  unfold State.tracks; cases s.start.station <;> simp

theorem State.isCollector_iff (s : State) : s.isCollector = true ↔ ¬ s.isAcquirer = true := by
  unfold State.isCollector State.isAcquirer; cases s.pins.role <;> simp

theorem State.Fits.coherent {s : State} (h : s.Fits) : s.Coherent := by
  have hempty (hr : s.atRest) : s.Emptied := by
    refine ⟨h.store.resolve_left ?_, h.agree hr, h.turn hr, h.build (.inl hr)⟩
    rintro ⟨-, hrun, hres⟩
    simp [State.atRest, State.early, hrun, hres] at hr
  have hstation {P : Prop} (hd : s.drains ∨ P) (hn : s.start.station ≠ .running) : P :=
    hd.resolve_left fun d => hn d.2.1
  have hrole {P : Prop} (hd : s.drains ∨ P) (hc : s.isCollector = true) : P :=
    hd.resolve_left fun d => (State.isCollector_iff s).mp hc d.1
  refine ⟨h.pins, fun hu => ?_, ⟨fun hd => (h.detector hd).1, fun hr => ?_⟩, ⟨fun hs => hempty ?_, fun hs => ?_⟩,
    ⟨fun hs => ⟨hstation h.store hs, hstation h.timer hs⟩, fun hs => ?_, fun hm => ⟨h.mute hm, h.queue (.inr (.inl hm))⟩⟩,
    ⟨fun hc => ?_, fun ha => ⟨h.build (.inr ha), h.port (.inr ha), h.muteAttr (.inr ha)⟩⟩,
    ⟨fun hs => h.roll (.inl hs), fun hs => (h.reason hs).1, fun hs => h.listenTimer (.inl hs), h.pulses⟩, h.imagePort,
    h.line⟩
  · obtain ⟨htrg, hhld, hdat⟩ := h.config hu
    obtain ⟨hn, hp, hd, hr⟩ := h.trig hu
    exact ⟨htrg, hhld, hdat, (h.dat hu).1, (h.dat hu).2, h.port (.inl hu), h.muteAttr (.inl hu), hn, hp, hd, hr⟩
  · refine ⟨h.restarting hr, ?_, hempty (.inr (.inr hr)), h.roster (.inr hr), h.queue (.inr (.inr hr)),
      h.listenTimer (.inr hr), ?_, fun hm => h.roll (.inr ⟨hr, hm⟩)⟩
    · rw [← Option.not_isSome_iff_eq_none]
      intro hd
      exact absurd (h.detector hd).2 (by simp [hr])
    · rw [← Bool.not_eq_true]
      intro hreason
      exact absurd (h.reason hreason).2 (by simp [hr])
  · rcases hs with hs | hs | hs | hs <;> simp [State.atRest, State.early, hs]
  · exact ⟨h.roster (.inl hs), h.queue (.inl hs)⟩
  · exact h.pendingTakes.resolve_left fun hp => hp.2.elim hs.1 hs.2
  · have hp := h.pendingTakes.resolve_left fun hp => (State.isCollector_iff s).mp hc hp.1
    exact ⟨hrole h.store hc, (h.collector hc).1, hp, (h.collector hc).2, hrole h.timer hc, h.takes hc⟩

theorem State.Coherent.fits {s : State} (h : s.Coherent) : s.Fits := by
  obtain ⟨hreset, hunloaded, ⟨hdetector, hrestart⟩, ⟨hempty, hearly⟩, ⟨hstation, hpending, hmute⟩,
    ⟨hcollector, hacquirer⟩, ⟨hroll, hreason, hlisten, hpulses⟩, hread, hline⟩ := h
  have hrest (hr : s.atRest) : s.Emptied := by
    rcases hr with hr | hr | hr
    · exact hempty (hr.imp_right (Or.imp_right .inl))
    · exact hempty (.inr (.inr (.inr hr)))
    · exact (hrestart hr).2.2.1
  have hrole : s.isAcquirer = true ∨ s.isCollector = true := by rw [State.isCollector_iff]; exact em _
  have hdrains {P : Prop} (h1 : s.start.station ≠ .running → P) (h2 : s.isCollector = true → P)
      (h3 : s.trig.restarting = true → P) : s.drains ∨ P := by
    by_cases hP : P
    · exact .inr hP
    · refine .inl ⟨hrole.resolve_right fun hc => hP (h2 hc), not_not.mp fun hn => hP (h1 hn), ?_⟩
      rw [← Bool.not_eq_true]
      exact fun hr => hP (h3 hr)
  constructor
  case pins => exact hreset
  case muteAttr =>
    rintro (hu | ha)
    · exact (hunloaded hu).2.2.2.2.2.2.1
    · exact (hacquirer ha).2.2
  case mute => exact fun hm => (hmute hm).1
  case imagePort => exact hread
  case listenTimer =>
    rintro (hs | hr)
    · exact hlisten hs
    · exact (hrestart hr).2.2.2.2.2.1
  case roll =>
    rintro (hs | ⟨hr, hm⟩)
    · exact hroll hs
    · exact (hrestart hr).2.2.2.2.2.2.2 hm
  case reason =>
    refine fun hs => ⟨hreason hs, ?_⟩
    rw [← Bool.not_eq_true]
    intro hr
    obtain ⟨-, -, -, -, -, -, hn, -⟩ := hrestart hr
    simp [hs] at hn
  case config => exact fun hu => ⟨(hunloaded hu).1, (hunloaded hu).2.1, (hunloaded hu).2.2.1⟩
  case trig =>
    intro hu
    obtain ⟨-, -, -, -, -, -, -, hn, hp, hd, hr⟩ := hunloaded hu
    exact ⟨hn, hp, hd, hr⟩
  case detector =>
    refine fun hd => ⟨hdetector hd, ?_⟩
    rw [← Bool.not_eq_true]
    intro hr
    simp [(hrestart hr).2.1] at hd
  case restarting => exact fun hr => (hrestart hr).1
  case pulses => exact hpulses
  case store =>
    exact hdrains (fun hn => (hstation hn).1) (fun hc => (hcollector hc).1) fun hr => (hrestart hr).2.2.1.1
  case agree => exact fun hr => (hrest hr).2.1
  case pendingTakes =>
    by_cases hs : s.start.station = .running ∨ s.start.station = .silenced
    · exact hrole.imp (fun ha => ⟨ha, hs⟩) fun hc => (hcollector hc).2.2.1
    · exact .inr (hpending (not_or.mp hs))
  case collector => exact fun hc => ⟨(hcollector hc).2.1, (hcollector hc).2.2.2.1⟩
  case turn => exact fun hr => (hrest hr).2.2.1
  case timer =>
    refine hdrains (fun hn => (hstation hn).2) (fun hc => (hcollector hc).2.2.2.2.1) fun hr => ?_
    rw [(hrestart hr).2.2.1.2.2.1]
    rfl
  case roster =>
    rintro (hs | hr)
    · exact (hearly hs).1
    · exact (hrestart hr).2.2.2.1
  case queue =>
    rintro (hs | hm | hr)
    · exact (hearly hs).2
    · exact (hmute hm).2
    · exact (hrestart hr).2.2.2.2.1
  case takes => exact fun hc => (hcollector hc).2.2.2.2.2
  case dat => exact fun hu => ⟨(hunloaded hu).2.2.2.1, (hunloaded hu).2.2.2.2.1⟩
  case build =>
    rintro (hr | ha)
    · exact (hrest hr).2.2.2
    · exact (hacquirer ha).1
  case port =>
    rintro (hu | ha)
    · exact (hunloaded hu).2.2.2.2.2.1
    · exact (hacquirer ha).2.1
  case line => exact hline

/-! ## What the blocks rest on -/

theorem State.drains.tracks {s : State} (h : s.drains) : s.tracks = true := by simp [State.tracks_iff, h.2.1]

/-- In JOINING, RUNNING, SILENCED and MUTE, while no restart runs, the blocks are in use. -/
theorem State.not_early {s : State} (ht : s.tracks = true) : ¬ s.early := by
  rcases (s.tracks_iff).mp ht with h | h | h | h <;> simp [State.early, h]

theorem State.not_atRest {s : State} (ht : s.tracks = true) (hr : s.trig.restarting = false) : ¬ s.atRest := by
  rcases (s.tracks_iff).mp ht with h | h | h | h <;> simp [State.atRest, State.early, h, hr]

theorem State.drains.not_atRest {s : State} (h : s.drains) : ¬ s.atRest := State.not_atRest h.tracks h.2.2

theorem State.order_of_blank {s : State} (h : s.roster = Roster.blank) : s.order = [] := by
  rw [State.order, List.filter_eq_nil_iff]
  intro a _
  rw [State.entry_of_blank h]
  decide

/-- R49: a station that takes turns is a RUNNING acquirer, and no restart runs. -/
theorem State.Fits.drains_of_takesTurns {s : State} (h : s.Fits) (ht : s.takesTurns = true) : s.drains := by
  simp only [State.takesTurns, Bool.and_eq_true, decide_eq_true_eq] at ht
  obtain ⟨⟨hacq, hrun⟩, hmem⟩ := ht
  refine ⟨hacq, hrun, ?_⟩
  rw [← Bool.not_eq_true]
  intro hr
  rw [State.order_of_blank (h.roster (.inr hr))] at hmem
  exact absurd hmem List.not_mem_nil

theorem State.watchedNow_of_no_turns {s : State} (h : s.takesTurns = false) : s.watchedNow = none := by
  simp [State.watchedNow, h]

theorem State.takesTurns_of_ownTurn {s : State} {n : Nat} (h : s.ownTurn = some n) : s.takesTurns = true := by
  unfold State.ownTurn at h
  split at h
  · assumption
  · exact absurd h (by simp)

/-! ## Writing one block -/

namespace State.Fits

variable {s : State}

theorem setStore (h : s.Fits) {x : Store} (hx : s.drains ∨ x = Store.empty) : (s.setStore x).Fits :=
  { h with store := hx }

theorem setInsp (h : s.Fits) {x : Inspection} (hx : x.line = s.insp.line) : (s.setInsp x).Fits :=
  { h with line := by have hline := h.line; rw [State.LineInPlace, ← hx] at hline; exact hline }

theorem setLine (h : s.Fits) (hrst : s.pins.rst = false) {x : InspectionLine} (hx : x ≠ .held false) :
    (s.setLine x).Fits :=
  { h with line := ⟨fun hr => absurd (hrst.symm.trans hr) (by simp), fun _ => hx⟩ }

theorem setRoster (h : s.Fits) {x : Roster} (hx : s.early ∨ s.trig.restarting = true → x = Roster.blank) :
    (s.setRoster x).Fits :=
  { h with roster := hx }

theorem setTime (h : s.Fits) (x : TimeBase) : (s.setTime x).Fits := { h with }

theorem setFreeIndex (h : s.Fits) (x : Nat) : (s.setFreeIndex x).Fits := { h with }

theorem setTurn (h : s.Fits) {x : Turn} (hx : s.atRest → x = Turn.blank) (ht : s.drains ∨ x.timer = .stopped) :
    (s.setTurn x).Fits :=
  { h with turn := hx, timer := ht }

theorem setAgree (h : s.Fits) {x : Agreement} (hx : s.atRest → x = Agreement.blank)
    (hp : s.isAcquirer = true ∧ (s.start.station = .running ∨ s.start.station = .silenced) ∨ x.pendingTakes = [])
    (hc : s.isCollector = true → x.evn = 0 ∧ x.exhausted = false) : (s.setAgree x).Fits :=
  { h with agree := hx, pendingTakes := hp, collector := hc }

theorem setFrames (h : s.Fits) {x : FrameUnit}
    (hq : s.early ∨ s.start.station = .mute ∨ s.trig.restarting = true → x.queue = Queue.empty)
    (ht : s.isCollector = true → x.queue.takes = [])
    (hd : s.unloaded = true → x.dat = .stopped ∧ x.failures = 0) : (s.setFrames x).Fits :=
  { h with queue := hq, takes := ht, dat := hd }

theorem setQueue (h : s.Fits) {x : Queue}
    (hq : s.early ∨ s.start.station = .mute ∨ s.trig.restarting = true → x = Queue.empty)
    (ht : s.isCollector = true → x.takes = []) : (s.setQueue x).Fits :=
  h.setFrames hq ht h.dat

/-- A change of the queue that fills none of its places and adds no TAKE frame. -/
theorem mapQueue (h : s.Fits) (f : Queue → Queue) (hq : f Queue.empty = Queue.empty)
    (ht : s.frames.queue.takes = [] → (f s.frames.queue).takes = []) : (s.setQueue (f s.frames.queue)).Fits :=
  h.setQueue (fun he => (congrArg f (h.queue he)).trans hq) fun hc => ht (h.takes hc)

theorem setBuild (h : s.Fits) {x : BuildUnit} (hx : s.atRest ∨ s.isAcquirer = true → x = BuildUnit.empty) :
    (s.setBuild x).Fits :=
  { h with build := hx }

/-- A change of the build unit that adds no build to an empty table. -/
theorem mapBuild (h : s.Fits) (f : BuildUnit → BuildUnit) (hf : f BuildUnit.empty = BuildUnit.empty) :
    (s.setBuild (f s.build)).Fits :=
  h.setBuild fun he => (congrArg f (h.build he)).trans hf

theorem setPort (h : s.Fits) {x : DeliveryPort}
    (hx : s.unloaded = true ∨ s.isAcquirer = true → x.state = .idle) : (s.setPort x).Fits :=
  { h with port := hx }

/-- The trigger unit outside LOADING and HALTED, the restart neither begun nor ended. -/
theorem setTrig (h : s.Fits) {x : Trigger} (hu : s.unloaded = true → x = s.trig)
    (hr : x.restarting = s.trig.restarting) (hd : x.detector.isSome = true → x.level = true ∧ x.restarting = false)
    (hl : x.restarting = true → x.level = true)
    (hp : ¬ (x.normalPulse.isSome = true ∧ x.restartPulse.isSome = true)) : (s.setTrig x).Fits := by
  have hdrains : (s.setTrig x).drains ↔ s.drains := by
    simp only [State.drains, State.setTrig_start, State.setTrig_trig, hr]
    exact Iff.rfl
  have hrest : (s.setTrig x).atRest ↔ s.atRest := by simp [State.atRest, State.early, hr]
  exact { h with
    listenTimer := by simpa [hr] using h.listenTimer
    roll := by simpa [hr] using h.roll
    reason := by simpa [hr] using h.reason
    trig := fun hs => by rw [State.setTrig_trig, hu hs]; exact h.trig hs
    detector := hd, restarting := hl, pulses := hp
    store := h.store.imp_left hdrains.mpr
    agree := fun hs => h.agree (hrest.mp hs)
    turn := fun hs => h.turn (hrest.mp hs)
    timer := h.timer.imp_left hdrains.mpr
    roster := by simpa [State.early, hr] using h.roster
    queue := by simpa [State.early, hr] using h.queue
    build := fun hs => h.build (hs.imp_left hrest.mp) }

/-! ## Operations over the blocks -/

theorem bump (h : s.Fits) (c : Counter) : (s.bump c).Fits := h.setInsp rfl

theorem raise (h : s.Fits) (code : FaultCode) (x : Nat) : (s.raise code x).Fits := h.setInsp rfl

theorem setEntry (h : s.Fits) (ht : ¬ s.early) (hr : s.trig.restarting = false) (a : Addr) (e : RosterEntry) :
    (s.setEntry a e).Fits :=
  h.setRoster fun hs => absurd hs (by simp [ht, hr])

theorem withdrawSkip (h : s.Fits) : s.withdrawSkip.Fits :=
  h.mapQueue (fun q => { q with skip := Place.withdraw q.skip }) rfl id

theorem withdrawFrag (h : s.Fits) : s.withdrawFrag.Fits :=
  h.mapQueue (fun q => { q with frag := Place.withdraw q.frag }) rfl id

theorem dropSkip (h : s.Fits) : s.dropSkip.Fits := by
  unfold State.dropSkip
  split
  · exact h.withdrawSkip
  · exact h

theorem refreshRoll (h : s.Fits) : s.refreshRoll.Fits := by
  unfold State.refreshRoll
  split
  · next p hp =>
    split
    · exact h
    · refine h.setQueue (fun hq => ?_) h.takes
      rw [h.queue hq] at hp
      exact absurd hp (by simp [Queue.empty])
  · exact h

/-- R74: a ROLL frame is offered where the station may send one. -/
theorem offerRoll (h : s.Fits) (he : ¬ s.early) (hr : s.trig.restarting = false) (m : RollMode) :
    (s.offerRoll m).Fits := by
  unfold State.offerRoll
  split
  · exact h
  · next hm =>
    simp only [Bool.or_eq_true, decide_eq_true_eq, not_or] at hm
    exact h.setQueue (fun hq => absurd hq (by simp only [he, hm.2, hr]; simp)) h.takes

theorem removeDrained (h : s.Fits) : s.removeDrained.Fits :=
  h.setAgree (fun hr => by simp [h.agree hr, Agreement.blank]) h.pendingTakes h.collector

theorem evalTimer (h : s.Fits) : s.evalTimer.Fits := by
  have hquiet (hd : ¬ s.drains) : s.watchedNow = none :=
    State.watchedNow_of_no_turns (Bool.not_eq_true _ ▸ fun ht => hd (h.drains_of_takesTurns ht))
  have hstands (hd : ¬ s.drains) : s.timerStands = false := by
    simp [State.timerStands, h.timer.resolve_left hd]
  have hfresh (hd : ¬ s.drains) : s.freshTimer = .stopped := by simp [State.freshTimer, hquiet hd]
  refine (?_ : State.Fits (if s.timerStands then s else s.dropSkip)).setTurn (fun hr => ?_) ?_
  · split
    · exact h
    · exact h.dropSkip
  · have hr : s.atRest := by revert hr; split <;> simp [State.atRest, State.early]
    have hd : ¬ s.drains := fun hd => hd.not_atRest hr
    simp [hstands hd, hfresh hd, hquiet hd, State.heardNow, h.turn hr, Turn.blank]
  · by_cases hd : s.drains
    · left
      split
      · exact hd
      · simpa [State.drains, State.isAcquirer] using hd
    · exact .inr (by simp [hstands hd, hfresh hd])

theorem reassess (h : s.Fits) : s.reassess.Fits := h.removeDrained.evalTimer

theorem stopTimer (h : s.Fits) : s.stopTimer.Fits := by
  refine h.dropSkip.setTurn (fun hr => ?_) (.inr rfl)
  have hr : s.atRest := by simpa [State.atRest, State.early] using hr
  simp [h.turn hr, Turn.blank]

theorem offerFrag (h : s.Fits) (hd : s.drains) (f : FragFrame) : (s.offerFrag f).Fits :=
  h.setQueue (fun hq => absurd hq (by simp [State.early, hd.2.1, hd.2.2])) h.takes

theorem markSending (h : s.Fits) (hd : s.drains) (n : Nat) : (s.markSending n).Fits := h.setStore (.inl hd)

theorem offerParts (h : s.Fits) : s.offerParts.Fits := by
  unfold State.offerParts
  split
  · exact h.withdrawFrag
  · next n hn =>
    have hd := h.drains_of_takesTurns (State.takesTurns_of_ownTurn hn)
    split
    · exact h.withdrawFrag
    · split
      · exact h
      · exact (h.offerFrag hd _).markSending hd n

theorem settleBuilds (h : s.Fits) (l : List Addr) : (s.settleBuilds l).Fits :=
  h.mapBuild (fun u => { u with builds := u.builds.map (s.settleBuild (l.filter fun a => a ∉ s.order)) }) rfl

/-- R109: a build is handed over by a loaded collector alone. -/
theorem startDelivery (h : s.Fits) : s.startDelivery.Fits := by
  unfold State.startDelivery
  split
  · next b rest _ hb =>
    split
    · have hn {P : Prop} (hs : s.atRest ∨ s.isAcquirer = true) : P := by
        rw [h.build hs] at hb
        exact absurd hb (by simp [BuildUnit.empty])
      refine State.Fits.setPort (h.setBuild hn) fun hs => hn (hs.imp_left fun hu => ?_)
      exact .inl (((s.unloaded_iff).mp hu).imp_right .inl)
    · exact h
  · exact h

theorem settle (h : s.Fits) (l : List Addr) : (s.settle l).Fits :=
  (h.reassess.offerParts.refreshRoll.settleBuilds l).startDelivery

end State.Fits

end Sys2Proof.Machine
end

section
/-! Receptions keep every block to what the station's state and role allow: the owners of a frame write their blocks
while the station tracks the trunk, and the changes of the station's state empty the blocks they close. -/

namespace Sys2Proof.Machine

/-- A station whose blocks fit and are in use: in JOINING, RUNNING, SILENCED or MUTE, and not restarting. -/
structure State.Live (s : State) : Prop extends s.Fits where
  tracks : s.tracks = true
  still : s.trig.restarting = false

namespace State.Live

variable {s : State}

/-! ## Writing one block -/

theorem setAgree (h : s.Live) {x : Agreement}
    (hp : s.isAcquirer = true ∧ (s.start.station = .running ∨ s.start.station = .silenced) ∨ x.pendingTakes = [])
    (hc : s.isCollector = true → x.evn = 0 ∧ x.exhausted = false) : (s.setAgree x).Live :=
  ⟨h.toFits.setAgree (fun hr => absurd hr (State.not_atRest h.tracks h.still)) hp hc, h.tracks, h.still⟩

theorem setStore (h : s.Live) {x : Store} (hx : s.store = Store.empty → x = Store.empty) : (s.setStore x).Live :=
  ⟨h.toFits.setStore (h.store.imp_right hx), h.tracks, h.still⟩

theorem setRoster (h : s.Live) (x : Roster) : (s.setRoster x).Live :=
  ⟨h.toFits.setRoster fun he => absurd he (by simp [State.not_early h.tracks, h.still]), h.tracks, h.still⟩

theorem setTurn (h : s.Live) {x : Turn} (hx : s.turn.timer = .stopped → x.timer = .stopped) : (s.setTurn x).Live :=
  ⟨h.toFits.setTurn (fun hr => absurd hr (State.not_atRest h.tracks h.still)) (h.timer.imp_right hx), h.tracks,
    h.still⟩

theorem setInsp (h : s.Live) {x : Inspection} (hx : x.line = s.insp.line) : (s.setInsp x).Live :=
  ⟨h.toFits.setInsp hx, h.tracks, h.still⟩

theorem setTime (h : s.Live) (x : TimeBase) : (s.setTime x).Live := ⟨h.toFits.setTime x, h.tracks, h.still⟩

theorem setFreeIndex (h : s.Live) (x : Nat) : (s.setFreeIndex x).Live := ⟨h.toFits.setFreeIndex x, h.tracks, h.still⟩

theorem mapQueue (h : s.Live) (f : Queue → Queue) (hq : f Queue.empty = Queue.empty)
    (ht : s.frames.queue.takes = [] → (f s.frames.queue).takes = []) : (s.setQueue (f s.frames.queue)).Live :=
  ⟨h.toFits.mapQueue f hq ht, h.tracks, h.still⟩

theorem mapBuild (h : s.Live) (f : BuildUnit → BuildUnit) (hf : f BuildUnit.empty = BuildUnit.empty) :
    (s.setBuild (f s.build)).Live :=
  ⟨h.toFits.mapBuild f hf, h.tracks, h.still⟩

/-- A collector writes its build unit. -/
theorem setBuild (h : s.Live) (hc : s.isCollector = true) (x : BuildUnit) : (s.setBuild x).Live := by
  refine ⟨h.toFits.setBuild ?_, h.tracks, h.still⟩
  rintro (hr | ha)
  · exact absurd hr (State.not_atRest h.tracks h.still)
  · exact absurd ha ((State.isCollector_iff s).mp hc)

theorem bump (h : s.Live) (c : Counter) : (s.bump c).Live := h.setInsp rfl

theorem raise (h : s.Live) (code : FaultCode) (x : Nat) : (s.raise code x).Live := h.setInsp rfl

theorem setEntry (h : s.Live) (a : Addr) (e : RosterEntry) : (s.setEntry a e).Live := h.setRoster _

/-! ## The agreement unit -/

theorem reassess (h : s.Live) : s.reassess.Live :=
  ⟨h.toFits.reassess, by simpa [State.tracks] using h.tracks, by simpa using h.still⟩

/-- A change of the take list, the high take and the list's reason alone. -/
theorem setList (h : s.Live) (l : List TakeEntry) (high : Nat) (full : Bool) :
    (s.setAgree { s.agree with takeList := l, highTake := high, listFull := full }).Live :=
  h.setAgree h.pendingTakes h.collector

theorem refuseTake (h : s.Live) (n : Nat) : (s.refuseTake n).Live := by
  unfold State.refuseTake
  split
  · exact h
  · exact (h.setList s.agree.takeList s.agree.highTake true).raise _ _

/-- R40: an acquirer alone numbers events, so a collector is never exhausted. -/
theorem becomeExhausted (h : s.Live) (ha : s.isAcquirer = true) (n : Nat) : (s.becomeExhausted n).Live :=
  (h.setAgree (x := { s.agree with evn := 0, exhausted := true }) h.pendingTakes
    fun hc => absurd ha ((State.isCollector_iff s).mp hc)).raise _ _

theorem setEvn (h : s.Live) (ha : s.isAcquirer = true) (n : Nat) : (s.setAgree { s.agree with evn := n }).Live :=
  h.setAgree h.pendingTakes fun hc => absurd ha ((State.isCollector_iff s).mp hc)

theorem fillBuilds (h : s.Live) (n : Nat) (t : Time) : (s.fillBuilds n t).Live :=
  h.mapBuild (fun u => { u with builds := u.builds.map fun b =>
    if b.number = n ∧ b.state = .opened ∧ b.time = none then { b with time := some t } else b }) rfl

theorem fillTake (h : s.Live) (n : Nat) (t : Time) : (s.fillTake n t).Live := by
  unfold State.fillTake
  split
  · exact (h.setList _ s.agree.highTake s.agree.listFull).fillBuilds n t
  · exact h

theorem appendTake (h : s.Live) (n : Nat) (t : Time) : (s.appendTake n t).Live :=
  (h.setList _ n s.agree.listFull).fillBuilds n t

theorem catchUp (h : s.Live) (ha : s.isAcquirer = true) (n : Nat) : (s.catchUp n).Live := by
  unfold State.catchUp
  split
  · exact h
  · split
    · exact (h.bump _).becomeExhausted ha n
    · exact (h.bump _).setEvn ha _

theorem shiftEvn (h : s.Live) (ha : s.isAcquirer = true) (o n : Nat) (l : List PendingTake) :
    (s.shiftEvn o n l).Live := by
  unfold State.shiftEvn
  split
  · exact h.becomeExhausted ha _
  · split
    · exact h
    · split
      · exact h.becomeExhausted ha _
      · exact h.setEvn ha _

theorem shiftTakes (h : s.Live) (shift : Nat → Option Nat) : (s.shiftTakes shift).Live :=
  h.mapQueue (fun q => { q with takes := q.takes.filterMap fun p =>
      match (shift p.frame.number.toNat) with
      | none => Place.withdraw (some p)
      | some k => Place.offer { p.frame with number := BitVec.ofNat 32 k } (some p) }) rfl
    fun ht => by simp [ht]

theorem renumber (h : s.Live) (ha : s.isAcquirer = true) (o n : Nat) : (s.renumber o n).Live := by
  have hpending := h.pendingTakes.imp_right fun hp => congrArg (shiftPending o n) hp
  have h1 := (h.setAgree (x := { s.agree with pendingTakes := shiftPending o n s.agree.pendingTakes })
    hpending h.collector).shiftTakes (shiftNumber o n)
  refine ((h1.setStore fun he => ?_).shiftEvn ha o n s.agree.pendingTakes).bump _
  rw [he]
  rfl

theorem modifyStore (h : s.Live) (n : Nat) (f : Record → Record) : (s.setStore (s.store.modify n f)).Live :=
  h.setStore fun he => by rw [he]; rfl

theorem takePair (h : s.Live) (n : Nat) (t e : Time) : (s.takePair n t e).Live := by
  unfold State.takePair
  split
  · exact h.setTime _
  · split
    · exact (h.modifyStore n _).bump _
    · exact h

theorem withdrawTake (h : s.Live) (n : Nat) : (s.withdrawTake n).Live :=
  h.mapQueue (fun q => { q with takes := q.takes.filterMap fun p =>
    if p.frame.number.toNat = n then Place.withdraw (some p) else some p }) rfl fun ht => by simp [ht]

theorem answer (h : s.Live) (n : Nat) (t : Time) : (s.answer n t).Live := by
  unfold State.answer
  split
  · exact h
  · next p rest hp =>
    have hpending := h.pendingTakes.resolve_right (by simp [hp])
    exact (((h.setAgree (x := { s.agree with pendingTakes := rest }) (.inl hpending) h.collector).withdrawTake
      n).modifyStore n _).takePair n t p.edgeTime

theorem matchTake (h : s.Live) (n : Nat) (t : Time) : (s.matchTake n t).Live := by
  unfold State.matchTake
  split
  · exact h
  · next hm =>
    have ha : s.isAcquirer = true := by simp_all [State.matches]
    split
    · exact h.catchUp ha n
    · refine State.Live.answer ?_ n t
      split
      · exact h
      · exact h.renumber ha _ n

theorem handleTake (h : s.Live) (n : Nat) (t : Time) : (s.handleTake n t).Live := by
  unfold State.handleTake
  split
  · exact h.fillTake n t
  · split
    · exact h.bump _
    · split
      · exact (h.refuseTake n).matchTake n t
      · exact (h.appendTake n t).matchTake n t

theorem raiseHighTake (h : s.Live) (n : Nat) : (s.raiseHighTake n).Live := by
  unfold State.raiseHighTake
  split
  · exact h.setList s.agree.takeList _ s.agree.listFull
  · exact h

theorem impliedTake (h : s.Live) (n : Nat) : (s.impliedTake n).Live := by
  unfold State.impliedTake
  split
  · exact h
  · split
    · exact h
    · split
      · exact h.refuseTake n
      · split
        · exact h
        · exact h.setList _ _ s.agree.listFull

theorem hearEvent (h : s.Live) (n : Nat) : (s.hearEvent n).Live := (h.raiseHighTake _).impliedTake n

/-! ## Parts and SKIPs -/

theorem learn (h : s.Live) (m : Addr) (n : Nat) : (s.learn m n).Live := by
  unfold State.learn
  dsimp only
  split
  · exact h.setEntry _ _
  · exact h

theorem hearMember (h : s.Live) (m : Addr) (n : Nat) : (s.hearMember m n).Live := (h.learn m n).reassess

theorem passImplied (h : s.Live) (m : Addr) (n : Nat) : (s.passImplied m n).Live := by
  have hfold (l : List Addr) : ∀ {s : State}, s.Live → (l.foldl (fun s a => s.raiseMark a n) s).Live := by
    induction l with
    | nil => exact id
    | cons a l ih => exact fun h => ih (h.setEntry _ _)
  exact (hfold _ h).setEntry _ _

/-- R61: a SKIP is withdrawn while its turn timer is SKIPPING. -/
theorem withdrawSkip (h : s.Live) : s.withdrawSkip.Live :=
  ⟨h.toFits.withdrawSkip, by simpa [State.tracks] using h.tracks, by simpa using h.still⟩

theorem stopTimer (h : s.Live) : s.stopTimer.Live :=
  ⟨h.toFits.stopTimer, by simpa [State.tracks] using h.tracks, by simpa using h.still⟩

theorem countPart (h : s.Live) (m : Addr) (n : Nat) : (s.countPart m n).Live := by
  unfold State.countPart
  split
  · dsimp only
    split
    · exact h.setTurn id
    · next ht => exact h.setTurn (by simp [ht])
    · next ht => exact h.withdrawSkip.setTurn (by simp [ht])
  · exact h

theorem currentPart (h : s.Live) (f : FragFrame) : (s.currentPart f).Live := by
  unfold State.currentPart
  dsimp only
  split
  · exact State.Live.reassess ((h.passImplied _ _).setEntry _ _)
  · exact (h.passImplied _ _).reassess.countPart _ _

theorem removeRecord (h : s.Live) (n : Nat) : (s.setStore (s.store.remove n)).Live :=
  h.setStore fun he => by rw [he]; rfl

theorem storePart (h : s.Live) (f : FragFrame) : (s.storePart f).Live := by
  unfold State.storePart
  dsimp only
  split
  · split
    · split
      · exact h.removeRecord _
      · exact h.modifyStore _ _
    · exact h
  · exact h

/-- R94: the build unit is a collector's. -/
theorem buildFrame (h : s.Live) (n : Nat) (stamp : Option Time) {apply : Build → State → State}
    (happly : ∀ {s : State} (b : Build), s.Live → s.isCollector = true → (apply b s).Live) :
    (s.buildFrame n stamp apply).Live := by
  unfold State.buildFrame
  split
  · exact h
  · next hb =>
    have hc : s.isCollector = true := by simp_all [State.builds]
    split
    · exact h.bump _
    · split
      · split
        · exact happly _ h hc
        · exact h.bump _
      · split
        · exact (h.bump _).raise _ _
        · exact happly _ (h.setBuild hc _) hc

theorem applyPart (h : s.Live) (hc : s.isCollector = true) (f : FragFrame) (b : Build) : (s.applyPart f b).Live := by
  have hput (b' : Build) : (s.putBuild b').Live := h.setBuild hc _
  unfold State.applyPart
  dsimp only
  split
  · exact h
  · split <;> split
    · exact ((hput _).bump _).setFreeIndex _
    · exact (hput _).setFreeIndex _
    · exact (hput _).bump _
    · exact hput _

theorem applySkip (h : s.Live) (hc : s.isCollector = true) (f : SkipFrame) (b : Build) : (s.applySkip f b).Live := by
  unfold State.applySkip
  dsimp only
  split
  · exact h
  · exact h.setBuild hc _

theorem handleFrag (h : s.Live) (own : Bool) (f : FragFrame) : (s.handleFrag own f).Live := by
  have ite {g : Bool} {t u : State} (ht : t.Live) (hu : u.Live) : (if g then t else u).Live := by
    split <;> assumption
  have hheard := (h.hearEvent f.number.toNat).hearMember f.sender f.number.toNat
  unfold State.handleFrag
  dsimp only
  refine ite h (ite (State.Live.buildFrame ?_ _ _ fun b hs hc => hs.applyPart hc f b) ?_) <;>
    exact ite (State.Live.storePart (ite hheard (ite (hheard.bump _) (hheard.currentPart f))) f)
      (ite hheard (ite (hheard.bump _) (hheard.currentPart f)))

end State.Live

end Sys2Proof.Machine
end

section
/-! Every step keeps the blocks to what the station's state and role allow: SKIPs, ROLL frames, the changes of the
station's state, and the other events, down to the step. -/

namespace Sys2Proof.Machine

/-- R84: the order of the emptying and of the change of state makes no difference. -/
theorem State.enterSilenced_eq (s : State) : s.enterSilenced =
    ((((s.setStore Store.empty).withdrawFrag).withdrawSkip).setTurn Turn.blank).setStation .silenced := rfl

/-- R62, R81: a SKIP as its owners find the station: the trunk's count shown, the subject learned, the own SKIP
counted. -/
def State.skipHeard (own : Bool) (f : SkipFrame) (s : State) : State :=
  if own then ((s.hearEvent f.number.toNat).hearMember f.subject f.number.toNat).ownSkip
  else (s.hearEvent f.number.toNat).hearMember f.subject f.number.toNat

/-- R62, R63, R94: what a SKIP does where SKIPs reach the roster. -/
theorem State.handleSkip_of_tracks {s : State} (own : Bool) (f : SkipFrame) (h : s.tracks = true) :
    s.handleSkip own f =
      if (s.skipHeard own f).isMember f.subject && (s.skipHeard own f).mark f.subject < f.number.toNat then
        ((s.skipHeard own f).skipTurn f.subject f.number.toNat).reassess.buildFrame f.number.toNat
          ((s.hearEvent f.number.toNat).takeTime f.number.toNat) (State.applySkip f)
      else s.skipHeard own f := by
  simp only [State.handleSkip, h, Bool.not_true, Bool.false_eq_true, if_false]
  rfl

namespace State.Live

variable {s : State}

/-! ## SKIPs -/

theorem ownSkip (h : s.Live) : s.ownSkip.Live := by
  unfold State.ownSkip
  split
  · exact (h.bump _).setTurn fun _ => rfl
  · exact h.bump _

theorem withdrawSkipFor (h : s.Live) (m : Addr) : (s.withdrawSkipFor m).Live := by
  unfold State.withdrawSkipFor
  split
  · split
    · exact h.stopTimer
    · exact h
  · exact h

theorem dropRecord (h : s.Live) (n : Nat) : (s.dropRecord n).Live := by
  unfold State.dropRecord
  split
  · exact (h.removeRecord _).bump _
  · exact h

theorem offerRoll (h : s.Live) (m : RollMode) : (s.offerRoll m).Live :=
  ⟨h.toFits.offerRoll (State.not_early h.tracks) h.still m, by simpa [State.tracks] using h.tracks, by simpa using h.still⟩

/-- A station with no record and no turn timer goes to RUNNING or to SILENCED. -/
theorem setStation (h : s.Live) {x : StationState} (hx : x = .running ∨ x = .silenced)
    (hm : s.start.station ≠ .mute) (hs : s.store = Store.empty) (ht : s.turn.timer = .stopped) :
    (s.setStation x).Live := by
  have hrest : ¬ s.atRest := State.not_atRest h.tracks h.still
  have hloaded : ¬ s.unloaded = true := by rw [State.unloaded_iff]; exact fun hu => hrest (.inl (hu.imp_right .inl))
  have hrst : ¬ s.pins.rst = true := fun hr => hloaded ((s.unloaded_iff).mpr (.inl (h.pins hr).1))
  have hloading : s.start.station ≠ .loading := fun hl => hloaded ((s.unloaded_iff).mpr (.inl hl))
  have hlistening : s.start.station ≠ .listening := fun hl => hrest (.inl (.inr (.inr hl)))
  have hrollcall : s.start.station ≠ .rollcall := fun hr => hrest (.inr (.inl hr))
  have htracks : (s.setStation x).tracks = true := by rw [State.tracks_iff]; rcases hx with rfl | rfl <;> simp
  have hrest' : ¬ (s.setStation x).atRest := State.not_atRest htracks h.still
  have hloaded' : ¬ (s.setStation x).unloaded = true := by
    rw [State.unloaded_iff]; exact fun hu => hrest' (.inl (hu.imp_right .inl))
  have hmute' : x ≠ .mute := by rcases hx with rfl | rfl <;> simp
  refine ⟨{ h.toFits with
    pins := fun hr => absurd hr hrst
    muteAttr := fun hu => h.muteAttr (hu.imp_left fun hl => absurd hl hloaded')
    mute := fun he => absurd he hmute'
    imagePort := fun _ => h.imagePort hloading
    listenTimer := fun _ => h.listenTimer (.inl hlistening)
    roll := fun _ => h.roll (.inl hrollcall)
    reason := fun hr => absurd ((h.reason hr).1) (by simp [hrollcall, hm])
    config := fun hu => absurd hu hloaded'
    trig := fun hu => absurd hu hloaded'
    store := .inr hs
    agree := fun hr => absurd hr hrest'
    pendingTakes := h.pendingTakes.imp_left fun hp => ⟨hp.1, hx⟩
    turn := fun hr => absurd hr hrest'
    timer := .inr ht
    roster := fun hr => absurd (hr.imp_right Or.inr) hrest'
    queue := fun hq => hq.elim (fun he => absurd he (State.not_early htracks)) fun hq =>
      hq.elim (fun he => absurd he hmute') fun hr => absurd hr (by simp [h.still])
    dat := fun hu => absurd hu hloaded'
    build := fun hb => hb.elim (fun hr => absurd hr hrest') fun ha => h.build (.inr ha)
    port := fun hp => hp.elim (fun hu => absurd hu hloaded') fun ha => h.port (.inr ha) }, htracks, h.still⟩

theorem withdrawFrag (h : s.Live) : s.withdrawFrag.Live := ⟨h.toFits.withdrawFrag, h.tracks, h.still⟩

theorem enterSilenced (h : s.Live) (hm : s.start.station = .running) : s.enterSilenced.Live := by
  rw [State.enterSilenced_eq]
  refine State.Live.setStation (State.Live.setTurn (State.Live.withdrawSkip (State.Live.withdrawFrag
    (h.setStore fun _ => rfl))) fun _ => rfl) (.inr rfl) ?_ rfl rfl
  simp [hm]

theorem ownSilence (h : s.Live) (n : Nat) : (s.ownSilence n).Live := by
  unfold State.ownSilence
  refine State.Live.offerRoll ?_ _
  split
  · next hs =>
    simp only [Bool.and_eq_true, decide_eq_true_eq] at hs
    exact (h.raise _ _).enterSilenced hs.2
  · exact h.raise _ _

theorem skipTurn (h : s.Live) (m : Addr) (n : Nat) : (s.skipTurn m n).Live := by
  have hmissed : ((s.missTurn m n).withdrawSkipFor m).Live := (h.setEntry _ _).withdrawSkipFor m
  unfold State.skipTurn
  dsimp only
  split
  · split
    · exact (hmissed.dropRecord n).ownSilence n
    · exact hmissed.dropRecord n
  · exact hmissed

theorem skipHeard (h : s.Live) (own : Bool) (f : SkipFrame) : (s.skipHeard own f).Live := by
  have hheard := (h.hearEvent f.number.toNat).hearMember f.subject f.number.toNat
  unfold State.skipHeard
  split
  · exact hheard.ownSkip
  · exact hheard

theorem handleSkip (h : s.Live) (own : Bool) (f : SkipFrame) : (s.handleSkip own f).Live := by
  have hheard := h.skipHeard own f
  rw [State.handleSkip_of_tracks own f h.tracks]
  split
  · exact (hheard.skipTurn _ _).reassess.buildFrame _ _ fun b hs hc => hs.applySkip hc f b
  · exact hheard

/-! ## ROLL frames -/

theorem hearRoll (h : s.Live) (a : Addr) (f : RosterEntry → RosterEntry) : (s.hearRoll a f).Live := by
  unfold State.hearRoll
  split
  · exact h
  · exact h.setEntry _ _

theorem mismatch (h : s.Live) (f : RollFrame) : (s.mismatch f).Live := by
  unfold State.mismatch
  dsimp only
  split
  · exact h.hearRoll _ _
  · exact (h.hearRoll _ _).raise _ _

theorem offerEcho (h : s.Live) : s.offerEcho.Live := by
  unfold State.offerEcho
  split
  · exact h.offerRoll _
  · exact h

theorem withdrawEcho (h : s.Live) : s.withdrawEcho.Live := by
  unfold State.withdrawEcho
  split
  · next p hp =>
    split
    · rw [← hp]
      exact h.mapQueue (fun q => { q with roll := Place.withdraw q.roll }) rfl id
    · exact h
  · exact h

theorem otherRoll (h : s.Live) (f : RollFrame) : (s.otherRoll f).Live := by
  unfold State.otherRoll
  split
  · dsimp only
    split
    · exact (h.mismatch f).offerEcho
    · exact h.mismatch f
  · split
    · exact (h.hearRoll _ _).offerEcho
    · exact (h.raiseHighTake _).hearRoll _ _
    · exact ((h.raiseHighTake _).hearRoll _ _).withdrawEcho

theorem joinEvn (h : s.Live) (x : BitVec 32) : (s.joinEvn x).Live := by
  unfold State.joinEvn
  split
  · exact h
  · next ha =>
    have ha : s.isAcquirer = true := by simp_all
    split
    · exact h.becomeExhausted ha _
    · exact h.setEvn ha _

theorem ownJoin (h : s.Live) (f : RollFrame) : (s.ownJoin f).Live := by
  have hentry := h.setEntry f.sender (RosterEntry.joined f (s.entry f.sender))
  unfold State.ownJoin
  dsimp only
  split
  · next hs =>
    have hs : s.start.station = .joining ∨ s.start.station = .silenced := by simpa using hs
    have hd : ¬ s.drains := fun hd => by simp [hd.2.1] at hs
    exact (hentry.setStation (.inl rfl) (by rcases hs with hs | hs <;> simp [hs]) (h.store.resolve_left hd)
      (h.timer.resolve_left hd)).joinEvn _
  · exact hentry

theorem ownRoll (h : s.Live) (f : RollFrame) : (s.ownRoll f).Live := by
  unfold State.ownRoll
  split
  · exact h
  · exact h.ownJoin f
  · exact h.setEntry _ _

end State.Live
end Sys2Proof.Machine
end

section
/-! Every step keeps the blocks to what the station's state and role allow: the changes of the station's state, the end
of a frame, and the other events, down to the step. -/

namespace Sys2Proof.Machine

theorem State.unloaded_of_tracks {s : State} (h : s.tracks = true) : ¬ s.unloaded = true := by
  rw [State.unloaded_iff]
  exact fun hu => State.not_early h (hu.imp_right .inl)

/-- R133, R144: DAT is read by a loaded station. -/
theorem State.Fits.loaded_of_dat {s : State} (h : s.Fits) (hd : s.frames.dat ≠ .stopped) : s.unloaded = false := by
  rw [← Bool.not_eq_true]
  exact fun hu => hd (h.dat hu).1

theorem State.takesFrame_iff (s : State) : s.takesFrame = true ↔
    s.pins.rst = false ∧ (s.frames.dat = .idle ∨ s.frames.dat = .inFrame ∨ s.frames.dat = .abandoned) := by
  unfold State.takesFrame; cases s.frames.dat <;> simp

theorem State.loaded_of_takesFrame {s : State} (h : s.Fits) (ht : s.takesFrame = true) : s.unloaded = false := by
  refine h.loaded_of_dat ?_
  rcases ((s.takesFrame_iff).mp ht).2 with hd | hd | hd <;> simp [hd]

/-- A frame on the wire stands in a place of the queue. -/
theorem Queue.onWire_empty : Queue.empty.onWire = none := rfl

theorem State.Fits.not_quiet_of_onWire {s : State} (h : s.Fits) (hw : s.frames.queue.onWire.isSome = true) :
    ¬ (s.early ∨ s.start.station = .mute ∨ s.trig.restarting = true) := by
  intro hq
  rw [h.queue hq] at hw
  exact absurd hw (by simp [Queue.onWire_empty])

/-- R74: an offer of a ROLL frame touches the ROLL place alone. -/
@[simp] theorem State.offerRoll_queue (m : RollMode) (s : State) :
    (s.offerRoll m).frames.queue.takes = s.frames.queue.takes ∧ (s.offerRoll m).frames.queue.skip = s.frames.queue.skip
      ∧ (s.offerRoll m).frames.queue.frag = s.frames.queue.frag
      ∧ (s.offerRoll m).frames.failures = s.frames.failures ∧ (s.offerRoll m).frames.dat = s.frames.dat := by
  unfold State.offerRoll; split <;> simp

namespace State.Fits

variable {s : State}

/-! ## Changes of the station's state -/

theorem enterRollcall (h : s.Fits) (hrst : s.pins.rst = false) (hu : s.unloaded = false)
    (hr : s.trig.restarting = false) : s.enterRollcall.Fits := by
  have hstart : s.enterRollcall.start = { s.start with
      station := .rollcall, listenTimer := none, rollCallReason := true, rollMet := false
      rollTimer := if s.start.muteAttr then some (Config.msTicks s.config.rolltime) else none } := by
    simp [State.enterRollcall]
  have hunloaded : ¬ s.enterRollcall.unloaded = true := by simp [hstart]
  have hacq : s.enterRollcall.isAcquirer = s.isAcquirer := by simp [State.isAcquirer]
  have hqueue : s.enterRollcall.frames.queue.takes = s.frames.queue.takes := by
    simp [State.enterRollcall]
  have himage : s.start.imagePort = .idle :=
    h.imagePort fun hl => absurd ((s.unloaded_iff).mpr (.inl hl)) (by simp [hu])
  have hcol : s.enterRollcall.isCollector = s.isCollector := by simp [State.isCollector]
  constructor
  case pins => simp [hrst]
  case muteAttr => rintro (hl | ha); exacts [absurd hl hunloaded, by rw [hstart]; exact h.muteAttr (.inr (hacq ▸ ha))]
  case mute => simp [hstart]
  case imagePort => simp [hstart, himage]
  case listenTimer => simp [hstart]
  case roll => simp [hstart, hr]
  case reason => simp [hstart, hr]
  case config => exact fun hl => absurd hl hunloaded
  case trig => exact fun hl => absurd hl hunloaded
  case detector => simpa using h.detector
  case restarting => simpa using h.restarting
  case pulses => simpa using h.pulses
  case store => exact .inr (by simp [State.enterRollcall])
  case agree => exact fun _ => by simp [State.enterRollcall]
  case pendingTakes => exact .inr (by simp [State.enterRollcall, Agreement.blank])
  case collector => exact fun _ => by simp [State.enterRollcall, Agreement.blank]
  case turn => exact fun _ => by simp [State.enterRollcall]
  case timer => exact .inr (by simp [State.enterRollcall, Turn.blank])
  case roster => exact fun _ => by simp [State.enterRollcall]
  case queue => simp [State.early, hstart, hr]
  case takes => exact fun hc => by rw [hqueue]; exact h.takes (hcol ▸ hc)
  case dat => exact fun hl => absurd hl hunloaded
  case build => exact fun _ => by simp [State.enterRollcall]
  case port => rintro (hl | ha); exacts [absurd hl hunloaded, by simpa using h.port (.inr (hacq ▸ ha))]
  case line => simpa [State.LineInPlace] using h.line

/-- R184, R185: the entry to JOINING: a collector with `muteAttr` passes through to RUNNING. -/
theorem enterJoining (h : s.Fits) (hrst : s.pins.rst = false)
    (hs : s.start.station = .listening ∨ s.start.station = .rollcall) (hr : s.trig.restarting = false) :
    s.enterJoining.Live := by
  have hrest : s.atRest := hs.elim (fun hl => .inl (.inr (.inr hl))) fun hc => .inr (.inl hc)
  have hstart : s.enterJoining.start = { s.start with
      station := if s.start.muteAttr then .running else .joining
      listenTimer := none, rollTimer := none, rollCallReason := false, rollMet := false } := by
    simp [State.enterJoining]
  have htracks : s.enterJoining.tracks = true := by
    rw [State.tracks_iff, hstart]; split <;> simp
  have hstill : s.enterJoining.trig.restarting = false := by simpa using hr
  have hunloaded := State.unloaded_of_tracks htracks
  have hatRest := State.not_atRest htracks hstill
  have hmute : s.enterJoining.start.station ≠ .mute := by rw [hstart]; split <;> simp
  have hacq : s.enterJoining.isAcquirer = s.isAcquirer := by simp [State.isAcquirer]
  have hcol : s.enterJoining.isCollector = s.isCollector := by simp [State.isCollector]
  have hqueue : s.enterJoining.frames.queue.takes = s.frames.queue.takes := by
    simp [State.enterJoining]
  have himage : s.start.imagePort = .idle := h.imagePort (by rcases hs with hs | hs <;> simp [hs])
  refine ⟨?_, htracks, hstill⟩
  constructor
  case pins => simp [hrst]
  case muteAttr => rintro (hl | ha); exacts [absurd hl hunloaded, by rw [hstart]; exact h.muteAttr (.inr (hacq ▸ ha))]
  case mute => exact fun hm => absurd hm hmute
  case imagePort => simp [hstart, himage]
  case listenTimer => simp [hstart]
  case roll => simp [hstart]
  case reason => simp [hstart]
  case config => exact fun hl => absurd hl hunloaded
  case trig => exact fun hl => absurd hl hunloaded
  case detector => simpa using h.detector
  case restarting => simpa using h.restarting
  case pulses => simpa using h.pulses
  case store => exact .inr (by simp [State.enterJoining])
  case agree => exact fun hl => absurd hl hatRest
  case pendingTakes => exact .inr (by simp [State.enterJoining, Agreement.blank])
  case collector => exact fun _ => by simp [State.enterJoining, Agreement.blank]
  case turn => exact fun hl => absurd hl hatRest
  case timer => exact .inr (by simp [h.turn hrest, Turn.blank])
  case roster => exact fun hl => absurd (hl.imp_right Or.inr) hatRest
  case queue => exact fun hl => absurd hl (by simp [State.not_early htracks, hmute, hr])
  case takes => exact fun hc => by rw [hqueue]; exact h.takes (hcol ▸ hc)
  case dat => exact fun hl => absurd hl hunloaded
  case build => exact fun _ => by simp [State.enterJoining]
  case port => rintro (hl | ha); exacts [absurd hl hunloaded, by simpa using h.port (.inr (hacq ▸ ha))]
  case line => simpa [State.LineInPlace] using h.line

/-- R142, R155: an acquirer enters MUTE from a state in which the station is loaded. -/
theorem enterMute (h : s.Fits) (hrst : s.pins.rst = false) (hu : s.unloaded = false) (ha : s.isAcquirer = true) :
    s.enterMute.Fits := by
  have hstart : s.enterMute.start = { s.start with
      station := .mute, listenTimer := none, rollTimer := none, rollMet := false } := by simp [State.enterMute]
  have htrig : s.enterMute.trig = { s.trig with normalPulse := none, restartPulse := none } := by
    simp [State.enterMute]
  have hagree : s.enterMute.agree = { s.agree with pendingTakes := [] } := by simp [State.enterMute]
  have hunloaded : ¬ s.enterMute.unloaded = true := by simp [hstart]
  have hacq : s.enterMute.isAcquirer = true := by simpa [State.isAcquirer] using ha
  have hcol : ¬ s.enterMute.isCollector = true := fun hc => (State.isCollector_iff _).mp hc hacq
  have hrestarting (hr : s.enterMute.atRest) : s.trig.restarting = true := by
    simpa [State.atRest, State.early, hstart, htrig] using hr
  have himage : s.start.imagePort = .idle :=
    h.imagePort fun hl => absurd ((s.unloaded_iff).mpr (.inl hl)) (by simp [hu])
  constructor
  case pins => simp [hrst]
  case muteAttr => exact fun _ => by rw [hstart]; exact h.muteAttr (.inr ha)
  case mute => exact fun _ => hacq
  case imagePort => simp [hstart, himage]
  case listenTimer => simp [hstart]
  case roll => simp [hstart]
  case reason => rw [hstart, htrig]; exact fun hr => ⟨.inr rfl, (h.reason hr).2⟩
  case config => exact fun hl => absurd hl hunloaded
  case trig => exact fun hl => absurd hl hunloaded
  case detector => rw [htrig]; exact h.detector
  case restarting => rw [htrig]; exact h.restarting
  case pulses => simp [htrig]
  case store => exact .inr (by simp [State.enterMute])
  case agree =>
    intro hr
    rw [hagree, h.agree (.inr (.inr (hrestarting hr)))]
    rfl
  case pendingTakes => exact .inr (by rw [hagree])
  case collector => exact fun hc => absurd hc hcol
  case turn => exact fun _ => by simp [State.enterMute]
  case timer => exact .inr (by simp [State.enterMute, Turn.blank])
  case roster =>
    intro hr
    simpa using h.roster (.inr (hrestarting (hr.imp_right .inr)))
  case queue => exact fun _ => by simp [State.enterMute]
  case takes => exact fun hc => absurd hc hcol
  case dat => exact fun hl => absurd hl hunloaded
  case build => exact fun _ => by simpa using h.build (.inr ha)
  case port => exact fun _ => by simpa using h.port (.inr ha)
  case line => simpa [State.LineInPlace] using h.line

/-- R142, R180, R186: a collector takes `muteAttr`; a JOINING one is RUNNING. -/
theorem takeMuteAttr (h : s.Fits) (hrst : s.pins.rst = false) (hu : s.unloaded = false) (hc : s.isCollector = true) :
    s.takeMuteAttr.Fits := by
  have hna : ¬ s.isAcquirer = true := (State.isCollector_iff s).mp hc
  have hacq : ¬ s.takeMuteAttr.isAcquirer = true := by simpa [State.isAcquirer] using hna
  have hd : ¬ s.drains := fun hd => hna hd.1
  have hmute : s.start.station ≠ .mute := fun hm => hna (h.mute hm)
  have hloaded : s.start.station ≠ .loading ∧ s.start.station ≠ .halted := by
    simpa [State.unloaded] using hu
  obtain ⟨x, hx, hstart⟩ : ∃ x : Option Nat, (s.start.station ≠ .rollcall → x = s.start.rollTimer) ∧
      s.takeMuteAttr.start = { s.start with
        muteAttr := true, rollTimer := x
        station := if s.start.station = .joining then .running else s.start.station } := by
    unfold State.takeMuteAttr
    dsimp only
    split
    · next hs => split <;> exact ⟨_, by simp [hs], by simp [hs]; rfl⟩
    · next hs => exact ⟨_, fun _ => rfl, by simp [hs]⟩
    · next hs => exact ⟨_, fun _ => rfl, by rw [if_neg hs]; rfl⟩
  have hstation {y : StationState} (hy : y ≠ .running) (he : s.takeMuteAttr.start.station = y) :
      s.start.station = y := by
    rw [hstart] at he
    dsimp only at he
    split at he
    · exact absurd he.symm hy
    · exact he
  have hunloaded : ¬ s.takeMuteAttr.unloaded = true := by
    rw [State.unloaded_iff]
    rintro (hl | hl)
    exacts [hloaded.1 (hstation (by simp) hl), hloaded.2 (hstation (by simp) hl)]
  have hrest (hr : s.takeMuteAttr.atRest) : s.atRest := by
    rcases hr with (hr | hr | hr) | hr | hr
    exacts [.inl (.inl (hstation (by simp) hr)), .inl (.inr (.inl (hstation (by simp) hr))),
      .inl (.inr (.inr (hstation (by simp) hr))), .inr (.inl (hstation (by simp) hr)), .inr (.inr (by simpa using hr))]
  have hne {y : StationState} (hy : y ≠ .joining) (hn : s.takeMuteAttr.start.station ≠ y) : s.start.station ≠ y := by
    intro he
    rw [hstart] at hn
    exact hn (by simp [he, hy])
  constructor
  case pins => simp [hrst]
  case muteAttr => rintro (hl | ha); exacts [absurd hl hunloaded, absurd ha hacq]
  case mute => exact fun hm => absurd (hstation (by simp) hm) hmute
  case imagePort => rw [hstart]; exact fun _ => h.imagePort hloaded.1
  case listenTimer =>
    intro hs
    rw [hstart]
    exact h.listenTimer (hs.imp (hne (by simp)) fun hr => by simpa using hr)
  case roll =>
    rintro (hs | hr)
    · have hs := hne (by simp) hs
      rw [hstart]
      exact ⟨(hx hs).trans (h.roll (.inl hs)).1, (h.roll (.inl hs)).2⟩
    · exact absurd hr.2 (by simp [hstart])
  case reason =>
    intro hr
    have hr := h.reason (by rw [hstart] at hr; exact hr)
    have hs := hr.1.resolve_right hmute
    exact ⟨.inl (by simp [hstart, hs]), by simpa using hr.2⟩
  case config => exact fun hl => absurd hl hunloaded
  case trig => exact fun hl => absurd hl hunloaded
  case detector => simpa using h.detector
  case restarting => simpa using h.restarting
  case pulses => simpa using h.pulses
  case store => exact .inr (by simpa using h.store.resolve_left hd)
  case agree => exact fun hr => by simpa using h.agree (hrest hr)
  case pendingTakes => exact .inr (by simpa using h.pendingTakes.resolve_left fun hp => hna hp.1)
  case collector => exact fun _ => by simpa using h.collector hc
  case turn => exact fun hr => by simpa using h.turn (hrest hr)
  case timer => exact .inr (by simpa using h.timer.resolve_left hd)
  case roster =>
    intro hr
    have hearly : s.early ∨ s.trig.restarting = true := by
      rcases hr with (hr | hr | hr) | hr
      exacts [.inl (.inl (hstation (by simp) hr)), .inl (.inr (.inl (hstation (by simp) hr))),
        .inl (.inr (.inr (hstation (by simp) hr))), .inr (by simpa using hr)]
    simpa using h.roster hearly
  case queue => exact fun _ => by simp [State.takeMuteAttr]
  case takes => exact fun _ => by simp [State.takeMuteAttr, Queue.empty]
  case dat => exact fun hl => absurd hl hunloaded
  case build =>
    rintro (hr | ha)
    exacts [by simpa using h.build (.inl (hrest hr)), absurd ha hacq]
  case port => rintro (hl | ha); exacts [absurd hl hunloaded, absurd ha hacq]
  case line => simpa [State.LineInPlace] using h.line

theorem giveUpSending (h : s.Fits) (hrst : s.pins.rst = false) (hu : s.unloaded = false) : s.giveUpSending.Fits := by
  unfold State.giveUpSending
  split
  · next ha => exact h.enterMute hrst hu ha
  · next ha => exact h.takeMuteAttr hrst hu ((State.isCollector_iff s).mpr ha)

/-- R163: the detection takes every block to its restart values. -/
theorem detectRestart (h : s.Fits) (hd : s.trig.detector.isSome = true) : s.detectRestart.Fits := by
  have hu : ¬ s.unloaded = true := fun hu => by simp [(h.trig hu).2.2.1] at hd
  have hstart : s.detectRestart.start = { s.start with
      listenTimer := none, rollTimer := none, rollCallReason := false, rollMet := false } := by
    simp [State.detectRestart]
  have htrig : s.detectRestart.trig = { s.trig with detector := none, restarting := true, normalPulse := none } := by
    simp [State.detectRestart]
  have hunloaded : ¬ s.detectRestart.unloaded = true := by simpa [hstart, State.unloaded_iff] using hu
  have hacq : s.detectRestart.isAcquirer = s.isAcquirer := by simp [State.isAcquirer]
  constructor
  case pins => rw [hstart]; simpa using h.pins
  case muteAttr => rintro (hl | ha); exacts [absurd hl hunloaded, by rw [hstart]; exact h.muteAttr (.inr (hacq ▸ ha))]
  case mute => rw [hstart, hacq]; exact h.mute
  case imagePort => rw [hstart]; exact h.imagePort
  case listenTimer => simp [hstart]
  case roll => simp [hstart]
  case reason => simp [hstart]
  case config => exact fun hl => absurd hl hunloaded
  case trig => exact fun hl => absurd hl hunloaded
  case detector => simp [htrig]
  case restarting => rw [htrig]; exact fun _ => (h.detector hd).1
  case pulses => simp [htrig]
  case store => exact .inr (by simp [State.detectRestart])
  case agree => exact fun _ => by simp [State.detectRestart]
  case pendingTakes => exact .inr (by simp [State.detectRestart, Agreement.blank])
  case collector => exact fun _ => by simp [State.detectRestart, Agreement.blank]
  case turn => exact fun _ => by simp [State.detectRestart]
  case timer => exact .inr (by simp [State.detectRestart, Turn.blank])
  case roster => exact fun _ => by simp [State.detectRestart]
  case queue => exact fun _ => by simp [State.detectRestart]
  case takes => exact fun _ => by simp [State.detectRestart, Queue.empty]
  case dat => exact fun hl => absurd hl hunloaded
  case build => exact fun _ => by simp [State.detectRestart]
  case port =>
    rintro (hl | ha)
    · exact absurd hl hunloaded
    · have hp := h.port (.inr (hacq ▸ ha))
      simp [State.detectRestart, State.abortRecord, hp]
  case line => simpa [State.LineInPlace] using h.line

/-- R183: the epoch leaves ROLLCALL for RUNNING; one that comes while restarting starts nothing (log 15). -/
theorem epoch (h : s.Fits) (hrst : s.pins.rst = false) (hs : s.start.station = .rollcall)
    (hr : s.trig.restarting = true → s.start.muteAttr = true) : s.epoch.Fits := by
  refine State.Fits.settle ?_ []
  have hblank := h.agree (.inr (.inl hs))
  have hcol : s.trig.restarting = true → ¬ s.isAcquirer = true := fun hr' ha => by
    exact absurd (h.muteAttr (.inr ha)) (by simp [hr hr'])
  constructor
  case pins => simp [hrst]
  case muteAttr => rintro (hl | ha); exacts [absurd hl (by simp), h.muteAttr (.inr ha)]
  case mute => simp
  case imagePort => exact fun _ => h.imagePort (by simp [hs])
  case listenTimer => exact fun _ => h.listenTimer (.inl (by simp [hs]))
  case roll => simp
  case reason => simp
  case config => simp
  case trig => simp
  case detector => exact h.detector
  case restarting => exact h.restarting
  case pulses => exact h.pulses
  case store => exact .inr (h.store.resolve_left fun hd => by simp [hd.2.1] at hs)
  case agree =>
    rintro (hl | hl | hl)
    · simp [State.early] at hl
    · simp at hl
    · exact congrArg (fun n => { Agreement.blank with evn := n }) (if_neg (hcol hl))
  case pendingTakes => exact .inr rfl
  case collector => exact fun hc => ⟨if_neg ((State.isCollector_iff s).mp hc), rfl⟩
  case turn => exact fun _ => rfl
  case timer => exact .inr rfl
  case roster =>
    rintro (hl | hl)
    · simp [State.early] at hl
    · change s.roster.each RosterEntry.atEpoch = _
      rw [h.roster (.inr hl)]
      decide
  case queue =>
    rintro (hl | hl | hl)
    · simp [State.early] at hl
    · simp at hl
    · exact h.queue (.inr (.inr hl))
  case takes => exact h.takes
  case dat => simp
  case build => exact fun _ => rfl
  case port => rintro (hl | ha); exacts [absurd hl (by simp), h.port (.inr ha)]
  case line => exact h.line

end State.Fits
end Sys2Proof.Machine
end

section
/-! Every step keeps the blocks to what the station's state and role allow: the end of a frame, the other events, and
the step. -/

namespace Sys2Proof.Machine

/-! ## The station after a change of its state -/

@[simp] theorem State.enterMute_start (s : State) : s.enterMute.start = { s.start with
    station := .mute, listenTimer := none, rollTimer := none, rollMet := false } := by
  simp [State.enterMute]

/-- R142, R186: `muteAttr` takes a JOINING collector to RUNNING, and leaves any other station's state. -/
@[simp] theorem State.takeMuteAttr_station (s : State) : s.takeMuteAttr.start.station =
    if s.start.station = .joining then .running else s.start.station := by
  unfold State.takeMuteAttr
  dsimp only
  split
  · next hs => split <;> simp [hs]
  · next hs => simp [hs]
  · next hs => rw [if_neg hs]; rfl

theorem State.unloaded_giveUpSending {s : State} (h : s.unloaded = false) : s.giveUpSending.unloaded = false := by
  unfold State.giveUpSending
  split
  · simp [State.unloaded]
  · simp only [State.unloaded, State.takeMuteAttr_station] at h ⊢
    split
    · rfl
    · exact h

/-- R86: the clash check answers the state as it is, or raises the fault and gives up sending. -/
theorem State.clashCheck_cases {P : State → Prop} {s : State} (own : Bool) (f : Frame) (hs : P s)
    (hclash : own = false → frameSender f = s.pins.address → s.detectsClash = true →
      P (s.raise .addressClash (frameField f).toNat).giveUpSending) : P (s.clashCheck own f) := by
  unfold State.clashCheck
  split
  · next h =>
    simp only [Bool.and_eq_true, Bool.not_eq_true', decide_eq_true_eq] at h
    exact hclash h.1.1 h.1.2 h.2
  · exact hs

theorem State.unloaded_of_detectsClash {s : State} (h : s.detectsClash = true) : s.unloaded = false := by
  unfold State.detectsClash at h
  unfold State.unloaded
  split at h <;> simp_all

theorem State.unloaded_clashCheck {s : State} (own : Bool) (f : Frame) (h : s.unloaded = false) :
    (s.clashCheck own f).unloaded = false :=
  State.clashCheck_cases (P := fun t => t.unloaded = false) own f h fun _ _ _ => State.unloaded_giveUpSending h

theorem State.restarting_clashCheck (own : Bool) (f : Frame) (s : State) :
    (s.clashCheck own f).trig.restarting = s.trig.restarting := by
  refine State.clashCheck_cases (P := fun t => t.trig.restarting = s.trig.restarting) own f rfl fun _ _ _ => ?_
  unfold State.giveUpSending
  split
  · rfl
  · simp

/-! ## Loading (R175) -/

@[simp] theorem State.checkLine_line (img : List Byte) (low : Nat) (s : State) :
    (s.checkLine img low).insp.line = s.insp.line := by
  unfold State.checkLine; split <;> rfl

theorem State.leaveLoading_start (s : State) : s.leaveLoading.start =
    if s.isAcquirer && s.config.dat = .listen then { s.start with station := .mute, imagePort := .idle }
    else { s.start with
      station := .listening, imagePort := .idle
      muteAttr := s.isCollector && s.config.dat = .listen
      listenTimer := some (Config.msTicks s.config.listen) } := by
  unfold State.leaveLoading; split <;> rfl

/-- R175: what a good image leaves of start-up control. -/
theorem State.loadGood_start (img : List Byte) (trg : Bool) (s : State) : (s.loadGood img trg).start =
    if s.isAcquirer && (loadImage img).dat = .listen then { s.start with station := .mute, imagePort := .idle }
    else { s.start with
      station := .listening, imagePort := .idle
      muteAttr := s.isCollector && (loadImage img).dat = .listen
      listenTimer := some (Config.msTicks (loadImage img).listen) } := by
  have hraised : (if turnTooShort img then s.raise .imageAdjusted 0 else s).pins = s.pins
      ∧ (if turnTooShort img then s.raise .imageAdjusted 0 else s).start = s.start := by split <;> simp
  simp only [State.loadGood, State.leaveLoading_start]
  simp [State.isAcquirer, State.isCollector, hraised]

/-- R175: the blocks that a good image writes beside start-up control and the fault record. -/
theorem State.loadGood_blocks (img : List Byte) (trg : Bool) (s : State) :
    (s.loadGood img trg).config = loadImage img
      ∧ (s.loadGood img trg).trig =
        { s.trig with level := trg, detector := if trg then some Config.detectorTicks else none }
      ∧ (s.loadGood img trg).frames = { s.frames with dat := .busy }
      ∧ (s.loadGood img trg).insp.line = s.insp.line := by
  have hraised : (if turnTooShort img then s.raise .imageAdjusted 0 else s).trig = s.trig
      ∧ (if turnTooShort img then s.raise .imageAdjusted 0 else s).frames = s.frames
      ∧ (if turnTooShort img then s.raise .imageAdjusted 0 else s).insp.line = s.insp.line := by split <;> simp
  simp [State.loadGood, hraised]

namespace State.Fits

variable {s : State}

/-! ## The end of a frame -/

theorem leaveWire (h : s.Fits) : s.leaveWire.Fits :=
  State.Fits.refreshRoll (h.mapQueue Queue.leaveUnsent rfl fun ht => by simp [Queue.leaveUnsent, ht])

/-- The frame unit of a loaded station, with the places of its queue as they are. -/
theorem setDat (h : s.Fits) (hu : s.unloaded = false) (n : Nat) (d : DatState) :
    (s.setFrames { s.frames with failures := n, dat := d }).Fits :=
  h.setFrames h.queue h.takes fun hl => absurd hl (by simp [hu])

theorem unloaded_leaveWire (hu : s.unloaded = false) : s.leaveWire.unloaded = false := by
  simpa [State.unloaded, State.leaveWire] using hu

theorem endOther (h : s.Fits) (hu : s.unloaded = false) : s.endOther.Fits :=
  h.leaveWire.setDat (unloaded_leaveWire hu) s.leaveWire.frames.failures .busy

theorem endOwn (h : s.Fits) (hu : s.unloaded = false) : s.endOwn.Fits :=
  State.Fits.setDat (h.mapQueue Queue.leaveSent rfl fun ht => by simp [Queue.leaveSent, ht]) hu 0 .busy

theorem discardFrame (h : s.Fits) (hu : s.unloaded = false) (c : Counter) : (s.discardFrame c).Fits := by
  unfold State.discardFrame
  split
  · exact h.endOther hu
  · exact (h.endOther hu).bump c

theorem clashCheck (h : s.Fits) (hrst : s.pins.rst = false) (own : Bool) (f : Frame) : (s.clashCheck own f).Fits :=
  State.clashCheck_cases own f h fun _ _ hd =>
    (h.raise _ _).giveUpSending hrst (State.unloaded_of_detectsClash hd)

/-! ## ROLL frames in ROLLCALL -/

theorem hearRoll (h : s.Fits) (ht : ¬ s.early) (hr : s.trig.restarting = false) (a : Addr)
    (f : RosterEntry → RosterEntry) : (s.hearRoll a f).Fits := by
  unfold State.hearRoll
  split
  · exact h
  · exact h.setEntry ht hr _ _

theorem mismatch (h : s.Fits) (ht : ¬ s.early) (hr : s.trig.restarting = false) (f : RollFrame) :
    (s.mismatch f).Fits := by
  unfold State.mismatch
  dsimp only
  split
  · exact h.hearRoll ht hr _ _
  · exact (h.hearRoll ht hr _ _).raise _ _

theorem ownCall (h : s.Fits) (hs : s.start.station = .rollcall) (hr : s.trig.restarting = false) (f : RollFrame) :
    (s.ownCall f).Fits :=
  { h.setEntry (by simp [State.early, hs]) hr f.sender (RosterEntry.rollCalled f (s.entry f.sender)) with
    roll := fun hn => by
      rcases hn with hn | hn
      · exact absurd hs hn
      · exact absurd hn.1 (by simp [State.ownCall, hr]) }

theorem rollcallRoll (h : s.Fits) (hrst : s.pins.rst = false) (hs : s.start.station = .rollcall)
    (hr : s.trig.restarting = false) (own : Bool) (f : RollFrame) : (s.rollcallRoll own f).Fits := by
  have hearly : ¬ s.early := by simp [State.early, hs]
  unfold State.rollcallRoll
  split
  · split
    · exact h.ownCall hs hr f
    · exact h
  · have hmarked := h.mismatch hearly hr f
    by_cases hd : f.signature = s.config.signature
    · simp only [hd, ne_eq, not_true, decide_false, Bool.false_eq_true, if_false]
      split
      · exact h.hearRoll hearly hr _ _
      · exact h
      · exact ((h.enterJoining hrst (.inr hs) hr).otherRoll f).toFits
    · simp only [hd, ne_eq, not_false_eq_true, decide_true, if_true]
      split
      · exact hmarked
      · exact hmarked
      · exact (hmarked.enterJoining (by simpa using hrst) (.inr (by simpa using hs)) (by simpa using hr)).toFits

/-! ## A frame and its owners -/

/-- R178: a frame heard moves a LISTENING station on to ROLLCALL or JOINING. -/
theorem leaveListening (h : s.Fits) (hrst : s.pins.rst = false) (hu : s.unloaded = false)
    (hr : s.trig.restarting = false) (f : Frame) :
    (s.leaveListening f).Fits ∧ ((s.leaveListening f).start.station = .rollcall ∨ (s.leaveListening f).tracks = true) := by
  have hjoining (hl : s.start.station = .listening) :
      s.enterJoining.Fits ∧ (s.enterJoining.start.station = .rollcall ∨ s.enterJoining.tracks = true) :=
    have hlive := h.enterJoining hrst (.inl hl) hr
    ⟨hlive.toFits, .inr hlive.tracks⟩
  unfold State.leaveListening
  split
  · next hl =>
    split
    · split
      · exact ⟨h.enterRollcall hrst hu hr, .inl (by simp [State.enterRollcall])⟩
      · exact hjoining hl
    · exact hjoining hl
    · exact hjoining hl
    · exact hjoining hl
  · next hl =>
    refine ⟨h, ?_⟩
    simp only [State.unloaded, Bool.or_eq_false_iff, decide_eq_false_iff_not] at hu
    unfold State.tracks
    cases hs : s.start.station <;> simp_all

theorem giveOwners (h : s.Fits) (hrst : s.pins.rst = false) (hs : s.start.station = .rollcall ∨ s.tracks = true)
    (hr : s.trig.restarting = false) (own : Bool) (f : Frame) : (s.giveOwners own f).Fits := by
  have htracks (hn : s.start.station = .rollcall) : s.tracks = false := by simp [State.tracks, hn]
  have hlive (ht : s.tracks = true) : s.Live := ⟨h, ht, hr⟩
  unfold State.giveOwners
  split
  · split
    · next ht => exact ((hlive ht).handleTake _ _).toFits
    · exact h
  · rcases hs with hs | ht
    · simpa [State.handleFrag, htracks hs] using h
    · exact ((hlive ht).handleFrag _ _).toFits
  · rcases hs with hs | ht
    · simpa [State.handleSkip, htracks hs] using h
    · exact ((hlive ht).handleSkip _ _).toFits
  · unfold State.handleRoll
    split
    · next hn => exact h.rollcallRoll hrst hn hr own _
    · next hn =>
      have ht := hs.resolve_left hn
      simp only [ht, Bool.not_true, Bool.false_eq_true, if_false]
      split
      · exact ((hlive ht).ownRoll _).toFits
      · exact ((hlive ht).otherRoll _).toFits

theorem handleFrame (h : s.Fits) (hrst : s.pins.rst = false) (hu : s.unloaded = false) (own : Bool) (f : Frame) :
    (s.handleFrame own f).Fits := by
  have hclash := h.clashCheck hrst own f
  have hrst' : (s.clashCheck own f).pins.rst = false := by simpa using hrst
  unfold State.handleFrame
  dsimp only
  split
  · exact hclash
  · next hr =>
    have hr : s.trig.restarting = false := by simpa using hr
    have hr' : (s.clashCheck own f).trig.restarting = false := (State.restarting_clashCheck own f s).trans hr
    obtain ⟨hleft, hstation⟩ := hclash.leaveListening hrst' (State.unloaded_clashCheck own f hu) hr' f
    exact (hleft.giveOwners (by simpa using hrst) hstation (by simpa using hr') own f).settle _

theorem received (h : s.Fits) (ht : s.takesFrame = true) (f : Frame) : (s.received f).Fits := by
  have hrst : s.pins.rst = false := ((s.takesFrame_iff).mp ht).1
  have hu : s.unloaded = false := State.loaded_of_takesFrame h ht
  unfold State.received
  split
  · exact (h.endOwn hu).handleFrame hrst hu _ f
  · exact (h.endOther hu).handleFrame (by simpa using hrst) (by simpa [State.unloaded] using hu) _ f

/-! ## The other events -/

theorem filterSample (h : s.Fits) (x : Sample) : (s.filterSample x).Fits := by
  unfold State.filterSample
  split
  · next hw _ =>
    have hd : s.drains := h.store.resolve_right fun he => by simp [he, Store.empty] at hw
    have hstore (y : Store) : (s.setStore y).Fits := h.setStore (.inl hd)
    split
    · exact h
    · split
      · exact h.bump _
      · split
        · exact (hstore _).bump _
        · split
          · dsimp only
            split
            · exact hstore _
            · exact (hstore _).raise _ _
          · exact hstore _
  · exact h.bump _

theorem expireWindow (h : s.Fits) : s.expireWindow.Fits := by
  unfold State.expireWindow
  split
  · next hw =>
    exact (h.setStore (.inl (h.store.resolve_right fun he => by simp [he, Store.empty] at hw))).offerParts
  · exact h

/-- R25: the edge is accepted by a RUNNING acquirer that is not restarting. -/
theorem acceptEdge (h : s.Fits) (hd : s.drains) : s.acceptEdge.Fits := by
  have hlive : s.Live := ⟨h, hd.tracks, hd.2.2⟩
  have hcount : s.countEdge.Live := by
    unfold State.countEdge
    split
    · exact hlive.becomeExhausted hd.1 _
    · exact hlive.setEvn hd.1 _
  have hd' : s.countEdge.drains := by simpa [State.drains, State.isAcquirer] using hd
  have hstore (n : Nat) (t : Time) : (s.countEdge.storeEdge n t).Live := by
    have hwrite (x : Store) : (s.countEdge.setStore x).Live :=
      ⟨hcount.toFits.setStore (.inl hd'), hcount.tracks, hcount.still⟩
    unfold State.storeEdge
    split
    · exact hwrite _
    · exact ((hwrite _).bump _).raise _ _
  have hacq : (s.countEdge.storeEdge s.agree.evn s.time.counter).isAcquirer = true ∧
      (s.countEdge.storeEdge s.agree.evn s.time.counter).start.station = .running := by
    simpa [State.isAcquirer] using And.intro hd.1 hd.2.1
  have hpending := (hstore s.agree.evn s.time.counter).setAgree
    (x := { (s.countEdge.storeEdge s.agree.evn s.time.counter).agree with
      pendingTakes := (s.countEdge.storeEdge s.agree.evn s.time.counter).agree.pendingTakes
        ++ [{ number := s.agree.evn, edgeTime := s.time.counter }] })
    (.inl ⟨hacq.1, .inl hacq.2⟩) (hstore s.agree.evn s.time.counter).collector
  refine State.Fits.offerParts (hpending.toFits.setQueue (fun hq => ?_) fun hc => ?_)
  · exact absurd hq (by simp [State.early, hd.2.1, hd.2.2])
  · exact absurd hacq.1 ((State.isCollector_iff _).mp hc)

theorem takeEdge (h : s.Fits) (hu : s.unloaded = false) (hl : s.trig.level = false) (b : Bool) :
    (s.takeEdge b).Fits := by
  have hr : s.trig.restarting = false := by
    rw [← Bool.not_eq_true]
    exact fun hr => absurd (h.restarting hr) (by simp [hl])
  have ht := h.setTrig (x := { s.trig with level := true, detector := some Config.detectorTicks })
    (fun hl => absurd hl (by simp [hu])) rfl (fun _ => ⟨rfl, hr⟩) (fun _ => rfl) h.pulses
  unfold State.takeEdge State.decideEdge
  split
  · next hd =>
    simp only [Bool.and_eq_true, decide_eq_true_eq] at hd
    split
    · exact ht.acceptEdge ⟨hd.1, hd.2, hr⟩
    · exact ht.bump _
  · exact ht

theorem requestTrigger (h : s.Fits) (b : Bool) : (s.requestTrigger b).Fits := by
  unfold State.requestTrigger
  split
  · exact h.bump _
  · next hs =>
    split
    · exact h
    · next hp =>
      split
      · exact h.bump _
      · simp only [State.pulseRuns, Bool.or_eq_true, not_or] at hp
        refine h.setTrig (fun hu => ?_) rfl h.detector h.restarting fun hb => hp.2 hb.2
        rw [State.unloaded_iff] at hu
        rcases hu with hu | hu <;> simp [hu] at hs

/-- R27, R166: the end of a pulse. -/
theorem endPulse (h : s.Fits) {n r : Option Nat} (hn : n = s.trig.normalPulse ∨ n = none)
    (hr : r = s.trig.restartPulse ∨ r = none) :
    (s.setTrig { s.trig with normalPulse := n, restartPulse := r }).Fits := by
  refine h.setTrig (fun hu => ?_) rfl h.detector h.restarting ?_
  · obtain ⟨h1, h2, -, -⟩ := h.trig hu
    have hn : n = s.trig.normalPulse := hn.elim id fun hn => hn.trans h1.symm
    have hr : r = s.trig.restartPulse := hr.elim id fun hr => hr.trans h2.symm
    rw [hn, hr]
  · rcases hn with rfl | rfl <;> rcases hr with rfl | rfl <;> simp
    simpa using h.pulses

theorem restartTrunk (h : s.Fits) : s.restartTrunk.Fits := by
  have houtcome (x : RestartOutcome) : (s.setTrig { s.trig with outcome := x }).Fits := { h with }
  unfold State.restartTrunk
  split <;> try exact houtcome _
  all_goals
    next hs =>
    split
    · exact houtcome _
    · split
      · exact houtcome _
      · exact h.setTrig (fun hu => by simp [State.unloaded_iff, hs] at hu) rfl h.detector h.restarting (by simp)

/-- R164: reading TRG released, the station is no longer restarting. -/
theorem endDetector (h : s.Fits) :
    (s.setTrig { s.trig with level := false, detector := none, restarting := false }).Fits :=
  { h with
    listenTimer := fun hs => h.listenTimer (hs.imp_right fun hr => absurd hr (by simp))
    roll := fun hs => h.roll (hs.imp_right fun hr => absurd hr.1 (by simp))
    reason := fun hr => ⟨(h.reason hr).1, rfl⟩
    trig := fun hu => ⟨(h.trig hu).1, (h.trig hu).2.1, rfl, rfl⟩
    detector := fun hd => absurd hd (by simp)
    restarting := fun hr => absurd hr (by simp)
    store := h.store.imp_left fun hd => ⟨hd.1, hd.2.1, rfl⟩
    agree := fun hs => h.agree (hs.imp_right (Or.imp_right fun hr => absurd hr (by simp)))
    turn := fun hs => h.turn (hs.imp_right (Or.imp_right fun hr => absurd hr (by simp)))
    timer := h.timer.imp_left fun hd => ⟨hd.1, hd.2.1, rfl⟩
    roster := fun hs => h.roster (hs.imp_right fun hr => absurd hr (by simp))
    queue := fun hs => h.queue (hs.imp_right (Or.imp_right fun hr => absurd hr (by simp)))
    build := fun hs => h.build (hs.imp_left (Or.imp_right (Or.imp_right fun hr => absurd hr (by simp)))) }

theorem releaseTrg (h : s.Fits) (hrst : s.pins.rst = false) (hu : s.unloaded = false) : s.releaseTrg.Fits := by
  unfold State.releaseTrg
  dsimp only
  split
  · unfold State.endRestart
    split
    all_goals first
      | exact h.endDetector.enterRollcall hrst hu rfl
      | exact h.endDetector
  · exact h.endDetector

theorem meetRoll (h : s.Fits) (hrst : s.pins.rst = false) (hs : s.start.station = .rollcall)
    (ht : s.start.rollTimer.isSome = true) (b : Bool) : (s.meetRoll b).Fits := by
  have hr (hr : s.trig.restarting = true) : s.start.muteAttr = true := by
    rw [← Bool.not_eq_false]
    exact fun hm => by simp [(h.roll (.inr ⟨hr, hm⟩)).1] at ht
  unfold State.meetRoll
  split
  · exact { h with
      roll := fun hn => by
        rcases hn with hn | ⟨hn, hm⟩
        · exact absurd hs hn
        · exact absurd (hr hn) (by simpa using hm)
      reason := fun hn => absurd hn (by simp) }
  · exact h.epoch hrst hs hr

theorem offerSkip (h : s.Fits) (hd : s.drains) (f : SkipFrame) : (s.offerSkip f).Fits :=
  h.setQueue (fun hq => absurd hq (by simp [State.early, hd.2.1, hd.2.2])) h.takes

theorem expireTurn (h : s.Fits) : s.expireTurn.Fits := by
  unfold State.expireTurn
  split
  · next ht =>
    have hd : s.drains := h.timer.resolve_right (by simp [ht])
    exact (h.offerSkip hd _).setTurn (fun hr => absurd hr hd.not_atRest) (.inl hd)
  · exact h

theorem timeoutBuild (h : s.Fits) (n : Nat) : (s.timeoutBuild n).Fits :=
  h.mapBuild (fun u => { u with builds := u.builds.map fun b =>
    if b.number = n ∧ b.state = .opened ∧ b.timer.isSome then b.close .timeout else b }) rfl

theorem idleDat (h : s.Fits) : s.idleDat.Fits := by
  unfold State.idleDat
  split
  · exact h
  · next hd =>
    simp only [Bool.or_eq_true, decide_eq_true_eq, not_or] at hd
    exact h.setDat (h.loaded_of_dat hd.1) s.frames.failures .idle

theorem takePart (h : s.Fits) (hu : s.unloaded = false) : s.takePart.Fits := by
  refine State.Fits.setDat (h.mapQueue Queue.driveSelected rfl fun ht => ?_) hu s.frames.failures .inFrame
  unfold Queue.driveSelected
  split <;> simp [driveTake, ht]

theorem startFrame (h : s.Fits) : s.startFrame.Fits := by
  unfold State.startFrame
  split
  · next hd =>
    have hu : s.unloaded = false := h.loaded_of_dat (by simp [hd])
    split
    · exact h.takePart hu
    · exact h.setDat hu s.frames.failures .inFrame
  · next hd =>
    have hu : s.unloaded = false := h.loaded_of_dat (by simp [hd])
    split
    · exact h.takePart hu
    · exact h
  all_goals exact h

theorem abandon (h : s.Fits) (hrst : s.pins.rst = false) {f : Frame} (hf : s.frames.queue.onWire = some f) :
    (s.abandon f).Fits := by
  have hquiet := h.not_quiet_of_onWire (by simp [hf])
  have hu : s.unloaded = false := by
    rw [← Bool.not_eq_true, State.unloaded_iff]
    exact fun hu => hquiet (.inl (hu.imp_right .inl))
  have hleft := (h.leaveWire.setDat (unloaded_leaveWire hu) (min Config.failureLimit (s.frames.failures + 1))
    .abandoned).bump .txRetries
  unfold State.abandon
  dsimp only
  split
  · exact ((hleft.raise _ _).giveUpSending (by simpa using hrst) (by simpa [State.unloaded] using hu)).settle _
  · exact hleft

theorem takeWord (h : s.Fits) (hd : s.drivesPort = true) : s.takeWord.Fits := by
  simp only [State.drivesPort, Bool.and_eq_true, Bool.not_eq_true'] at hd
  obtain ⟨⟨-, hc⟩, hu⟩ := hd
  have hna : ¬ s.isAcquirer = true := (State.isCollector_iff s).mp hc
  have hport (x : DeliveryPort) : (s.setPort x).Fits :=
    h.setPort fun hx => hx.elim (fun hl => absurd hl (by simp [hu])) fun ha => absurd ha hna
  unfold State.takeWord
  split
  · exact h
  · exact (hport _).startDelivery
  · split
    · split
      · exact hport _
      · exact h
    · refine State.Fits.startDelivery ?_
      unfold State.endRecord
      dsimp only
      split
      · next b hb =>
        refine (hport _).setBuild fun hr => ?_
        rw [h.build hr] at hb
        exact absurd hb (by simp [BuildUnit.delivering, BuildUnit.empty])
      · exact hport _

theorem tick (h : s.Fits) (x : TimeBase) : (s.setTime x).tickTimers.Fits := by
  have hsome (t : Option Nat) : (tickTimer t).isSome = t.isSome := by cases t <;> rfl
  exact { h.setTime x with
    listenTimer := fun hs => congrArg tickTimer (h.listenTimer hs)
    roll := fun hs => ⟨congrArg tickTimer (h.roll hs).1, (h.roll hs).2⟩
    trig := fun hu => by
      obtain ⟨hn, hr, hd, hs⟩ := h.trig hu
      exact ⟨congrArg tickTimer hn, congrArg tickTimer hr, congrArg tickTimer hd, hs⟩
    detector := fun hd => h.detector (hsome _ ▸ hd)
    pulses := fun hp => h.pulses ⟨hsome s.trig.normalPulse ▸ hp.1, hsome s.trig.restartPulse ▸ hp.2⟩
    store := h.store.imp_right fun he => congrArg (fun st : Store => { st with window := tickTimer st.window }) he
    turn := fun hr => congrArg (fun u : Turn => { u with timer := u.timer.tick }) (h.turn hr)
    timer := h.timer.imp_right fun ht => show s.turn.timer.tick = .stopped by rw [ht]; rfl
    build := fun hr => congrArg (fun u : BuildUnit => { u with
      builds := u.builds.map fun b : Build => { b with timer := tickTimer b.timer } }) (h.build hr) }

/-- R169: in LOADING every block is at its RST value. -/
theorem loading (h : s.Fits) (hl : s.start.station = .loading) :
    s.Emptied ∧ s.roster = Roster.blank ∧ s.frames.queue = Queue.empty ∧ s.start.muteAttr = false
      ∧ s.start.listenTimer = none ∧ (s.start.rollTimer = none ∧ s.start.rollMet = false)
      ∧ s.start.rollCallReason = false ∧ s.port.state = .idle
      ∧ s.trig.normalPulse = none ∧ s.trig.restartPulse = none ∧ s.trig.detector = none
      ∧ s.trig.restarting = false := by
  have hu : s.unloaded = true := (s.unloaded_iff).mpr (.inl hl)
  have hearly : s.early := .inl hl
  have hrest : s.atRest := .inl hearly
  refine ⟨⟨h.store.resolve_left fun hd => hd.not_atRest hrest, h.agree hrest, h.turn hrest, h.build (.inl hrest)⟩,
    h.roster (.inl hearly), h.queue (.inl hearly), h.muteAttr (.inl hu), h.listenTimer (.inl (by simp [hl])),
    h.roll (.inl (by simp [hl])), ?_, h.port (.inl hu), h.trig hu⟩
  rw [← Bool.not_eq_true]
  exact fun hr => by rcases (h.reason hr).1 with hn | hn <;> simp [hl] at hn

/-- R169: at the release of RST the first read begins in LOADING. -/
theorem release (h : s.Fits) (hrst : s.pins.rst = true) (straps : Addr) (role : Role) :
    (((s.setPins { rst := false, address := straps, role := role }).setStart
      { s.start with station := .loading, imagePort := .firstRead }).setLine s.insp.line.release).Fits := by
  have hl : s.start.station = .loading := (h.pins hrst).1
  have hu : s.unloaded = true := (s.unloaded_iff).mpr (.inl hl)
  obtain ⟨⟨hstore, hagree, hturn, hbuild⟩, hroster, hqueue, hattr, hlisten, hroll, hreason, hport, -⟩ := h.loading hl
  exact { h with
    pins := fun hr => absurd hr (by simp)
    muteAttr := fun _ => hattr
    mute := fun hm => absurd hm (by simp)
    imagePort := fun hn => absurd rfl hn
    listenTimer := fun _ => hlisten
    roll := fun _ => hroll
    reason := fun hr => absurd (hreason.symm.trans hr) (by simp)
    config := fun _ => h.config hu
    trig := fun _ => h.trig hu
    store := .inr hstore
    agree := fun _ => hagree
    pendingTakes := .inr (by simp [hagree, Agreement.blank])
    collector := fun _ => by simp [hagree, Agreement.blank]
    turn := fun _ => hturn
    timer := .inr (by simp [hturn, Turn.blank])
    roster := fun _ => hroster
    queue := fun _ => hqueue
    takes := fun _ => by simp [hqueue, Queue.empty]
    dat := fun _ => h.dat hu
    build := fun _ => hbuild
    port := fun _ => hport
    line := ⟨fun hr => absurd hr (by simp), fun _ => by
      rcases h.line.1 hrst with hl | hl <;> simp [hl, InspectionLine.release]⟩ }

/-- R171 to R176: a read that completes is made again, halts the station, or loads it. -/
theorem completeRead (h : s.Fits) (hrst : s.pins.rst = false) (hp : s.start.imagePort ≠ .idle) (img : List Byte)
    (trg : Bool) : (s.completeRead img trg).Fits := by
  have hl : s.start.station = .loading := by_contra fun hn => hp (h.imagePort hn)
  have hu : s.unloaded = true := (s.unloaded_iff).mpr (.inl hl)
  have hearly : s.early := .inl hl
  have hrest : s.atRest := .inl hearly
  obtain ⟨⟨hstore, hagree, hturn, hbuild⟩, hroster, hqueue, hattr, hlisten, hroll, hreason, hport, hnormal, hpulse,
    hdetector, hstill⟩ := h.loading hl
  have hread (port : ImagePort) : (s.setStart { s.start with imageBuffer := [], imagePort := port }).Fits :=
    { h with
      pins := fun hr => absurd (hrst.symm.trans hr) (by simp)
      imagePort := fun hn => absurd hl hn }
  have hhalt : (s.setStart { s.start with imageBuffer := img }).halt.Fits := by
    refine State.Fits.raise ?_ _ _
    exact { h with
      pins := fun hr => absurd (hrst.symm.trans hr) (by simp)
      muteAttr := fun _ => hattr
      mute := fun hm => absurd hm (by simp)
      imagePort := fun _ => rfl
      listenTimer := fun _ => hlisten
      roll := fun _ => hroll
      reason := fun hr => absurd (hreason.symm.trans hr) (by simp)
      config := fun _ => h.config hu
      trig := fun _ => h.trig hu
      store := .inr hstore
      agree := fun _ => hagree
      pendingTakes := .inr (by simp [hagree, Agreement.blank])
      turn := fun _ => hturn
      timer := .inr (by simp [hturn, Turn.blank])
      roster := fun _ => hroster
      queue := fun _ => hqueue
      dat := fun _ => h.dat hu
      build := fun _ => hbuild
      port := fun _ => hport }
  have hload : ((s.setStart { s.start with imageBuffer := img }).loadGood img trg).Fits := by
    generalize ht : (s.setStart { s.start with imageBuffer := img }).loadGood img trg = t
    have hstart := State.loadGood_start img trg (s.setStart { s.start with imageBuffer := img })
    obtain ⟨-, htrig, hframes, hline⟩ :=
      State.loadGood_blocks img trg (s.setStart { s.start with imageBuffer := img })
    obtain ⟨hpins, -, hst, hag, htu, hro, hbu, hpo, -⟩ :=
      State.loadGood_frame img trg (s.setStart { s.start with imageBuffer := img })
    rw [ht] at hstart htrig hframes hline hpins hst hag htu hro hbu hpo
    have hpins : t.pins = s.pins := hpins
    have hunloaded : ¬ t.unloaded = true := by rw [State.unloaded_iff, hstart]; split <;> simp
    have hacq : t.isAcquirer = s.isAcquirer := by simp [State.isAcquirer, hpins]
    have hstation : t.start.station = .mute ∧ s.isAcquirer = true ∨ t.start.station = .listening := by
      rw [hstart]
      split
      · next hm => exact .inl ⟨rfl, by simp only [Bool.and_eq_true] at hm; exact hm.1⟩
      · exact .inr rfl
    have hrestarting : ¬ t.trig.restarting = true := by rw [htrig]; simpa using hstill
    have hagree : t.agree = Agreement.blank := hag.trans hagree
    have hturn : t.turn = Turn.blank := htu.trans hturn
    have hqueue : t.frames.queue = Queue.empty := by rw [hframes]; exact hqueue
    constructor
    case pins => rw [hpins]; exact fun hr => absurd (hrst.symm.trans hr) (by simp)
    case muteAttr =>
      rintro (hn | ha)
      · exact absurd hn hunloaded
      · rw [hstart]
        split
        · exact hattr
        · have hc : s.isCollector = false := by
            rw [← Bool.not_eq_true, State.isCollector_iff, not_not]
            exact hacq ▸ ha
          exact congrArg (· && _) hc
    case mute => exact fun hm => hacq ▸ (hstation.resolve_right (by simp [hm])).2
    case imagePort => rw [hstart]; split <;> exact fun _ => rfl
    case listenTimer =>
      rintro (hn | hn)
      · rw [hstart] at hn ⊢
        split at hn
        · next hm => rw [if_pos hm]; exact hlisten
        · exact absurd rfl hn
      · exact absurd hn hrestarting
    case roll => rw [hstart]; split <;> exact fun _ => hroll
    case reason => rw [hstart]; split <;> exact fun hr => absurd (hreason.symm.trans hr) (by simp)
    case config => exact fun hn => absurd hn hunloaded
    case trig => exact fun hn => absurd hn hunloaded
    case detector =>
      refine fun hd => ⟨?_, by simpa using hrestarting⟩
      rw [htrig] at hd ⊢
      cases trg
      · simp at hd
      · rfl
    case restarting => exact fun hr => absurd hr hrestarting
    case pulses => simp [htrig, hnormal]
    case store => exact .inr (hst.trans hstore)
    case agree => exact fun _ => hagree
    case pendingTakes => exact .inr (by simp [hagree, Agreement.blank])
    case collector => exact fun _ => by simp [hagree, Agreement.blank]
    case turn => exact fun _ => hturn
    case timer => exact .inr (by simp [hturn, Turn.blank])
    case roster => exact fun _ => hro.trans hroster
    case queue => exact fun _ => hqueue
    case takes => exact fun _ => by simp [hqueue, Queue.empty]
    case dat => exact fun hn => absurd hn hunloaded
    case build => exact fun _ => hbu.trans hbuild
    case port => exact fun _ => by rw [hpo]; exact hport
    case line => rw [State.LineInPlace, hpins, hline]; exact h.line
  unfold State.completeRead
  dsimp only
  split
  · split
    · exact hload
    · exact hhalt
  · split
    · exact hread .secondRead
    · exact hhalt

/-- Every command keeps the blocks to what the station's state and role allow. -/
theorem after (h : s.Fits) (c : Instr) : (s.after c).Fits := by
  refine State.after_cases c s (idle := h) (release := fun hrst a r _ => h.release hrst a r)
    (read := fun hrst img trg _ hp => h.completeRead hrst hp img trg)
    (sample := fun _ _ _ _ => h.filterSample _) (window := fun _ _ => h.expireWindow)
    (edge := fun _ b _ hu hl => h.takeEdge hu hl b) (request := fun _ b _ _ _ => h.requestTrigger b)
    (normalPulse := fun _ _ => h.endPulse (.inr rfl) (.inl rfl))
    (restartPulse := fun _ _ => h.endPulse (.inl rfl) (.inr rfl))
    (restart := fun hrst => h.restartTrunk.setLine (by simpa using hrst) (by simp))
    (detection := fun _ _ hd => h.detectRestart hd)
    (trgRelease := fun hrst _ hu _ => h.releaseTrg hrst hu)
    (listen := fun hrst _ hl ht => h.enterRollcall hrst (by simp [State.unloaded, hl]) ?_)
    (roll := fun hrst b _ hs ht => h.meetRoll hrst hs ht b)
    (hldFall := fun hrst _ hs hm => h.epoch hrst hs ?_)
    (turn := fun _ _ => h.expireTurn) (close := fun _ n _ => (h.timeoutBuild _).startDelivery)
    (datIdle := fun _ _ => h.idleDat) (contention := fun _ _ => h.startFrame) (lost := fun _ _ _ => h.leaveWire)
    (abandoned := fun hrst _ f hf => h.abandon hrst hf)
    (discard := fun _ ht k => h.discardFrame (State.loaded_of_takesFrame h ht) k)
    (received := fun _ ht f _ _ => h.received ht f) (taking := fun _ _ hd => h.takeWord hd)
    (read_window := fun hrst w e bits => State.Fits.setLine (x := .selected bits 0)
      (h.setInsp (x := { s.insp with taken := w, ext := e }) rfl) hrst (by simp))
    (clear := fun hrst _ => State.Fits.setLine (x := .released)
      (h.setInsp (x := { s.insp with counters := Inspection.zeroCounters }) rfl) hrst (by simp))
    (ack := fun hrst _ => State.Fits.setLine (x := .released)
      (h.setInsp (x := { s.insp with faults := FaultRecord.empty }) rfl) hrst (by simp))
    (write := fun hrst => h.setLine hrst (by simp)) (tick := fun _ _ => h.tick _) (reset := fun _ => ?_)
  · refine State.Coherent.fits ?_
    exact (State.laws_of_reset s.insp.line.isLow).1
  · rw [← Bool.not_eq_true]
    exact fun hr => by simp [h.listenTimer (.inr hr)] at ht
  · intro hr
    rw [← Bool.not_eq_false]
    exact fun hn => by simp [(h.roll (.inr ⟨hr, hn⟩)).2] at hm

end State.Fits

/-- Settles O54: coherence is what each block must hold, and every operation asks each block it writes for just that. -/
theorem stepKeepsCoherent : Obligations.StepKeepsCoherent := by
  intro s t hs ht
  rcases step_cases ht with rfl | ⟨c, rest, -, rfl⟩
  · exact hs
  · have hfits : State.Fits { s with pending := rest } := State.Coherent.fits hs
    exact (hfits.after c).coherent

end Sys2Proof.Machine
end

section
/-! What start-up control keeps: HALTED and MUTE, the image and `muteAttr` stand, and LOADING and HALTED are left
by the image alone. -/

namespace Sys2Proof.Machine

/-- R142, R164, R176 to R187: where start-up control goes from the end of loading on: a state before ROLLCALL and MUTE
are entered from themselves alone, LOADING, HALTED and MUTE are left for none, and the image and `muteAttr`
stand. -/
structure StartUp.Leads (x y : StartUp) : Prop where
  station : y.station = x.station ∨ (x.station ≠ .loading ∧ x.station ≠ .halted ∧ x.station ≠ .mute)
    ∧ y.station ≠ .loading ∧ y.station ≠ .halted ∧ y.station ≠ .listening
  muteAttr : x.muteAttr = true → y.muteAttr = true
  imageBuffer : y.imageBuffer = x.imageBuffer

namespace StartUp.Leads

theorem refl (x : StartUp) : x.Leads x := ⟨.inl rfl, id, rfl⟩

theorem of_eq {x y : StartUp} (h : y = x) : x.Leads y := h ▸ refl x

theorem trans {x y z : StartUp} (h : x.Leads y) (k : y.Leads z) : x.Leads z := by
  refine ⟨?_, fun hm => k.muteAttr (h.muteAttr hm), k.imageBuffer.trans h.imageBuffer⟩
  rcases k.station with hk | ⟨hy, hz⟩
  · rw [hk]; exact h.station
  · rcases h.station with hh | ⟨hx, -⟩
    · rw [hh] at hy; exact .inr ⟨hy, hz⟩
    · exact .inr ⟨hx, hz⟩

end StartUp.Leads

namespace State

variable {s : State}

/-! ## The changes of the station's state -/

theorem leads_enterRollcall (hu : s.unloaded = false) (hm : s.start.station ≠ .mute) :
    s.start.Leads s.enterRollcall.start := by
  simp only [State.unloaded, Bool.or_eq_false_iff, decide_eq_false_iff_not] at hu
  exact ⟨.inr ⟨⟨hu.1, hu.2, hm⟩, by simp [State.enterRollcall]⟩, by simp [State.enterRollcall],
    by simp [State.enterRollcall]⟩

theorem leads_enterJoining (hs : s.start.station = .listening ∨ s.start.station = .rollcall) :
    s.start.Leads s.enterJoining.start := by
  refine ⟨.inr ⟨?_, ?_⟩, by simp [State.enterJoining], by simp [State.enterJoining]⟩
  · rcases hs with hs | hs <;> simp [hs]
  · simp only [State.enterJoining, offerRoll_frame, setBuild_start, setStore_start, setAgree_start, setRoster_start,
      setStart_start]
    split <;> simp

theorem leads_giveUpSending (hu : s.unloaded = false) : s.start.Leads s.giveUpSending.start := by
  simp only [State.unloaded, Bool.or_eq_false_iff, decide_eq_false_iff_not] at hu
  unfold State.giveUpSending
  split
  · rw [State.enterMute_start]
    refine ⟨?_, id, rfl⟩
    by_cases hm : s.start.station = .mute
    · exact .inl hm.symm
    · exact .inr ⟨⟨hu.1, hu.2, hm⟩, by simp⟩
  · refine ⟨?_, fun _ => ?_, ?_⟩
    · rw [State.takeMuteAttr_station]
      split
      · next hj => exact .inr ⟨by simp [hj], by simp⟩
      · exact .inl rfl
    · simp only [State.takeMuteAttr, setQueue_start, setStart_start]
      split <;> [(split <;> rfl); rfl; rfl]
    · simp only [State.takeMuteAttr, setQueue_start, setStart_start]
      split <;> [(split <;> rfl); rfl; rfl]

theorem leads_epoch (hs : s.start.station = .rollcall) : s.start.Leads s.epoch.start := by
  refine ⟨.inr ⟨by simp [hs], ?_⟩, ?_, ?_⟩ <;> simp [State.epoch]

theorem leads_endRestart (hu : s.unloaded = false) : s.start.Leads s.endRestart.start := by
  unfold State.endRestart
  split
  case h_6 | h_7 | h_8 => exact .refl _
  all_goals next hs => exact leads_enterRollcall hu (by simp [hs])

theorem leads_releaseTrg (hu : s.unloaded = false) : s.start.Leads s.releaseTrg.start := by
  unfold State.releaseTrg
  split
  · exact leads_endRestart (s := s.setTrig { s.trig with level := false, detector := none, restarting := false }) hu
  · exact .refl _

/-! ## The owners of a frame -/

theorem leads_clashCheck (own : Bool) (f : Frame) : s.start.Leads (s.clashCheck own f).start := by
  refine State.clashCheck_cases (P := fun t => s.start.Leads t.start) own f (.refl _) fun _ _ hd => ?_
  exact leads_giveUpSending (s := s.raise .addressClash (frameField f).toNat) (State.unloaded_of_detectsClash hd)

theorem leads_leaveListening (f : Frame) : s.start.Leads (s.leaveListening f).start := by
  unfold State.leaveListening
  split
  · next hl =>
    have hjoining := leads_enterJoining (s := s) (.inl hl)
    split
    · split
      · exact leads_enterRollcall (by simp [State.unloaded, hl]) (by simp [hl])
      · exact hjoining
    all_goals exact hjoining
  · exact .refl _

theorem leads_rollcallRoll (hs : s.start.station = .rollcall) (own : Bool) (f : RollFrame) :
    s.start.Leads (s.rollcallRoll own f).start := by
  have hjoining {t : State} (ht : t.start = s.start) : s.start.Leads t.enterJoining.start :=
    ht ▸ leads_enterJoining (.inr (by rw [ht, hs]))
  unfold State.rollcallRoll
  dsimp only
  split
  · split
    · exact ⟨.inl rfl, id, rfl⟩
    · exact .refl _
  · have hmarked : (if decide (f.signature ≠ s.config.signature) then s.mismatch f else s).start = s.start := by
      split <;> simp
    split
    · split
      · exact .of_eq (by simp)
      · exact .of_eq (by simp)
    · exact .of_eq hmarked
    · split
      · exact hjoining (by simp)
      · exact (hjoining rfl).trans (.of_eq (by simp))

theorem leads_ownJoin (f : RollFrame) : s.start.Leads (s.ownJoin f).start := by
  unfold State.ownJoin
  dsimp only
  split
  · next hs =>
    have hs : s.start.station = .joining ∨ s.start.station = .silenced := by simpa using hs
    refine ⟨.inr ⟨?_, by simp⟩, by simp, by simp⟩
    rcases hs with hs | hs <;> simp [hs]
  · exact .of_eq (by simp)

/-- R84: at MISSLIM a RUNNING acquirer enters SILENCED. -/
theorem ownSilence_start (n : Nat) (s : State) : (s.ownSilence n).start =
    if s.isAcquirer ∧ s.start.station = .running then { s.start with station := .silenced } else s.start := by
  have hraised : (s.raise .silenced n).isAcquirer = s.isAcquirer ∧ (s.raise .silenced n).start = s.start := ⟨rfl, rfl⟩
  simp only [State.ownSilence, offerRoll_frame, hraised, Bool.and_eq_true, decide_eq_true_eq]
  split
  · simp [State.enterSilenced]
  · simp

theorem leads_skipTurn (m : Addr) (n : Nat) : s.start.Leads (s.skipTurn m n).start := by
  unfold State.skipTurn
  dsimp only
  split
  · split
    · rw [ownSilence_start]
      split
      · next hs =>
        have hs : s.start.station = .running := by simpa using hs.2
        exact ⟨.inr ⟨by simp [hs], by simp⟩, by simp, by simp⟩
      · exact .of_eq (by simp)
    · exact .of_eq (by simp)
  · exact .of_eq (by simp)

theorem leads_handleSkip (own : Bool) (f : SkipFrame) : s.start.Leads (s.handleSkip own f).start := by
  have hheard : (s.skipHeard own f).start = s.start := by unfold State.skipHeard; split <;> simp
  cases ht : s.tracks
  · exact .of_eq (by simp [State.handleSkip, ht])
  · rw [State.handleSkip_of_tracks own f ht]
    split
    · rw [(State.buildFrame_applySkip_frame _ _ _ _).2.1, (State.reassess_frame _).2.1, ← hheard]
      exact leads_skipTurn _ _
    · exact .of_eq hheard

theorem leads_giveOwners (own : Bool) (f : Frame) : s.start.Leads (s.giveOwners own f).start := by
  unfold State.giveOwners
  split
  · split
    · exact .of_eq (by simp)
    · exact .refl _
  · exact .of_eq (by simp)
  · exact leads_handleSkip own _
  · unfold State.handleRoll
    split
    · next hs => exact leads_rollcallRoll hs own _
    · split
      · exact .refl _
      · split
        · unfold State.ownRoll
          split
          · exact .refl _
          · exact leads_ownJoin _
          · exact .of_eq (by simp)
        · exact .of_eq (by simp)

theorem leads_handleFrame (own : Bool) (f : Frame) : s.start.Leads (s.handleFrame own f).start := by
  unfold State.handleFrame
  dsimp only
  split
  · exact leads_clashCheck own f
  · rw [(State.settle_frame _ _).2.1]
    exact ((leads_clashCheck own f).trans (leads_leaveListening f)).trans (leads_giveOwners own f)

theorem leads_received (f : Frame) : s.start.Leads (s.received f).start := by
  unfold State.received
  have hended : (if s.isOwn f then s.endOwn else s.endOther).start = s.start := by split <;> simp
  rw [← hended]
  exact leads_handleFrame _ f

/-! ## Every command -/

/-- R169: the straps stand from the release of RST to the next RST. -/
theorem pins_after {c : Instr} (hrst : s.pins.rst = false) (hc : c ≠ .rstAssert) : (s.after c).pins = s.pins := by
  refine State.after_cases (P := fun t => t.pins = s.pins) c s rfl (fun hr => absurd hr hc)
    (fun hr => absurd (hrst.symm.trans hr) (by simp)) ?_ ?_ ?_ ?_ ?_ ?_ ?_ ?_ ?_ ?_ ?_ ?_ ?_ ?_ ?_ ?_ ?_ ?_ ?_ ?_ ?_
    ?_ ?_ ?_ ?_ ?_ ?_ <;> intros <;> simp [State.received]
  split <;> simp

/-- From the end of loading to the next RST start-up control goes where its states lead, and pins and image stand. -/
theorem Fits.leads (h : s.Fits) {c : Instr} (hrst : s.pins.rst = false) (hc : c ≠ .rstAssert)
    (hread : s.start.station ≠ .loading ∨ ∀ img trg, c ≠ .imageReadComplete img trg) :
    s.start.Leads (s.after c).start ∧ (s.after c).pins = s.pins ∧ (s.after c).config = s.config := by
  refine State.after_cases (P := fun t => s.start.Leads t.start ∧ t.pins = s.pins ∧ t.config = s.config) c s
    (idle := ⟨.refl _, rfl, rfl⟩) (reset := fun hr => absurd hr hc)
    (release := fun hr => absurd (hrst.symm.trans hr) (by simp))
    (read := fun _ img trg hr hp => ?_)
    (sample := fun _ _ _ _ => ⟨.of_eq (by simp), by simp⟩) (window := fun _ _ => ⟨.of_eq (by simp), by simp⟩)
    (edge := fun _ _ _ _ _ => ⟨.of_eq (by simp), by simp⟩) (request := fun _ _ _ _ _ => ⟨.of_eq (by simp), by simp⟩)
    (normalPulse := fun _ _ => ⟨.refl _, rfl, rfl⟩) (restartPulse := fun _ _ => ⟨.refl _, rfl, rfl⟩)
    (restart := fun _ => ⟨.of_eq (by simp), by simp⟩)
    (detection := fun _ _ _ => ⟨⟨.inl ?_, ?_, ?_⟩, by simp⟩)
    (trgRelease := fun _ _ hu _ => ⟨?_, by simp⟩)
    (listen := fun _ _ hl _ => ⟨leads_enterRollcall (by simp [State.unloaded, hl]) (by simp [hl]), by simp⟩)
    (roll := fun _ _ _ hs _ => ⟨?_, by simp⟩)
    (hldFall := fun _ _ hs _ => ⟨leads_epoch hs, by simp⟩)
    (turn := fun _ _ => ⟨.of_eq (by simp), by simp⟩) (close := fun _ _ _ => ⟨.of_eq (by simp), by simp⟩)
    (datIdle := fun _ _ => ⟨.of_eq (by simp), by simp⟩) (contention := fun _ _ => ⟨.of_eq (by simp), by simp⟩)
    (lost := fun _ _ _ => ⟨.of_eq (by simp), by simp⟩) (abandoned := fun _ _ f hf => ⟨?_, by simp⟩)
    (discard := fun _ _ _ => ⟨.of_eq (by simp), by simp⟩)
    (received := fun _ _ f _ _ => ⟨leads_received f, ?_⟩)
    (taking := fun _ _ _ => ⟨.of_eq (by simp), by simp⟩) (read_window := fun _ _ _ _ => ⟨.refl _, rfl, rfl⟩)
    (clear := fun _ _ => ⟨.refl _, rfl, rfl⟩) (ack := fun _ _ => ⟨.refl _, rfl, rfl⟩)
    (write := fun _ => ⟨.refl _, rfl, rfl⟩) (tick := fun _ _ => ⟨⟨.inl rfl, id, rfl⟩, rfl, rfl⟩)
  · exact absurd hp (not_not.mpr (h.imagePort (hread.resolve_right fun hn => hn _ _ hr)))
  · simp [State.detectRestart]
  · simp [State.detectRestart]
  · simp [State.detectRestart]
  · exact leads_releaseTrg hu
  · unfold State.meetRoll
    split
    · exact ⟨.inl rfl, id, rfl⟩
    · exact leads_epoch hs
  · have hquiet := h.not_quiet_of_onWire (by simp [hf])
    have hu : s.unloaded = false := by
      rw [← Bool.not_eq_true, State.unloaded_iff]
      exact fun hu => hquiet (.inl (hu.imp_right .inl))
    unfold State.abandon
    dsimp only
    split
    · rw [State.failLimit, (State.settle_frame _ _).2.1]
      refine .trans (.of_eq ?_) (leads_giveUpSending ?_)
      · simp
      · simpa [State.unloaded] using hu
    · exact .of_eq (by simp)
  · unfold State.received
    split <;> simp

/-- A command other than the completion of a read leaves LOADING and HALTED for no other state. -/
theorem Fits.unloaded_after (h : s.Fits) {c : Instr} (hrst : s.pins.rst = false) (hc : c ≠ .rstAssert)
    (hread : s.start.station ≠ .loading ∨ ∀ img trg, c ≠ .imageReadComplete img trg) :
    (s.after c).unloaded = s.unloaded := by
  obtain ⟨hleads, -, -⟩ := h.leads hrst hc hread
  rcases hleads.station with hs | ⟨hs, ht⟩
  · simp [State.unloaded, hs]
  · simp [State.unloaded, hs, ht]

end State

/-- Settles O2. -/
theorem everyCommandCompletes : Obligations.EveryCommandCompletes := by
  intro c s
  refine ⟨s.after c, exec_eq_next c s, ?_, fun hc hrst hcoherent => ?_⟩
  · refine State.after_cases (P := fun t => t.pending = s.pending) c s rfl (fun _ => rfl) ?_ ?_ ?_ ?_ ?_ ?_ ?_ ?_ ?_
      ?_ ?_ ?_ ?_ ?_ ?_ ?_ ?_ ?_ ?_ ?_ ?_ ?_ ?_ ?_ ?_ ?_ ?_ ?_ <;> intros <;> simp [State.received]
    split <;> simp
  · have hfits := State.Coherent.fits hcoherent
    refine ⟨?_, fun hs => ?_, fun hs => ?_, fun hs => ?_⟩
    · exact State.pins_after hrst hc
    · obtain ⟨hleads, -, hconfig⟩ := hfits.leads hrst hc (.inl hs)
      refine ⟨hconfig, hleads.imageBuffer, ?_, hleads.muteAttr⟩
      rcases hleads.station with ht | ⟨-, ht⟩
      · rwa [ht]
      · exact ht.1
    · obtain ⟨hleads, -⟩ := hfits.leads hrst hc (.inl (by simp [hs]))
      exact (hleads.station.resolve_right fun hn => hn.1.2.1 hs).trans hs
    · obtain ⟨hleads, -⟩ := hfits.leads hrst hc (.inl (by simp [hs]))
      exact (hleads.station.resolve_right fun hn => hn.1.2.2 hs).trans hs

end Sys2Proof.Machine
end

section
/-! The laws of the roster (R47, R71, R82): what each change of an entry keeps, and so every step. -/

namespace Sys2Proof.Machine

/-- Under RST nothing happens but RST_ASSERT and RST_RELEASE. -/
theorem State.after_of_rst {s : State} (hrst : s.pins.rst = true) (c : Instr) :
    s.after c = s ∨ c = .rstAssert ∨ ∃ straps role, c = .rstRelease straps role := by
  have low {P : Prop} (h : s.pins.rst = false) : P := absurd (hrst.symm.trans h) (by simp)
  exact State.after_cases (P := fun t => t = s ∨ c = .rstAssert ∨ ∃ straps role, c = .rstRelease straps role) c s
    (.inl rfl) (fun h => .inr (.inl h)) (fun _ a r h => .inr (.inr ⟨a, r, h⟩))
    low low low low low low low low low low low low low low low low low low low low low low low low low low low

/-- LOADING and HALTED are left by the completion of a read alone. -/
theorem State.Fits.loaded_before {s : State} (h : s.Fits) {c : Instr} (hu : (s.after c).unloaded = false) :
    s.unloaded = false ∨ s.start.station = .loading ∧ ∃ img trg, c = .imageReadComplete img trg := by
  by_cases hc : c = .rstAssert
  · subst hc
    have hreset : (s.after .rstAssert).unloaded = true := rfl
    exact absurd (hreset.symm.trans hu) (by simp)
  · cases hrst : s.pins.rst
    · by_cases hread : s.start.station ≠ .loading ∨ ∀ img trg, c ≠ .imageReadComplete img trg
      · exact .inl ((h.unloaded_after hrst hc hread).symm.trans hu)
      · push Not at hread
        exact .inr hread
    · rcases State.after_of_rst hrst c with ht | ht | ⟨straps, role, rfl⟩
      · exact .inl (ht ▸ hu)
      · exact absurd ht hc
      · have hloading : (s.after (.rstRelease straps role)).unloaded = true := congrArg State.unloaded (if_pos hrst)
        exact absurd (hloading.symm.trans hu) (by simp)

/-! ## The cases of a reception -/

/-- The frame's end on the wire, and then its owners. -/
theorem State.received_cases {P : State → Prop} (f : Frame) (s : State)
    (own : s.isOwn f = true → P (s.endOwn.handleFrame true f))
    (other : s.isOwn f = false → P (s.endOther.handleFrame false f)) : P (s.received f) := by
  unfold State.received
  cases ho : s.isOwn f
  · exact other ho
  · exact own ho

/-- The clash check alone while restarting, else the owners and the settling. -/
theorem State.handleFrame_cases {P : State → Prop} (own : Bool) (f : Frame) (s : State)
    (checked : P (s.clashCheck own f))
    (owners : s.trig.restarting = false →
      P ((((s.clashCheck own f).leaveListening f).giveOwners own f).settle s.order)) : P (s.handleFrame own f) := by
  unfold State.handleFrame
  dsimp only
  split
  · exact checked
  · next hr => exact owners (by simpa using hr)

/-- R181, R184: what a ROLL frame can do in ROLLCALL. -/
theorem State.rollcallRoll_cases {P : State → Prop} (own : Bool) (f : RollFrame) (s : State) (stays : P s)
    (called : own = true → f.mode = .call → P (s.ownCall f))
    (marked : own = false → P (s.mismatch f))
    (present : own = false → f.mode = .call → P (s.hearRoll f.sender (RosterEntry.rollCalled f)))
    (joins : own = false → f.mode = .echo → P (s.mismatch f).enterJoining)
    (echoed : own = false → f.mode = .echo → P (s.enterJoining.otherRoll f)) : P (s.rollcallRoll own f) := by
  unfold State.rollcallRoll
  cases own
  · dsimp only
    by_cases hd : f.signature = s.config.signature <;> cases hm : f.mode <;>
      simp only [hd, ne_eq, not_true_eq_false, not_false_eq_true, decide_true, decide_false, Bool.false_eq_true, if_true,
        if_false]
    · exact present rfl hm
    · exact stays
    · exact echoed rfl hm
    · exact marked rfl
    · exact marked rfl
    · exact joins rfl hm
  · by_cases hm : f.mode = .call
    · simp only [if_true, hm]
      exact called rfl hm
    · simp only [if_true, hm, if_false]
      exact stays

/-! ## The frame on the wire -/

@[simp] theorem Place.driven_eq_some {φ : Type} {p : Place φ} {f : φ} :
    p.driven = some f ↔ p.onWire = true ∧ p.frame = f := by
  unfold Place.driven
  cases p.onWire <;> simp

theorem Place.frame_mem {φ : Type} (p : Place φ) : p.frame ∈ p.frames := by
  unfold Place.frames
  split <;> simp

/-- The frame on the wire is a place's. -/
theorem Queue.onWire_cases {q : Queue} {f : Frame} (h : q.onWire = some f) :
    (∃ p ∈ q.takes, p.onWire = true ∧ f = .take p.frame) ∨ (∃ p, q.skip = some p ∧ p.onWire = true ∧ f = .skip p.frame)
      ∨ (∃ p, q.frag = some p ∧ p.onWire = true ∧ f = .frag p.frame)
      ∨ ∃ p, q.roll = some p ∧ p.onWire = true ∧ f = .roll p.frame := by
  simp only [Queue.onWire, Option.orElse_eq_orElse, Option.orElse_eq_or, Option.or_eq_some_iff, Option.map_eq_some_iff,
    Option.bind_eq_some_iff, Place.driven_eq_some] at h
  rcases h with ⟨x, hx, rfl⟩ | ⟨-, ⟨x, ⟨p, hp, hw, rfl⟩, rfl⟩ | ⟨-, ⟨x, ⟨p, hp, hw, rfl⟩, rfl⟩ | ⟨-, x, ⟨p, hp, hw, rfl⟩, rfl⟩⟩⟩
  · obtain ⟨p, hp, hd⟩ := List.exists_of_findSome?_eq_some hx
    obtain ⟨hw, rfl⟩ := Place.driven_eq_some.mp hd
    exact .inl ⟨p, hp, hw, rfl⟩
  · exact .inr (.inl ⟨p, hp, hw, rfl⟩)
  · exact .inr (.inr (.inl ⟨p, hp, hw, rfl⟩))
  · exact .inr (.inr (.inr ⟨p, hp, hw, rfl⟩))

theorem Queue.roll_of_onWire {q : Queue} {f : RollFrame} (h : q.onWire = some (.roll f)) :
    ∃ p, q.roll = some p ∧ p.onWire = true ∧ p.frame = f := by
  rcases Queue.onWire_cases h with ⟨p, -, -, hf⟩ | ⟨p, -, -, hf⟩ | ⟨p, -, -, hf⟩ | ⟨p, hp, hw, hf⟩
  · cases hf
  · cases hf
  · cases hf
  · exact ⟨p, hp, hw, (Frame.roll.inj hf).symm⟩

/-! ## One entry -/

/-- R47, R71, R82: what holds of an entry under a MISSLIM. -/
structure RosterEntry.Kept (lim : Nat) (e : RosterEntry) : Prop where
  misses : e.misses ≤ lim
  present : e.state = .present → e.misses < lim
  count : e.count.toNat ≤ 64
  mark : e.mark ≤ maxEvent

namespace RosterEntry.Kept

variable {lim : Nat} {e : RosterEntry}

theorem blank : RosterEntry.blank.Kept lim := by constructor <;> simp [RosterEntry.blank]

theorem withMark (h : e.Kept lim) {n : Nat} (hn : n ≤ maxEvent) : ({ e with mark := n } : RosterEntry).Kept lim :=
  ⟨h.misses, h.present, h.count, hn⟩

theorem cleared (hl : 1 ≤ lim) (x : EntryState) (r : Option Role) {c : BitVec 7} (hc : c.toNat ≤ 64)
    {n : Nat} (hn : n ≤ maxEvent) : (RosterEntry.mk x r c 0 n).Kept lim :=
  ⟨Nat.zero_le _, fun _ => hl, hc, hn⟩

theorem withState (h : e.Kept lim) {x : EntryState} (hx : x = .present → e.state = .present) :
    ({ e with state := x } : RosterEntry).Kept lim := ⟨h.misses, fun hp => h.present (hx hp), h.count, h.mark⟩

theorem withRoll (h : e.Kept lim) {f : RollFrame} (hf : f.count.toNat ≤ 64) : (e.withRoll f).Kept lim :=
  ⟨h.misses, h.present, hf, h.mark⟩

theorem missed (h : e.Kept lim) (hp : e.state = .present) {n : Nat} (hn : n ≤ maxEvent) :
    ({ e with mark := n, misses := e.misses + 1, state := if lim ≤ e.misses + 1 then .silent else e.state } :
      RosterEntry).Kept lim := by
  have hm := h.present hp
  refine ⟨by simp only; omega, fun hs => ?_, h.count, hn⟩
  simp only at hs ⊢
  split at hs
  · contradiction
  · omega

theorem toCalling (h : e.Kept lim) : e.toCalling.Kept lim := by
  unfold RosterEntry.toCalling
  split
  · exact h.withState (by simp)
  · exact h

theorem atEpoch (h : e.Kept lim) (hl : 1 ≤ lim) : e.atEpoch.Kept lim := by
  unfold RosterEntry.atEpoch
  split
  · exact cleared hl _ _ h.count (Nat.zero_le _)
  · exact h

theorem mismatched (h : e.Kept lim) {f : RollFrame} (hf : f.count.toNat ≤ 64) :
    (RosterEntry.mismatched f e).Kept lim := (h.withRoll hf).withState (by simp)

theorem joinMark_le (x : BitVec 32) : joinMark x ≤ maxEvent := by
  unfold joinMark maxEvent
  split <;> omega

theorem called (h : e.Kept lim) (hl : 1 ≤ lim) {f : RollFrame} (hf : f.count.toNat ≤ 64) :
    (RosterEntry.called f e).Kept lim := by
  unfold RosterEntry.called
  split
  case h_1 => exact h.withRoll hf
  case h_2 => exact cleared hl _ _ hf (Nat.zero_le _)
  all_goals exact cleared hl _ _ hf h.mark

theorem joined (h : e.Kept lim) (hl : 1 ≤ lim) {f : RollFrame} (hf : f.count.toNat ≤ 64) :
    (RosterEntry.joined f e).Kept lim :=
  cleared hl _ _ hf (Nat.max_le.mpr ⟨h.mark, joinMark_le _⟩)

theorem echoed (h : e.Kept lim) {f : RollFrame} (hf : f.count.toNat ≤ 64) : (RosterEntry.echoed f e).Kept lim := by
  unfold RosterEntry.echoed
  split
  · exact h.withRoll hf
  · exact h

theorem rollCalled (hl : 1 ≤ lim) {f : RollFrame} (hf : f.count.toNat ≤ 64) :
    (RosterEntry.rollCalled f e).Kept lim := cleared hl _ _ hf (Nat.zero_le _)

end RosterEntry.Kept

/-! ## The roster -/

/-- The roster's laws of a station that has loaded its image. -/
structure State.RosterKept (s : State) : Prop where
  limit : 1 ≤ s.config.misslim ∧ s.config.misslim ≤ 7
  entries : ∀ a, (s.entry a).Kept s.config.misslim
  own : s.isCollector = true → s.ownEntry.role ≠ some .acquirer

namespace State.RosterKept

variable {s t : State}

theorem congr (h : s.RosterKept) (hp : t.pins = s.pins) (hc : t.config = s.config) (hr : t.roster = s.roster) :
    t.RosterKept := by
  refine ⟨hc ▸ h.limit, fun a => ?_, fun hcol => ?_⟩
  · rw [State.entry_of_roster hr, hc]
    exact h.entries a
  · rw [State.ownEntry, State.entry_of_roster hr, hp]
    exact h.own (by unfold State.isCollector at hcol ⊢; rwa [hp] at hcol)

theorem setEntry (h : s.RosterKept) (a : Addr) {e : RosterEntry} (he : e.Kept s.config.misslim)
    (ho : s.ownsEntry a = false ∨ e.role = (s.entry a).role ∨ e.role ≠ some .acquirer) : (s.setEntry a e).RosterKept := by
  refine ⟨h.limit, fun b => ?_, fun hc => ?_⟩
  · rw [State.entry_setEntry]
    split
    · exact he
    · exact h.entries b
  · rw [State.ownEntry, State.entry_setEntry]
    split
    · next ha =>
      have ha : s.pins.address = a := ha
      have hc : s.isCollector = true := hc
      have hown : s.ownsEntry a = true := by simp [State.ownsEntry, hc, ha]
      rcases ho with ho | ho | ho
      · exact absurd (hown.symm.trans ho) (by simp)
      · rw [ho, ← ha]
        exact h.own hc
      · exact ho
    · exact h.own hc

theorem blank (hl : 1 ≤ s.config.misslim ∧ s.config.misslim ≤ 7) (hr : s.roster = Roster.blank) : s.RosterKept :=
  ⟨hl, fun a => State.entry_of_blank hr a ▸ .blank, fun _ => by
    rw [State.ownEntry, State.entry_of_blank hr]
    simp [RosterEntry.blank]⟩

theorem each (h : s.RosterKept) {f : RosterEntry → RosterEntry} (hp : t.pins = s.pins) (hc : t.config = s.config)
    (hr : t.roster = s.roster.each f) (hf : ∀ e : RosterEntry, e.Kept s.config.misslim → (f e).Kept s.config.misslim)
    (hrole : ∀ e, (f e).role = e.role) : t.RosterKept := by
  have hentry (a : Addr) : t.entry a = f (s.entry a) := by rw [State.entry, hr, Roster.each_get]; rfl
  refine ⟨hc ▸ h.limit, fun a => ?_, fun hcol => ?_⟩
  · rw [hentry, hc]
    exact hf _ (h.entries a)
  · rw [State.ownEntry, hentry, hrole, hp]
    exact h.own (by unfold State.isCollector at hcol ⊢; rwa [hp] at hcol)

/-! ## Marks and misses -/

theorem raiseMark (h : s.RosterKept) (a : Addr) {n : Nat} (hn : n ≤ maxEvent) : (s.raiseMark a n).RosterKept :=
  h.setEntry a ((h.entries a).withMark (Nat.max_le.mpr ⟨(h.entries a).mark, hn⟩)) (.inr (.inl rfl))

theorem raiseMarks (h : s.RosterKept) (l : List Addr) {n : Nat} (hn : n ≤ maxEvent) :
    (l.foldl (fun s a => s.raiseMark a n) s).RosterKept := by
  induction l generalizing s with
  | nil => exact h
  | cons a l ih => exact ih (h.raiseMark a hn)

/-- R56, R81: the highest entry below an event is below it. -/
theorem entryBelow_le (s : State) (n : Nat) : (s.entryBelow n).getD 0 ≤ n := by
  unfold State.entryBelow
  cases hl : (s.agree.takeList.filter fun e => e.number < n).getLast? with
  | none => simp
  | some e =>
    have hm := List.mem_of_getLast? hl
    simp only [List.mem_filter, decide_eq_true_eq] at hm
    exact Nat.le_of_lt hm.2

theorem learn (h : s.RosterKept) (m : Addr) {n : Nat} (hn : n ≤ maxEvent) : (s.learn m n).RosterKept := by
  unfold State.learn
  dsimp only
  split
  · next hl =>
    simp only [Bool.and_eq_true, Bool.not_eq_true'] at hl
    refine h.setEntry m (.cleared h.limit.1 _ _ (h.entries m).count ?_) (.inl hl.2)
    exact Nat.max_le.mpr ⟨(h.entries m).mark, (entryBelow_le s n).trans hn⟩
  · exact h

theorem hearEvent (h : s.RosterKept) (n : Nat) : (s.hearEvent n).RosterKept := h.congr (by simp) (by simp) (by simp)

theorem reassess (h : s.RosterKept) : s.reassess.RosterKept := h.congr (by simp) (by simp) (by simp)

theorem hearMember (h : s.RosterKept) (m : Addr) {n : Nat} (hn : n ≤ maxEvent) : (s.hearMember m n).RosterKept :=
  (h.learn m hn).reassess

theorem currentPart (h : s.RosterKept) (f : FragFrame) : (s.currentPart f).RosterKept := by
  have hn : f.number.toNat ≤ maxEvent := by unfold maxEvent; omega
  have hpassed : (s.passImplied f.sender f.number.toNat).RosterKept :=
    (h.raiseMarks _ hn).raiseMark _ ((entryBelow_le s _).trans hn)
  unfold State.currentPart
  dsimp only
  split
  · refine reassess (hpassed.setEntry f.sender ?_ (.inr (.inl rfl)))
    exact RosterEntry.Kept.cleared hpassed.limit.1 _ _ (hpassed.entries f.sender).count hn
  · exact hpassed.reassess.congr (by simp) (by simp) (by simp)

theorem handleFrag (h : s.RosterKept) (own : Bool) (f : FragFrame) : (s.handleFrag own f).RosterKept := by
  have hn : f.number.toNat ≤ maxEvent := by unfold maxEvent; omega
  have hheard := (h.hearEvent f.number.toNat).hearMember f.sender hn
  have hstored {t : State} (ht : t.RosterKept) : (if own then t.storePart f else t).RosterKept := by
    split
    · exact ht.congr (by simp) (by simp) (by simp)
    · exact ht
  have hbuilt {t : State} {stamp : Option Time} (b : Bool) (ht : t.RosterKept) :
      (if b then t.buildFrame f.number.toNat stamp (State.applyPart f) else t).RosterKept := by
    split
    · exact ht.congr (by simp) (by simp) (by simp)
    · exact ht
  unfold State.handleFrag
  dsimp only
  split
  · exact h
  · refine hbuilt _ (hstored ?_)
    split
    · exact hheard
    · split
      · exact hheard.congr (by simp) (by simp) (by simp)
      · exact hheard.currentPart f

theorem missTurn (h : s.RosterKept) (m : Addr) (hm : s.isMember m = true) {n : Nat} (hn : n ≤ maxEvent) :
    (s.missTurn m n).RosterKept := by
  have hp : (s.entry m).state = .present := by
    simp only [State.isMember, RosterEntry.isMember, Bool.and_eq_true, decide_eq_true_eq] at hm
    exact hm.1
  exact h.setEntry m ((h.entries m).missed hp hn) (.inr (.inl rfl))

/-- A SKIP that takes effect changes the subject's entry alone. -/
theorem skipTurn_roster (s : State) (m : Addr) (n : Nat) : (s.skipTurn m n).roster = (s.missTurn m n).roster := by
  unfold State.skipTurn
  dsimp only
  split
  · split <;> simp
  · simp

theorem handleSkip (h : s.RosterKept) (own : Bool) (f : SkipFrame) : (s.handleSkip own f).RosterKept := by
  have hn : f.number.toNat ≤ maxEvent := by unfold maxEvent; omega
  have hheard : (s.skipHeard own f).RosterKept := by
    have hmember := (h.hearEvent f.number.toNat).hearMember f.subject hn
    unfold State.skipHeard
    split
    · exact hmember.congr (by simp) (by simp) (by simp)
    · exact hmember
  cases ht : s.tracks
  · exact h.congr (by simp) (by simp) (by simp [State.handleSkip, ht])
  · rw [State.handleSkip_of_tracks own f ht]
    split
    · next hm =>
      simp only [Bool.and_eq_true] at hm
      refine (hheard.missTurn f.subject hm.1 hn).congr (by simp) (by simp) ?_
      simp [skipTurn_roster]
    · exact hheard

/-! ## ROLL frames -/

theorem hearRoll (h : s.RosterKept) (a : Addr) {g : RosterEntry → RosterEntry}
    (hg : ∀ e : RosterEntry, e.Kept s.config.misslim → (g e).Kept s.config.misslim) : (s.hearRoll a g).RosterKept := by
  unfold State.hearRoll
  split
  · exact h
  · next ho => exact h.setEntry a (hg _ (h.entries a)) (.inl (by simpa using ho))

theorem modifyEntry (h : s.RosterKept) (a : Addr) {g : RosterEntry → RosterEntry}
    (hg : ∀ e : RosterEntry, e.Kept s.config.misslim → (g e).Kept s.config.misslim)
    (hrole : (g (s.entry a)).role = (s.entry a).role ∨ (g (s.entry a)).role = some s.pins.role) :
    (s.modifyEntry a g).RosterKept := by
  refine h.setEntry a (hg _ (h.entries a)) ?_
  cases hc : s.ownsEntry a
  · exact .inl rfl
  · refine .inr (hrole.imp_right fun hr => ?_)
    simp only [State.ownsEntry, State.isCollector, Bool.and_eq_true, decide_eq_true_eq] at hc
    simp [hr, hc.1]

theorem mismatch (h : s.RosterKept) {f : RollFrame} (hf : f.count.toNat ≤ 64) : (s.mismatch f).RosterKept := by
  have hheard := h.hearRoll f.sender (g := RosterEntry.mismatched f) fun e he => he.mismatched hf
  unfold State.mismatch
  dsimp only
  split
  · exact hheard
  · exact hheard.congr (by simp) (by simp) (by simp)

theorem offerEcho (h : s.RosterKept) : s.offerEcho.RosterKept := h.congr (by simp) (by simp) (by simp)

theorem raiseHighTake (h : s.RosterKept) (n : Nat) : (s.raiseHighTake n).RosterKept :=
  h.congr (by simp) (by simp) (by simp)

theorem otherRoll (h : s.RosterKept) {f : RollFrame} (hf : f.count.toNat ≤ 64) : (s.otherRoll f).RosterKept := by
  unfold State.otherRoll
  split
  · dsimp only
    split
    · exact (h.mismatch hf).offerEcho
    · exact h.mismatch hf
  · split
    · exact offerEcho (h.hearRoll f.sender fun e he => he.called h.limit.1 hf)
    · exact (h.raiseHighTake _).hearRoll f.sender fun e he => he.joined (h.raiseHighTake _).limit.1 hf
    · exact ((h.raiseHighTake (joinMark f.field)).hearRoll f.sender fun e he => he.echoed hf).congr
        (by simp) (by simp) (by simp)

theorem ownRoll (h : s.RosterKept) {f : RollFrame} (hf : f.count.toNat ≤ 64) (hrole : f.role = s.pins.role) :
    (s.ownRoll f).RosterKept := by
  unfold State.ownRoll
  split
  · exact h
  · have hj := h.modifyEntry f.sender (g := RosterEntry.joined f) (fun e he => he.joined h.limit.1 hf)
      (.inr (by simp [RosterEntry.joined, RosterEntry.withRoll, hrole]))
    unfold State.ownJoin
    dsimp only
    split
    · exact hj.congr (by simp) (by simp) (by simp)
    · exact hj
  · refine h.modifyEntry f.sender (fun e he => he.echoed hf) ?_
    unfold RosterEntry.echoed
    split
    · exact .inr (by simp [RosterEntry.withRoll, hrole])
    · exact .inl rfl

theorem enterJoining (h : s.RosterKept) : s.enterJoining.RosterKept :=
  h.each (f := RosterEntry.toCalling) (by simp) (by simp) (by simp [State.enterJoining]) (fun _ he => he.toCalling)
    fun e => by unfold RosterEntry.toCalling; split <;> rfl

theorem rollcallRoll (h : s.RosterKept) (own : Bool) {f : RollFrame} (hf : f.count.toNat ≤ 64)
    (hrole : own = true → f.role = s.pins.role) : (s.rollcallRoll own f).RosterKept :=
  State.rollcallRoll_cases (P := State.RosterKept) own f s (stays := h)
    (called := fun ho _ => (h.modifyEntry f.sender (fun _ _ => .rollCalled h.limit.1 hf)
      (.inr (by simp [RosterEntry.rollCalled, RosterEntry.withRoll, hrole ho]))).congr rfl rfl rfl)
    (marked := fun _ => h.mismatch hf)
    (present := fun _ _ => h.hearRoll f.sender fun _ _ => .rollCalled h.limit.1 hf)
    (joins := fun _ _ => (h.mismatch hf).enterJoining) (echoed := fun _ _ => h.enterJoining.otherRoll hf)

/-! ## The owners of a frame -/

theorem giveOwners (h : s.RosterKept) (own : Bool) (f : Frame) (hv : frameValid f = true)
    (hrole : own = true → ∀ r, f = .roll r → r.role = s.pins.role) : (s.giveOwners own f).RosterKept := by
  unfold State.giveOwners
  split
  · split
    · exact h.congr (by simp) (by simp) (by simp)
    · exact h
  · exact h.handleFrag own _
  · exact h.handleSkip own _
  · next r =>
    have hf : r.count.toNat ≤ 64 := by simpa [frameValid] using hv
    unfold State.handleRoll
    split
    · exact h.rollcallRoll own hf fun ho => hrole ho r rfl
    · split
      · exact h
      · split
        · next ho => exact h.ownRoll hf (hrole ho r rfl)
        · exact h.otherRoll hf

theorem enterRollcall (h : s.RosterKept) : s.enterRollcall.RosterKept :=
  blank (by simpa using h.limit) (by simp [State.enterRollcall])

theorem leaveListening (h : s.RosterKept) (f : Frame) : (s.leaveListening f).RosterKept := by
  unfold State.leaveListening
  split
  · split
    · split
      · exact h.enterRollcall
      · exact h.enterJoining
    all_goals exact h.enterJoining
  · exact h

theorem handleFrame (h : s.RosterKept) (own : Bool) (f : Frame) (hv : frameValid f = true)
    (hrole : own = true → ∀ r, f = .roll r → r.role = s.pins.role) : (s.handleFrame own f).RosterKept := by
  have hchecked : (s.clashCheck own f).RosterKept := h.congr (by simp) (by simp) (by simp)
  refine State.handleFrame_cases own f s hchecked fun _ => ?_
  refine ((hchecked.leaveListening f).giveOwners own f hv fun ho r hr => ?_).congr (by simp) (by simp) (by simp)
  simpa using hrole ho r hr

theorem received (h : s.RosterKept) (f : Frame) (hv : frameValid f = true)
    (hrole : s.isOwn f = true → ∀ r, f = .roll r → r.role = s.pins.role) : (s.received f).RosterKept :=
  State.received_cases f s
    (fun ho => State.RosterKept.handleFrame (h.congr (by simp) (by simp) (by simp)) true f hv
      fun _ r hr => (hrole ho r hr).trans (by simp))
    (fun _ => State.RosterKept.handleFrame (h.congr (by simp) (by simp) (by simp)) false f hv fun ho => absurd ho (by simp))

theorem epoch (h : s.RosterKept) : s.epoch.RosterKept :=
  h.each (f := RosterEntry.atEpoch) (by simp) (by simp) (by simp [State.epoch]) (fun _ he => he.atEpoch h.limit.1)
    fun e => by unfold RosterEntry.atEpoch; split <;> rfl

/-- The roster's laws outlive every command that leaves the station loaded. -/
theorem after (h : s.RosterKept) (hfits : s.Fits) (hown : s.FramesAreOwn) (c : Instr)
    (hu : (s.after c).unloaded = false) (hl : s.unloaded = false) : (s.after c).RosterKept := by
  have kept {t : State} (hp : t.pins = s.pins) (hc : t.config = s.config) (hr : t.roster = s.roster) :
      t.unloaded = false → t.RosterKept := fun _ => h.congr hp hc hr
  have settled {t : State} (ht : t.RosterKept) : t.unloaded = false → t.RosterKept := fun _ => ht
  have hblank {t : State} (hc : t.config = s.config) (hr : t.roster = Roster.blank) : t.unloaded = false → t.RosterKept :=
    fun _ => blank (hc ▸ h.limit) hr
  refine State.after_cases (P := fun t => t.unloaded = false → t.RosterKept) c s (idle := settled h)
    (reset := fun _ ht => absurd ht (by simp [State.unloaded, State.reset])) (release := fun hr _ _ _ => ?_)
    (read := fun _ _ _ _ hp => ?_)
    (sample := fun _ _ _ _ => kept (by simp) (by simp) (by simp)) (window := fun _ _ => kept (by simp) (by simp) (by simp))
    (edge := fun _ _ _ _ _ => kept (by simp) (by simp) (by simp))
    (request := fun _ _ _ _ _ => kept (by simp) (by simp) (by simp))
    (normalPulse := fun _ _ => kept rfl rfl rfl) (restartPulse := fun _ _ => kept rfl rfl rfl)
    (restart := fun _ => kept (by simp) (by simp) (by simp))
    (detection := fun _ _ _ => hblank (by simp) (by simp [State.detectRestart]))
    (trgRelease := fun _ _ _ _ => settled ?_)
    (listen := fun _ _ _ _ => settled h.enterRollcall) (roll := fun _ b _ _ _ => settled ?_)
    (hldFall := fun _ _ _ _ => settled h.epoch)
    (turn := fun _ _ => kept (by simp) (by simp) (by simp)) (close := fun _ _ _ => kept (by simp) (by simp) (by simp))
    (datIdle := fun _ _ => kept (by simp) (by simp) (by simp))
    (contention := fun _ _ => kept (by simp) (by simp) (by simp))
    (lost := fun _ _ _ => kept (by simp) (by simp) (by simp)) (abandoned := fun _ _ _ _ => kept (by simp) (by simp) (by simp))
    (discard := fun _ _ _ => kept (by simp) (by simp) (by simp))
    (received := fun _ _ f _ hv => settled (h.received f hv fun ho r hr => ?_))
    (taking := fun _ _ _ => kept (by simp) (by simp) (by simp)) (read_window := fun _ _ _ _ => kept rfl rfl rfl)
    (clear := fun _ _ => kept rfl rfl rfl) (ack := fun _ _ => kept rfl rfl rfl) (write := fun _ => kept rfl rfl rfl)
    (tick := fun _ _ => kept rfl rfl rfl) hu
  · exact fun ht => absurd ht (by simp [State.unloaded])
  · exact absurd hp (not_not.mpr (hfits.imagePort fun hs => by simp [State.unloaded, hs] at hl))
  · have hreleased {t : State} (ht : t.RosterKept) : t.endRestart.RosterKept := by
      unfold State.endRestart
      split <;> first | exact ht.enterRollcall | exact ht
    unfold State.releaseTrg
    dsimp only
    split
    · exact hreleased (h.congr rfl rfl rfl)
    · exact h.congr rfl rfl rfl
  · unfold State.meetRoll
    split
    · exact h.congr rfl rfl rfl
    · exact h.epoch
  · subst hr
    obtain ⟨p, hp, -, rfl⟩ := Queue.roll_of_onWire (by simpa [State.isOwn] using ho)
    rw [hown.2.2.2 p hp p.frame p.frame_mem]
    rfl

end State.RosterKept

/-- The roster is blank before loading, and keeps its laws after it. -/
theorem State.rosterInv_of_kept {t : State} (h : t.Fits) (hk : t.unloaded = false → t.RosterKept) : t.RosterInv := by
  cases hu : t.unloaded
  · obtain ⟨hl, he, ho⟩ := hk hu
    exact ⟨fun hn => absurd (hu.symm.trans hn) (by simp), fun _ => ⟨hl.1, hl.2, fun a => ⟨(he a).misses, (he a).present, (he a).count, (he a).mark⟩⟩, ho⟩
  · have hr := h.roster (.inl (((State.unloaded_iff t).mp hu).imp_right .inl))
    refine ⟨fun _ => hr, fun hn => absurd (hu.symm.trans hn) (by simp), fun _ => ?_⟩
    rw [State.ownEntry, State.entry_of_blank hr]
    simp [RosterEntry.blank]

/-- R172, R175: a good image brings a MISSLIM in range, and the roster is blank then. -/
theorem State.Fits.rosterKept_of_read {s : State} (h : s.Fits) (hl : s.start.station = .loading) (img : List Byte)
    (trg : Bool) (hu : (s.after (.imageReadComplete img trg)).unloaded = false) :
    (s.after (.imageReadComplete img trg)).RosterKept := by
  have hroster : s.roster = Roster.blank := h.roster (.inl (.inl hl))
  suffices hread : ∀ t, t = s ∨ t = s.completeRead img trg → t.unloaded = false → t.RosterKept by
    refine hread _ ?_ hu
    by_cases hg : s.pins.rst || s.start.imagePort = .idle
    · exact .inl (if_pos hg)
    · exact .inr (if_neg hg)
  rintro t (rfl | rfl) ht
  · simp [State.unloaded, hl] at ht
  · revert ht
    unfold State.completeRead
    dsimp only
    split
    · split
      · next hrange =>
        refine fun _ => .blank ?_ (by simpa using hroster)
        rw [(State.loadGood_blocks _ _ _).1]
        simp only [imageInRange, Bool.and_eq_true, decide_eq_true_eq, ne_eq] at hrange
        obtain ⟨⟨⟨⟨-, hlow⟩, hhigh⟩, -⟩, -⟩ := hrange
        exact ⟨Nat.pos_of_ne_zero hlow, hhigh⟩
      · exact fun ht => absurd ht (by simp [State.halt, State.unloaded])
    · split
      · exact fun ht => absurd ht (by simp [State.unloaded, hl])
      · exact fun ht => absurd ht (by simp [State.halt, State.unloaded])

/-- Settles O57: an entry changes by a mark, a miss, a ROLL frame or what is learned from traffic, and each keeps what
holds of an entry; the own address is a collector's own ROLL frame's alone. -/
theorem stepKeepsRoster : Obligations.StepKeepsRoster := by
  intro s t hs hq hr ht
  rcases step_cases ht with rfl | ⟨c, rest, -, rfl⟩
  · exact hr
  · have hfits : State.Fits { s with pending := rest } := State.Coherent.fits hs
    obtain ⟨hblank, hloaded, hrole⟩ := hr
    refine State.rosterInv_of_kept (hfits.after c) fun hu => ?_
    rcases hfits.loaded_before hu with hl | ⟨hl, img, trg, rfl⟩
    · obtain ⟨hlow, hhigh, hentries⟩ := hloaded hl
      have hkept : State.RosterKept { s with pending := rest } := by
        refine ⟨⟨hlow, hhigh⟩, fun a => ?_, hrole⟩
        obtain ⟨hmisses, hpresent, hcount, hmark⟩ := hentries a
        exact ⟨hmisses, hpresent, hcount, hmark⟩
      exact hkept.after hfits hq.2.2.2.2.2.2.2.2.2 c hu hl
    · exact hfits.rosterKept_of_read hl img trg hu

end Sys2Proof.Machine
end

section
/-! The laws of the take list and the pending queue (R28, R29, R31, R33, R40): what each change of the agreement unit
keeps, and so every step. -/

namespace Sys2Proof.Machine

/-! ## The agreement unit alone -/

/-- R29, R31, R33, R40: the laws of the agreement unit that ask nothing of the station. -/
structure Agreement.Kept (x : Agreement) : Prop where
  length : x.takeList.length ≤ 64
  listed : ascending (x.takeList.map (·.number))
  entries : ∀ e ∈ x.takeList, 1 ≤ e.number ∧ e.number ≤ x.highTake
  high : x.highTake ≤ maxEvent
  full : x.listFull = true → 48 ≤ x.takeList.length
  queued : x.pendingTakes.length ≤ 4
  pending : ascending (x.pendingTakes.map (·.number))
  numbers : ∀ p ∈ x.pendingTakes, 1 ≤ p.number ∧ p.number ≤ maxEvent ∧ (x.exhausted = true ∨ p.number < x.evn)
  evn : x.evn ≤ maxEvent
  exhausted : x.exhausted = true → x.evn = 0

namespace Agreement.Kept

variable {x : Agreement}

theorem blank : Agreement.blank.Kept := by
  constructor <;> simp [Agreement.blank, ascending]

/-- R39: entries leave the list; the reason falls below 48. -/
theorem filterList (h : x.Kept) (p : TakeEntry → Bool) :
    ({ x with takeList := x.takeList.filter p, listFull := x.listFull && Config.takeListLow ≤ (x.takeList.filter p).length } :
      Agreement).Kept where
  length := (List.length_filter_le _ _).trans h.length
  listed := List.Pairwise.sublist (List.filter_sublist.map _) h.listed
  entries := fun e he => h.entries e (List.mem_filter.mp he).1
  high := h.high
  full := fun hf => by
    have hlow := (Bool.and_eq_true_iff.mp hf).2
    exact of_decide_eq_true hlow
  queued := h.queued
  pending := h.pending
  numbers := h.numbers
  evn := h.evn
  exhausted := h.exhausted

/-- R33: a full list may raise its reason. -/
theorem refuse (h : x.Kept) (hf : 64 ≤ x.takeList.length) : ({ x with listFull := true } : Agreement).Kept :=
  { h with full := fun _ => show 48 ≤ x.takeList.length by omega }

/-- R32, step 1: the numbers of the list stand. -/
theorem mapList (h : x.Kept) {g : TakeEntry → TakeEntry} (hg : ∀ e, (g e).number = e.number) :
    ({ x with takeList := x.takeList.map g } : Agreement).Kept := by
  have hnumbers : (x.takeList.map g).map (·.number) = x.takeList.map (·.number) := by
    rw [List.map_map]
    exact List.map_congr_left fun e _ => hg e
  refine { h with length := ?_, listed := ?_, entries := ?_, full := ?_ }
  · simpa using h.length
  · exact hnumbers ▸ h.listed
  · intro e he
    obtain ⟨d, hd, rfl⟩ := List.mem_map.mp he
    exact (hg d).symm ▸ h.entries d hd
  · simpa using h.full

/-- R32, step 4: a number above the high take is appended. -/
theorem append (h : x.Kept) {n : Nat} (hn : x.highTake < n) (hmax : n ≤ maxEvent) (hroom : x.takeList.length < 64)
    (t : Option Time) :
    ({ x with takeList := x.takeList ++ [{ number := n, time := t }], highTake := n } : Agreement).Kept := by
  refine { h with length := ?_, listed := ?_, entries := ?_, high := hmax, full := fun hf => ?_ }
  · simpa using hroom
  · simp only [List.map_append, List.map_cons, List.map_nil]
    refine List.pairwise_append.mpr ⟨h.listed, List.pairwise_singleton _ _, fun a ha b hb => ?_⟩
    obtain ⟨e, he, rfl⟩ := List.mem_map.mp ha
    rw [List.mem_singleton.mp hb]
    exact (h.entries e he).2.trans_lt hn
  · intro e he
    rcases List.mem_append.mp he with he | he
    · exact ⟨(h.entries e he).1, (h.entries e he).2.trans hn.le⟩
    · rw [List.mem_singleton.mp he]
      exact ⟨show 1 ≤ n by omega, le_refl n⟩
  · have := h.full hf
    simp only [List.length_append]
    omega

/-- R38: a number that is not listed is inserted. -/
theorem insert (h : x.Kept) {n : Nat} (h1 : 1 ≤ n) (hmax : n ≤ maxEvent) (hnew : ∀ e ∈ x.takeList, e.number ≠ n)
    (hroom : x.takeList.length < 64) (t : Option Time) :
    ({ x with takeList := insertTake { number := n, time := t } x.takeList, highTake := max x.highTake n } :
      Agreement).Kept := by
  refine { h with length := ?_, listed := ?_, entries := ?_, high := Nat.max_le.mpr ⟨h.high, hmax⟩, full := fun hf => ?_ }
  · simpa using hroom
  · exact List.pairwise_map.mpr (insertTake_ascending (List.pairwise_map.mp h.listed) hnew)
  · intro e he
    rcases mem_insertTake.mp he with rfl | he
    · exact ⟨h1, le_max_right _ _⟩
    · exact ⟨(h.entries e he).1, (h.entries e he).2.trans (le_max_left _ _)⟩
  · have := h.full hf
    rw [insertTake_length]
    omega

/-- R79: the high take rises. -/
theorem raiseHigh (h : x.Kept) {n : Nat} (hmax : n ≤ maxEvent) :
    ({ x with highTake := max x.highTake n } : Agreement).Kept :=
  { h with
    entries := fun e he => ⟨(h.entries e he).1, (h.entries e he).2.trans (le_max_left _ _)⟩
    high := Nat.max_le.mpr ⟨h.high, hmax⟩ }

/-- R40: an exhausted run. -/
theorem exhaust (h : x.Kept) : ({ x with evn := 0, exhausted := true } : Agreement).Kept :=
  { h with
    numbers := fun p hp => ⟨(h.numbers p hp).1, (h.numbers p hp).2.1, .inl rfl⟩
    evn := Nat.zero_le _
    exhausted := fun _ => rfl }

/-- R25, R28, R36: EVN rises. -/
theorem raiseEvn (h : x.Kept) (he : x.exhausted = false) {n : Nat} (hn : x.evn ≤ n) (hmax : n ≤ maxEvent) :
    ({ x with evn := n } : Agreement).Kept :=
  { h with
    numbers := fun p hp => by
      obtain ⟨h1, h2, h3⟩ := h.numbers p hp
      exact ⟨h1, h2, .inr ((h3.resolve_left (by simp [he])).trans_le hn)⟩
    evn := hmax
    exhausted := fun hx => absurd hx (by simp [he]) }

/-- Some of the pending entries, in their order. -/
theorem sublistPending (h : x.Kept) {l : List PendingTake} (hl : l.Sublist x.pendingTakes) :
    ({ x with pendingTakes := l } : Agreement).Kept :=
  { h with
    queued := hl.length_le.trans h.queued
    pending := List.Pairwise.sublist (hl.map _) h.pending
    numbers := fun p hp => h.numbers p (hl.subset hp) }

/-- R25: the entry of an accepted edge, whose number EVN was. -/
theorem appendPending (h : x.Kept) {n : Nat} (h1 : 1 ≤ n) (hmax : n ≤ maxEvent) (hroom : x.pendingTakes.length < 4)
    (hbelow : ∀ p ∈ x.pendingTakes, p.number < n) (hevn : x.exhausted = true ∨ n < x.evn) (t : Time) :
    ({ x with pendingTakes := x.pendingTakes ++ [{ number := n, edgeTime := t }] } : Agreement).Kept := by
  refine { h with queued := ?_, pending := ?_, numbers := ?_ }
  · simpa using hroom
  · simp only [List.map_append, List.map_cons, List.map_nil]
    refine List.pairwise_append.mpr ⟨h.pending, List.pairwise_singleton _ _, fun a ha b hb => ?_⟩
    obtain ⟨p, hp, rfl⟩ := List.mem_map.mp ha
    rw [List.mem_singleton.mp hb]
    exact hbelow p hp
  · intro p hp
    rcases List.mem_append.mp hp with hp | hp
    · exact h.numbers p hp
    · rw [List.mem_singleton.mp hp]
      exact ⟨h1, hmax, hevn⟩

end Agreement.Kept

/-! ## Renumbering (R35) -/

theorem shiftNumber_eq_some {oldest n k j : Nat} :
    shiftNumber oldest n k = some j ↔ k + n - oldest ≤ maxEvent ∧ j = k + n - oldest := by
  unfold shiftNumber
  split
  · next h => simp [h, eq_comm]
  · next h => simp [h]

theorem shiftNumber_eq_none {oldest n k : Nat} : shiftNumber oldest n k = none ↔ maxEvent < k + n - oldest := by
  unfold shiftNumber
  split <;> simp <;> omega

/-- R35: an entry after the shift is one before it, moved by the difference. -/
theorem mem_shiftPending {oldest n : Nat} {l : List PendingTake} {p : PendingTake} : p ∈ shiftPending oldest n l ↔
    ∃ q ∈ l, q.number + n - oldest ≤ maxEvent ∧ p = { q with number := q.number + n - oldest } := by
  simp only [shiftPending, List.mem_filterMap, Option.map_eq_some_iff, shiftNumber_eq_some]
  constructor
  · rintro ⟨q, hq, k, ⟨hk, rfl⟩, rfl⟩
    exact ⟨q, hq, hk, rfl⟩
  · rintro ⟨q, hq, hk, rfl⟩
    exact ⟨q, hq, _, ⟨hk, rfl⟩, rfl⟩

/-- R35: a shift of numbers not below the oldest keeps their order. -/
theorem shiftPending_ascending {oldest n : Nat} {l : List PendingTake} (h : ascending (l.map (·.number)))
    (ho : ∀ p ∈ l, oldest ≤ p.number) : ascending ((shiftPending oldest n l).map (·.number)) := by
  induction l with
  | nil => exact List.Pairwise.nil
  | cons q l ih =>
    obtain ⟨hq, hl⟩ := List.pairwise_cons.mp h
    have ih := ih hl fun p hp => ho p (List.mem_cons_of_mem _ hp)
    have hoq := ho q List.mem_cons_self
    rw [shiftPending, List.filterMap_cons]
    cases hs : (shiftNumber oldest n q.number).map fun k => ({ q with number := k } : PendingTake) with
    | none => exact ih
    | some p =>
      obtain ⟨k, hk, rfl⟩ := Option.map_eq_some_iff.mp hs
      obtain ⟨-, rfl⟩ := shiftNumber_eq_some.mp hk
      refine List.pairwise_cons.mpr ⟨fun a ha => ?_, ih⟩
      obtain ⟨p, hp, rfl⟩ := List.mem_map.mp ha
      obtain ⟨r, hr, -, rfl⟩ := mem_shiftPending.mp hp
      have hlt : q.number < r.number := hq _ (List.mem_map_of_mem hr)
      show q.number + n - oldest < r.number + n - oldest
      omega

/-- The oldest pending number is the lowest. -/
theorem Agreement.Kept.oldest_le {x : Agreement} (h : x.Kept) {p : PendingTake} {l : List PendingTake}
    (hl : x.pendingTakes = p :: l) : ∀ q ∈ x.pendingTakes, p.number ≤ q.number := by
  intro q hq
  have hpending := h.pending
  rw [hl] at hq hpending
  obtain ⟨hp, -⟩ := List.pairwise_cons.mp hpending
  rcases List.mem_cons.mp hq with rfl | hq
  · exact le_refl _
  · exact (hp _ (List.mem_map_of_mem hq)).le

/-- R35: the pending entries after a renumbering, under the EVN that the shift gives or in an exhausted run. -/
theorem Agreement.Kept.shift {x : Agreement} (h : x.Kept) {p : PendingTake} {l : List PendingTake}
    (hl : x.pendingTakes = p :: l) {n : Nat} (hn : 1 ≤ n) {v : Nat} {b : Bool}
    (hv : b = true ∧ v = 0 ∨ b = false ∧ x.exhausted = false ∧ v = x.evn + n - p.number ∧ v ≤ maxEvent) :
    ({ x with pendingTakes := shiftPending p.number n x.pendingTakes, evn := v, exhausted := b } : Agreement).Kept := by
  have ho := h.oldest_le hl
  refine { h with queued := ?_, pending := shiftPending_ascending h.pending ho, numbers := ?_, evn := ?_, exhausted := ?_ }
  · exact (List.length_filterMap_le _ _).trans h.queued
  · intro q hq
    obtain ⟨r, hr, hmax, rfl⟩ := mem_shiftPending.mp hq
    have hor := ho r hr
    refine ⟨show 1 ≤ r.number + n - p.number by omega, hmax, ?_⟩
    rcases hv with ⟨hb, -⟩ | ⟨-, he, rfl, -⟩
    · exact .inl hb
    · have hlt := (h.numbers r hr).2.2.resolve_left (by simp [he])
      exact .inr (show r.number + n - p.number < x.evn + n - p.number by omega)
  · rcases hv with ⟨-, rfl⟩ | ⟨-, -, -, hmax⟩
    · exact Nat.zero_le _
    · exact hmax
  · intro hb
    rcases hv with ⟨-, rfl⟩ | ⟨hn, -⟩
    · rfl
    · exact absurd (hb.symm.trans hn) (by simp)

/-! ## The station's numbering -/

/-- R28: the station numbers on. -/
abbrev State.numbers (s : State) : Prop :=
  s.isAcquirer = true ∧ (s.start.station = .running ∨ s.start.station = .silenced) ∧ s.trig.restarting = false

/-- The laws of the agreement unit. -/
structure State.AgreeKept (s : State) : Prop where
  agree : s.agree.Kept
  evn : s.numbers → s.agree.exhausted = false → 1 ≤ s.agree.evn

theorem State.agreeInv_iff {s : State} : s.AgreeInv ↔ s.AgreeKept := by
  constructor
  · rintro ⟨⟨h1, h2, h3, h4, h5⟩, h6, h7, h8, h9, h10, h11⟩
    exact ⟨⟨h1, h2, h3, h4, h5, h6, h7, h8, h9, h10⟩, fun ⟨ha, hs, hr⟩ he => h11 ⟨ha, hs, he, hr⟩⟩
  · rintro ⟨h, hn⟩
    exact ⟨⟨h.length, h.listed, h.entries, h.high, h.full⟩, h.queued, h.pending, h.numbers, h.evn, h.exhausted,
      fun ⟨ha, hs, he, hr⟩ => hn ⟨ha, hs, hr⟩ he⟩

/-- R183: the station as the epoch leaves it, before the settling. -/
def State.started (s : State) : State :=
  { s with
    start := { s.start with station := .running, rollTimer := none, rollCallReason := false, rollMet := false }
    time := { counter := 0, state := .set }
    agree := { Agreement.blank with evn := if s.isAcquirer then 1 else 0 }
    roster := s.roster.each RosterEntry.atEpoch, turn := Turn.blank, build := BuildUnit.empty }

theorem State.epoch_eq (s : State) : s.epoch = s.started.settle [] := rfl

/-! ## Receptions of a coherent state -/

/-- The clash check alone while restarting, else the owners in the state that the frame leads to, and the settling. -/
theorem State.Fits.handleFrame_cases {P : State → Prop} {s : State} (h : s.Fits) (hrst : s.pins.rst = false)
    (hu : s.unloaded = false) (own : Bool) (f : Frame) (checked : P (s.clashCheck own f))
    (owners : s.trig.restarting = false → ∀ t, t = (s.clashCheck own f).leaveListening f → t.Fits →
      (t.start.station = .rollcall ∨ t.tracks = true) → P ((t.giveOwners own f).settle s.order)) :
    P (s.handleFrame own f) := by
  refine State.handleFrame_cases own f s checked fun hr => ?_
  obtain ⟨hleft, hstation⟩ := (h.clashCheck hrst own f).leaveListening (by simpa using hrst)
    (State.unloaded_clashCheck own f hu) ((State.restarting_clashCheck own f s).trans hr) f
  exact owners hr _ rfl hleft hstation

/-- The frame's end on the wire, and then its owners. -/
theorem State.Fits.received_cases {P : State → Prop} {s : State} (h : s.Fits) (ht : s.takesFrame = true) (f : Frame)
    (own : s.isOwn f = true → s.endOwn.Fits → s.endOwn.pins.rst = false → s.endOwn.unloaded = false →
      P (s.endOwn.handleFrame true f))
    (other : s.isOwn f = false → s.endOther.Fits → s.endOther.pins.rst = false → s.endOther.unloaded = false →
      P (s.endOther.handleFrame false f)) : P (s.received f) := by
  have hrst : s.pins.rst = false := ((s.takesFrame_iff).mp ht).1
  have hu : s.unloaded = false := State.loaded_of_takesFrame h ht
  exact State.received_cases f s (fun ho => own ho (h.endOwn hu) hrst hu)
    fun ho => other ho (h.endOther hu) (by simpa using hrst) (by simpa [State.unloaded] using hu)

namespace State.AgreeKept

variable {s t : State}

/-- An operation that leaves the agreement unit, role, state and restart. -/
theorem congr (h : s.AgreeKept) (ha : t.agree = s.agree) (hp : t.pins = s.pins)
    (hs : t.start.station = s.start.station) (hr : t.trig.restarting = s.trig.restarting) : t.AgreeKept :=
  ⟨ha ▸ h.agree, by rw [State.numbers, State.isAcquirer, hp, hs, hr, ha]; exact h.evn⟩

/-- A station that does not number, over a unit that keeps its laws. -/
theorem quiet (ha : t.agree.Kept) (hn : ¬ t.numbers) : t.AgreeKept := ⟨ha, fun h => absurd h hn⟩

theorem setAgree (h : s.AgreeKept) {x : Agreement} (hx : x.Kept)
    (he : x.exhausted = s.agree.exhausted ∧ x.evn = s.agree.evn ∨ x.exhausted = true ∨ 1 ≤ x.evn) :
    (s.setAgree x).AgreeKept := by
  refine ⟨hx, fun hn hq => ?_⟩
  rcases he with ⟨he, hv⟩ | he | hv
  · exact hv ▸ h.evn hn (he ▸ hq)
  · exact absurd hq (by simp [he])
  · exact hv

/-! ## Removals and TAKE frames -/

theorem bump (h : s.AgreeKept) (c : Counter) : (s.bump c).AgreeKept := h.congr (by simp) (by simp) (by simp) (by simp)

theorem raise (h : s.AgreeKept) (c : FaultCode) (x : Nat) : (s.raise c x).AgreeKept :=
  h.congr (by simp) (by simp) (by simp) (by simp)

theorem removeDrained (h : s.AgreeKept) : s.removeDrained.AgreeKept :=
  h.setAgree (h.agree.filterList _) (.inl ⟨rfl, rfl⟩)

theorem reassess (h : s.AgreeKept) : s.reassess.AgreeKept :=
  h.removeDrained.congr (by simp [State.reassess]) (by simp) (by simp) (by simp)

theorem settle (h : s.AgreeKept) (l : List Addr) : (s.settle l).AgreeKept :=
  h.reassess.congr (by rw [State.settle_agree, State.reassess_agree]) (by simp) (by simp) (by simp)

theorem refuseTake (h : s.AgreeKept) (hf : 64 ≤ s.agree.takeList.length) (n : Nat) : (s.refuseTake n).AgreeKept := by
  unfold State.refuseTake
  split
  · exact h
  · exact (h.setAgree (h.agree.refuse hf) (.inl ⟨rfl, rfl⟩)).raise _ _

theorem becomeExhausted (h : s.AgreeKept) (n : Nat) : (s.becomeExhausted n).AgreeKept :=
  (h.setAgree h.agree.exhaust (.inr (.inl rfl))).raise _ _

theorem fillTake (h : s.AgreeKept) (n : Nat) (x : Time) : (s.fillTake n x).AgreeKept := by
  unfold State.fillTake
  split
  · refine (h.setAgree (h.agree.mapList fun e => ?_) (.inl ⟨rfl, rfl⟩)).congr rfl rfl rfl rfl
    split <;> rfl
  · exact h

theorem catchUp (h : s.AgreeKept) {n : Nat} (hmax : n ≤ maxEvent) : (s.catchUp n).AgreeKept := by
  unfold State.catchUp
  split
  · exact h
  · next hn =>
    simp only [Bool.or_eq_true, decide_eq_true_eq, not_or, Bool.not_eq_true, not_lt] at hn
    split
    · exact (h.bump _).becomeExhausted _
    · refine (h.bump .missedEdges).setAgree (x := { s.agree with evn := n + 1 })
        (h.agree.raiseEvn hn.1 (by omega) (by omega)) (.inr (.inr (by simp)))

theorem takePair (h : s.AgreeKept) (n : Nat) (t e : Time) : (s.takePair n t e).AgreeKept :=
  h.congr (by simp) (by simp) (by simp) (by simp)

theorem answer (h : s.AgreeKept) (n : Nat) (x : Time) : (s.answer n x).AgreeKept := by
  unfold State.answer
  split
  · exact h
  · next p rest hp =>
    have hrest : rest.Sublist s.agree.pendingTakes := hp ▸ List.sublist_cons_self _ _
    have hleft := h.setAgree (h.agree.sublistPending hrest) (.inl ⟨rfl, rfl⟩)
    refine State.AgreeKept.takePair ?_ n x p.edgeTime
    exact hleft.congr rfl rfl rfl rfl

theorem renumber (h : s.AgreeKept) {p : PendingTake} {l : List PendingTake} (hl : s.agree.pendingTakes = p :: l)
    {n : Nat} (hn : 1 ≤ n) : (s.renumber p.number n).AgreeKept := by
  have hshift {v : Nat} {b : Bool} (hv : b = true ∧ v = 0 ∨ b = false ∧ s.agree.exhausted = false
      ∧ v = s.agree.evn + n - p.number ∧ v ≤ maxEvent) := h.agree.shift hl hn hv
  have hevn (he : s.agree.exhausted = false) : p.number < s.agree.evn :=
    (h.agree.numbers p (hl ▸ List.mem_cons_self)).2.2.resolve_left (by simp [he])
  suffices hr : ∀ t : State, t.agree = { s.agree with pendingTakes := shiftPending p.number n s.agree.pendingTakes } →
      t.pins = s.pins → t.start = s.start → t.trig = s.trig →
      (t.shiftEvn p.number n s.agree.pendingTakes).AgreeKept by
    refine bump (s := State.shiftEvn p.number n s.agree.pendingTakes _) (hr _ ?_ ?_ ?_ ?_) .numberSlips <;> rfl
  intro t ht hp hs hr
  have hexhausted (x : Nat) : (t.becomeExhausted x).AgreeKept := by
    refine raise ⟨?_, fun _ hq => absurd hq (by simp)⟩ _ _
    simp only [State.setAgree_agree, ht]
    exact hshift (.inl ⟨rfl, rfl⟩)
  unfold State.shiftEvn
  split
  · exact hexhausted _
  · split
    · next he =>
      rw [ht] at he
      refine ⟨?_, fun _ hq => absurd hq (by simp [ht, he])⟩
      have hzero := hshift (.inl ⟨he, h.agree.exhausted he⟩)
      simpa [ht] using hzero
    · next he =>
      have he : s.agree.exhausted = false := by simpa [ht] using he
      split
      · exact hexhausted _
      · next hv =>
        have hv : s.agree.evn + n - p.number ≤ maxEvent := by simpa [ht] using hv
        have := hevn he
        refine ⟨?_, fun _ _ => ?_⟩
        · simp only [State.setAgree_agree, ht]
          exact hshift (.inr ⟨he, he, rfl, hv⟩)
        · simp only [State.setAgree_agree, ht]
          omega

theorem matchTake (h : s.AgreeKept) {n : Nat} (h1 : 1 ≤ n) (hmax : n ≤ maxEvent) (x : Time) :
    (s.matchTake n x).AgreeKept := by
  unfold State.matchTake
  split
  · exact h
  · split
    · exact h.catchUp hmax
    · next p l hl =>
      split
      · exact h.answer n x
      · exact (h.renumber hl h1).answer n x

theorem appendTake (h : s.AgreeKept) {n : Nat} (hn : s.agree.highTake < n) (hmax : n ≤ maxEvent)
    (hroom : s.agree.takeList.length < 64) (x : Time) : (s.appendTake n x).AgreeKept :=
  (h.setAgree (h.agree.append hn hmax hroom (some x)) (.inl ⟨rfl, rfl⟩)).congr rfl rfl rfl rfl

theorem handleTake (h : s.AgreeKept) {n : Nat} (h1 : 1 ≤ n) (hmax : n ≤ maxEvent) (x : Time) :
    (s.handleTake n x).AgreeKept := by
  unfold State.handleTake
  split
  · exact h.fillTake n x
  · split
    · exact h.bump _
    · next hn =>
      split
      · next hf => exact (h.refuseTake hf n).matchTake h1 hmax x
      · next hf => exact (h.appendTake (not_le.mp hn) hmax (not_le.mp hf) x).matchTake h1 hmax x

/-! ## What a FRAG part, a SKIP or a ROLL frame shows -/

theorem raiseHighTake (h : s.AgreeKept) {n : Nat} (hmax : n ≤ maxEvent) : (s.raiseHighTake n).AgreeKept := by
  unfold State.raiseHighTake
  split
  · exact h.setAgree (h.agree.raiseHigh hmax) (.inl ⟨rfl, rfl⟩)
  · exact h

theorem impliedTake (h : s.AgreeKept) {n : Nat} (hmax : n ≤ maxEvent) : (s.impliedTake n).AgreeKept := by
  unfold State.impliedTake
  split
  · exact h
  · split
    · exact h
    · next hnew =>
      simp only [Bool.or_eq_true, decide_eq_true_eq, not_or, Bool.not_eq_true, not_le, State.listed,
        List.any_eq_false] at hnew
      split
      · next hf => exact h.refuseTake hf n
      · next hf =>
        split
        · exact h
        · exact h.setAgree (h.agree.insert (by omega) hmax hnew.1 (not_le.mp hf) none) (.inl ⟨rfl, rfl⟩)

theorem hearEvent (h : s.AgreeKept) {n : Nat} (hmax : n ≤ maxEvent) : (s.hearEvent n).AgreeKept :=
  (h.raiseHighTake (by omega)).impliedTake hmax

theorem hearMember (h : s.AgreeKept) (m : Addr) (n : Nat) : (s.hearMember m n).AgreeKept :=
  reassess (h.congr (by simp) (by simp) (by simp) (by simp))

theorem currentPart (h : s.AgreeKept) (f : FragFrame) : (s.currentPart f).AgreeKept := by
  have hpassed : (s.passImplied f.sender f.number.toNat).AgreeKept := h.congr (by simp) (by simp) (by simp) (by simp)
  unfold State.currentPart
  dsimp only
  split
  · exact reassess (hpassed.congr (by simp) (by simp) (by simp) (by simp))
  · exact hpassed.reassess.congr (by simp) (by simp) (by simp) (by simp)

theorem handleFrag (h : s.AgreeKept) (own : Bool) (f : FragFrame) : (s.handleFrag own f).AgreeKept := by
  have hheard : (State.hearMember f.sender f.number.toNat (s.hearEvent f.number.toNat)).AgreeKept :=
    (h.hearEvent (by unfold maxEvent; omega)).hearMember _ _
  have hstored {t : State} (ht : t.AgreeKept) : (if own then t.storePart f else t).AgreeKept := by
    split
    · exact ht.congr (by simp) (by simp) (by simp) (by simp)
    · exact ht
  have hbuilt {t : State} {stamp : Option Time} (b : Bool) (ht : t.AgreeKept) :
      (if b then t.buildFrame f.number.toNat stamp (State.applyPart f) else t).AgreeKept := by
    split
    · exact ht.congr (by simp) (by simp) (by simp) (by simp)
    · exact ht
  unfold State.handleFrag
  dsimp only
  split
  · exact h
  · refine hbuilt _ (hstored ?_)
    split
    · exact hheard
    · split
      · exact hheard.bump _
      · exact hheard.currentPart f

theorem enterSilenced (h : s.AgreeKept) (hs : s.start.station = .running) : s.enterSilenced.AgreeKept := by
  refine ⟨by simpa using h.agree, fun hn he => ?_⟩
  obtain ⟨ha, -, hr⟩ := hn
  simp only [State.isAcquirer, State.enterSilenced_frame] at ha hr he ⊢
  exact h.evn ⟨ha, .inl hs, hr⟩ he

theorem offerRoll (h : s.AgreeKept) (m : RollMode) : (s.offerRoll m).AgreeKept :=
  h.congr (by simp) (by simp) (by simp) (by simp)

theorem ownSilence (h : s.AgreeKept) (n : Nat) : (s.ownSilence n).AgreeKept := by
  have hraised : (s.raise .silenced n).AgreeKept := h.raise _ _
  unfold State.ownSilence
  dsimp only
  refine offerRoll ?_ _
  split
  · next hs =>
    simp only [Bool.and_eq_true, decide_eq_true_eq] at hs
    exact hraised.enterSilenced hs.2
  · exact hraised

theorem skipTurn (h : s.AgreeKept) (m : Addr) (n : Nat) : (s.skipTurn m n).AgreeKept := by
  have hmissed : ((s.missTurn m n).withdrawSkipFor m).AgreeKept := h.congr (by simp) (by simp) (by simp) (by simp)
  unfold State.skipTurn
  dsimp only
  split
  · have hdropped : (((s.missTurn m n).withdrawSkipFor m).dropRecord n).AgreeKept :=
      hmissed.congr (by simp) (by simp) (by simp) (by simp)
    split
    · exact hdropped.ownSilence n
    · exact hdropped
  · exact hmissed

theorem handleSkip (h : s.AgreeKept) (own : Bool) (f : SkipFrame) : (s.handleSkip own f).AgreeKept := by
  have hheard : (s.skipHeard own f).AgreeKept := by
    have hmember : (State.hearMember f.subject f.number.toNat (s.hearEvent f.number.toNat)).AgreeKept :=
      (h.hearEvent (by unfold maxEvent; omega)).hearMember _ _
    unfold State.skipHeard
    split
    · exact hmember.congr (by simp) (by simp) (by simp) (by simp)
    · exact hmember
  cases ht : s.tracks
  · simpa [State.handleSkip, ht] using h
  · rw [State.handleSkip_of_tracks own f ht]
    split
    · have hskipped := (hheard.skipTurn f.subject f.number.toNat).reassess
      exact hskipped.congr (by simp) (by simp) (by simp) (by simp)
    · exact hheard

/-! ## ROLL frames and the changes of the station's state -/

theorem hearRoll (h : s.AgreeKept) (a : Addr) (g : RosterEntry → RosterEntry) : (s.hearRoll a g).AgreeKept :=
  h.congr (by simp) (by simp) (by simp) (by simp)

theorem mismatch (h : s.AgreeKept) (f : RollFrame) : (s.mismatch f).AgreeKept :=
  h.congr (by simp) (by simp) (by simp) (by simp)

theorem otherRoll (h : s.AgreeKept) (f : RollFrame) : (s.otherRoll f).AgreeKept := by
  have hraised := h.raiseHighTake (RosterEntry.Kept.joinMark_le f.field)
  unfold State.otherRoll
  split
  · exact (h.mismatch f).congr (by dsimp only; split <;> simp) (by dsimp only; split <;> simp)
      (by dsimp only; split <;> simp) (by dsimp only; split <;> simp)
  · split
    · exact (h.hearRoll f.sender (RosterEntry.called f)).congr (by simp) (by simp) (by simp) (by simp)
    · exact hraised.hearRoll _ _
    · exact (hraised.hearRoll f.sender (RosterEntry.echoed f)).congr (by simp) (by simp) (by simp) (by simp)

/-- R28, R78: after the own JOIN the station numbers from the join point, or its run is exhausted. -/
theorem joinEvn (h : s.agree.Kept) (x : BitVec 32) : (s.joinEvn x).AgreeKept := by
  have hx : x.toNat ≤ maxEvent := by unfold maxEvent; omega
  unfold State.joinEvn
  split
  · next hn =>
    refine ⟨h, fun hq he => absurd hn ?_⟩
    simp [hq.1, he]
  · next hn =>
    simp only [Bool.or_eq_true, Bool.not_eq_true', not_or, Bool.not_eq_true] at hn
    split
    · exact raise ⟨h.exhaust, fun _ he => absurd he (by simp)⟩ _ _
    · next h0 =>
      have h0 : x.toNat ≠ 0 := fun hz => h0 (BitVec.eq_of_toNat_eq (by simpa using hz))
      refine ⟨h.raiseEvn hn.2 (le_max_left _ _) (Nat.max_le.mpr ⟨h.evn, hx⟩), fun _ _ => ?_⟩
      exact (Nat.one_le_iff_ne_zero.mpr h0).trans (le_max_right _ _)

theorem ownRoll (h : s.AgreeKept) (f : RollFrame) : (s.ownRoll f).AgreeKept := by
  unfold State.ownRoll
  split
  · exact h
  · unfold State.ownJoin
    dsimp only
    split
    · exact joinEvn (by simpa using h.agree) _
    · exact h.congr (by simp) (by simp) (by simp) (by simp)
  · exact h.congr (by simp) (by simp) (by simp) (by simp)

/-- R185: a station that enters JOINING, or RUNNING through it with `muteAttr`, does not number. -/
theorem enterJoining (hm : s.isAcquirer = true → s.start.muteAttr = false) : s.enterJoining.AgreeKept := by
  refine quiet (by simpa [State.enterJoining] using Agreement.Kept.blank) fun ⟨ha, hs, _⟩ => ?_
  have ha : s.isAcquirer = true := by simpa [State.isAcquirer] using ha
  simp [State.enterJoining, hm ha] at hs

theorem rollcallRoll (h : s.AgreeKept) (hm : s.isAcquirer = true → s.start.muteAttr = false) (own : Bool)
    (f : RollFrame) : (s.rollcallRoll own f).AgreeKept :=
  State.rollcallRoll_cases (P := State.AgreeKept) own f s (stays := h)
    (called := fun _ _ => h.congr rfl rfl rfl rfl) (marked := fun _ => h.mismatch f)
    (present := fun _ _ => h.hearRoll _ _)
    (joins := fun _ _ => State.AgreeKept.enterJoining (by simpa [State.isAcquirer] using hm))
    (echoed := fun _ _ => (State.AgreeKept.enterJoining hm).otherRoll f)

theorem enterRollcall (s : State) : s.enterRollcall.AgreeKept :=
  quiet (by simpa [State.enterRollcall] using Agreement.Kept.blank) fun hn => by
    have hs := hn.2.1
    simp [State.enterRollcall] at hs

/-- R86, R142: MUTE keeps no pending entry, and a collector does not number. -/
theorem giveUpSending (h : s.AgreeKept) : s.giveUpSending.AgreeKept := by
  unfold State.giveUpSending
  split
  · refine quiet (by simpa [State.enterMute] using h.agree.sublistPending (List.nil_sublist _)) fun ⟨_, hs, _⟩ => ?_
    simp [State.enterMute] at hs
  · next hc =>
    refine quiet (by simpa using h.agree) fun ⟨ha, _, _⟩ => hc ?_
    simpa [State.isAcquirer] using ha

/-! ## Receptions -/

theorem giveOwners (h : s.AgreeKept) (hm : s.isAcquirer = true → s.start.muteAttr = false) (own : Bool) (f : Frame)
    (hv : frameValid f = true) : (s.giveOwners own f).AgreeKept := by
  unfold State.giveOwners
  split
  · next x =>
    have h1 : x.number.toNat ≠ 0 := fun h0 => by
      simp [frameValid, BitVec.eq_of_toNat_eq (x := x.number) (y := 0) (by simpa using h0)] at hv
    split
    · exact h.handleTake (Nat.one_le_iff_ne_zero.mpr h1) (by unfold maxEvent; omega) _
    · exact h
  · exact h.handleFrag own _
  · exact h.handleSkip own _
  · unfold State.handleRoll
    split
    · exact h.rollcallRoll hm own _
    · split
      · exact h
      · split
        · exact h.ownRoll _
        · exact h.otherRoll _

theorem clashCheck (h : s.AgreeKept) (own : Bool) (f : Frame) : (s.clashCheck own f).AgreeKept :=
  State.clashCheck_cases (P := State.AgreeKept) own f h fun _ _ _ => (h.raise _ _).giveUpSending

theorem leaveListening (h : s.AgreeKept) (hm : s.isAcquirer = true → s.start.muteAttr = false) (f : Frame) :
    (s.leaveListening f).AgreeKept := by
  unfold State.leaveListening
  split
  · split
    · split
      · exact enterRollcall s
      · exact enterJoining hm
    all_goals exact enterJoining hm
  · exact h

theorem handleFrame (h : s.AgreeKept) (hfits : s.Fits) (hrst : s.pins.rst = false) (hu : s.unloaded = false)
    (own : Bool) (f : Frame) (hv : frameValid f = true) : (s.handleFrame own f).AgreeKept := by
  have hchecked := hfits.clashCheck hrst own f
  refine hfits.handleFrame_cases hrst hu own f (h.clashCheck own f) fun _ t ht htfits _ => settle (giveOwners ?_ ?_ own f hv) _
  · exact ht ▸ (h.clashCheck own f).leaveListening (fun ha => hchecked.muteAttr (.inr ha)) f
  · exact fun ha => htfits.muteAttr (.inr ha)

theorem received (h : s.AgreeKept) (hfits : s.Fits) (ht : s.takesFrame = true) (f : Frame) (hv : frameValid f = true) :
    (s.received f).AgreeKept :=
  hfits.received_cases ht f
    (own := fun _ he hrst hu => (h.congr (by simp) (by simp) (by simp) (by simp)).handleFrame he hrst hu true f hv)
    (other := fun _ he hrst hu => (h.congr (by simp) (by simp) (by simp) (by simp)).handleFrame he hrst hu false f hv)

/-! ## The other events -/

theorem acceptEdge (h : s.AgreeKept) (hn : s.numbers) (he : s.agree.exhausted = false)
    (hroom : s.agree.pendingTakes.length < 4) : s.acceptEdge.AgreeKept := by
  have h1 := h.evn hn he
  have hbelow (p : PendingTake) (hp : p ∈ s.agree.pendingTakes) : p.number < s.agree.evn :=
    (h.agree.numbers p hp).2.2.resolve_left (by simp [he])
  have happended {t : State} (ht : t.AgreeKept) (hp : t.agree.pendingTakes = s.agree.pendingTakes)
      (hv : t.agree.exhausted = true ∨ s.agree.evn < t.agree.evn) :
      (t.appendPending s.agree.evn s.time.counter).AgreeKept :=
    ht.setAgree (ht.agree.appendPending h1 h.agree.evn (hp ▸ hroom) (hp ▸ hbelow) hv _) (.inl ⟨rfl, rfl⟩)
  have hcounted : s.countEdge.AgreeKept ∧ s.countEdge.agree.pendingTakes = s.agree.pendingTakes
      ∧ (s.countEdge.agree.exhausted = true ∨ s.agree.evn < s.countEdge.agree.evn) := by
    unfold State.countEdge
    split
    · exact ⟨h.becomeExhausted _, by simp [State.becomeExhausted], .inl (by simp [State.becomeExhausted])⟩
    · next hmax =>
      have hlt : s.agree.evn + 1 ≤ maxEvent := by have := h.agree.evn; omega
      exact ⟨h.setAgree (h.agree.raiseEvn he (by omega) hlt) (.inr (.inr (by simp))), rfl, .inr (by simp)⟩
  obtain ⟨hc, hp, hv⟩ := hcounted
  have hstored := hc.congr (t := s.countEdge.storeEdge s.agree.evn s.time.counter) (by simp) (by simp) (by simp) (by simp)
  exact (happended hstored (by simpa using hp) (by simpa using hv)).congr (by simp [State.acceptEdge])
    (by simp [State.acceptEdge]) (by simp [State.acceptEdge]) (by simp [State.acceptEdge])

theorem takeEdge (h : s.AgreeKept) (hr : s.trig.restarting = false) (b : Bool) : (s.takeEdge b).AgreeKept := by
  have hrise : (s.setTrig { s.trig with level := true, detector := some Config.detectorTicks }).AgreeKept :=
    h.congr rfl rfl rfl rfl
  unfold State.takeEdge State.decideEdge
  split
  · next hs =>
    simp only [Bool.and_eq_true, decide_eq_true_eq] at hs
    split
    · next ha =>
      simp only [State.accepts, Bool.and_eq_true, Bool.not_eq_true'] at ha
      exact hrise.acceptEdge ⟨hs.1, .inl hs.2, hr⟩ ha.1.2 (of_decide_eq_true ha.2)
    · exact hrise.bump _
  · exact hrise

theorem epoch (s : State) : s.epoch.AgreeKept := by
  rw [State.epoch_eq]
  refine settle ⟨?_, fun hn _ => ?_⟩ []
  · constructor <;> simp [State.started, Agreement.blank, ascending, maxEvent]
    split <;> omega
  · have ha : s.isAcquirer = true := hn.1
    simp [State.started, ha]

theorem releaseTrg (h : s.AgreeKept) : s.releaseTrg.AgreeKept := by
  unfold State.releaseTrg
  dsimp only
  split
  · unfold State.endRestart
    split
    case h_6 hs | h_7 hs | h_8 hs =>
      refine quiet h.agree fun hn => ?_
      have hstation : s.start.station = _ := hs
      have hrun : s.start.station = .running ∨ s.start.station = .silenced := hn.2.1
      simp [hstation] at hrun
    all_goals exact enterRollcall _
  · next hr => exact h.congr rfl rfl rfl (by simpa using hr)

theorem completeRead (h : s.AgreeKept) (hl : s.start.station = .loading) (img : List Byte) (trg : Bool) :
    (s.completeRead img trg).AgreeKept := by
  refine quiet (by simpa using h.agree) fun hn => ?_
  have hs := hn.2.1
  revert hs
  unfold State.completeRead
  dsimp only
  split
  · split
    · rw [State.loadGood_start]
      split <;> simp
    · simp [State.halt]
  · split
    · simp [hl]
    · simp [State.halt]

/-- The laws of the agreement unit outlive every command. -/
theorem after (h : s.AgreeKept) (hfits : s.Fits) (c : Instr) : (s.after c).AgreeKept := by
  have kept {t : State} (ha : t.agree = s.agree) (hp : t.pins = s.pins) (hs : t.start.station = s.start.station)
      (hr : t.trig.restarting = s.trig.restarting) : t.AgreeKept := h.congr ha hp hs hr
  refine State.after_cases c s (idle := h)
    (reset := fun _ => quiet Agreement.Kept.blank fun hn => by simpa [State.reset] using hn.2.1)
    (release := fun _ _ _ _ => quiet h.agree fun hn => by simpa using hn.2.1)
    (read := fun _ img trg _ hp => h.completeRead (by_contra fun hl => hp (hfits.imagePort hl)) img trg)
    (sample := fun _ _ _ _ => kept (by simp) (by simp) (by simp) (by simp))
    (window := fun _ _ => kept (by simp) (by simp) (by simp) (by simp))
    (edge := fun _ b _ _ hl => h.takeEdge ?_ b)
    (request := fun _ _ _ _ _ => kept (by simp) (by simp) (by simp) ?_)
    (normalPulse := fun _ _ => kept rfl rfl rfl rfl) (restartPulse := fun _ _ => kept rfl rfl rfl rfl)
    (restart := fun _ => kept (by simp) (by simp) (by simp) ?_)
    (detection := fun _ _ _ => quiet (by simpa [State.detectRestart] using Agreement.Kept.blank) fun hn => by
      have hr := hn.2.2
      simp [State.detectRestart] at hr)
    (trgRelease := fun _ _ _ _ => h.releaseTrg)
    (listen := fun _ _ _ _ => enterRollcall s) (roll := fun _ b _ hs _ => ?_) (hldFall := fun _ _ _ _ => epoch s)
    (turn := fun _ _ => kept (by simp) (by simp) (by simp) (by simp))
    (close := fun _ _ _ => kept (by simp) (by simp) (by simp) (by simp))
    (datIdle := fun _ _ => kept (by simp) (by simp) (by simp) (by simp))
    (contention := fun _ _ => kept (by simp) (by simp) (by simp) (by simp))
    (lost := fun _ _ _ => kept (by simp) (by simp) (by simp) (by simp)) (abandoned := fun _ _ f _ => ?_)
    (discard := fun _ _ _ => kept (by simp) (by simp) (by simp) (by simp))
    (received := fun _ ht f _ hv => h.received hfits ht f hv)
    (taking := fun _ _ _ => kept (by simp) (by simp) (by simp) (by simp)) (read_window := fun _ _ _ _ => kept rfl rfl rfl rfl)
    (clear := fun _ _ => kept rfl rfl rfl rfl) (ack := fun _ _ => kept rfl rfl rfl rfl) (write := fun _ => kept rfl rfl rfl rfl)
    (tick := fun _ _ => kept rfl rfl rfl rfl)
  · rw [← Bool.not_eq_true]
    exact fun hr => by simp [hfits.restarting hr] at hl
  · unfold State.requestTrigger
    (repeat' split) <;> simp
  · unfold State.restartTrunk
    (repeat' split) <;> simp
  · unfold State.meetRoll
    split
    · exact h.congr rfl rfl rfl rfl
    · exact epoch s
  · have hleft : (State.bump .txRetries (s.leaveWire.setFrames { s.leaveWire.frames with
        failures := min Config.failureLimit (s.frames.failures + 1), dat := .abandoned })).AgreeKept :=
      h.congr (by simp) (by simp) (by simp) (by simp)
    unfold State.abandon
    dsimp only
    split
    · exact (hleft.raise _ _).giveUpSending.settle _
    · exact hleft

end State.AgreeKept

/-- Settles O56: each change of the agreement unit keeps its laws, and a station begins to number with EVN at 1 or more. -/
theorem stepKeepsAgreement : Obligations.StepKeepsAgreement := by
  intro s t hs ha ht
  rcases step_cases ht with rfl | ⟨c, rest, -, rfl⟩
  · exact ha
  · have hfits : State.Fits { s with pending := rest } := State.Coherent.fits hs
    have hkept : State.AgreeKept { s with pending := rest } := State.agreeInv_iff.mp ha
    exact State.agreeInv_iff.mpr (hkept.after hfits c)

end Sys2Proof.Machine
end

section
/-! The laws of the build table and the delivery port (R91, R93, R95, R109, R115, R118): what each change keeps, and so
every step. -/

namespace Sys2Proof.Machine

/-! ## One build -/

/-- R91, R92: an OPEN build has a timer and no cause, any other a cause, no timer and no WAITING contribution. -/
structure Build.Kept (b : Build) : Prop where
  cause : b.state = .opened ↔ b.cause = none
  timer : b.state = .opened ↔ b.timer.isSome = true
  settled : b.state ≠ .opened → ∀ c ∈ b.contributions, c.state ≠ .waiting
  members : b.contributions.Pairwise fun c d => c.member < d.member

namespace Build.Kept

variable {b : Build}

/-- R106, R107: a close settles every contribution. -/
theorem close (h : b.contributions.Pairwise fun c d => c.member < d.member) (cause : CloseCause) :
    (b.close cause).Kept := by
  refine ⟨by simp [Build.close], by simp [Build.close], fun _ c hc => ?_, ?_⟩
  · obtain ⟨d, -, rfl⟩ := List.mem_map.mp hc
    unfold Contribution.atClose
    split
    · simp
    · assumption
  · refine List.pairwise_map.mpr (h.imp fun {c d} hlt => ?_)
    have hmember (c : Contribution) : c.atClose.member = c.member := by unfold Contribution.atClose; split <;> rfl
    rwa [hmember, hmember]

/-- R96, R99, R101: an OPEN build with its timer running. -/
theorem opened (ho : b.state = .opened) (hc : b.cause = none) (ht : b.timer.isSome = true)
    (hm : b.contributions.Pairwise fun c d => c.member < d.member) : b.Kept :=
  ⟨by simp [ho, hc], by simp [ho, ht], fun hn => absurd ho hn, hm⟩

theorem notExpected (h : b.Kept) (ho : b.state = .opened) (l : List Addr) : (b.notExpected l).Kept := by
  refine opened ho (h.cause.mp ho) (h.timer.mp ho) (List.pairwise_map.mpr (h.members.imp fun {c d} hlt => ?_))
  split <;> split <;> exact hlt

theorem tick (h : b.Kept) : ({ b with timer := tickTimer b.timer } : Build).Kept :=
  ⟨h.cause, by simpa [tickTimer] using h.timer, h.settled, h.members⟩

theorem stamp (h : b.Kept) (t : Option Time) : ({ b with time := t } : Build).Kept :=
  ⟨h.cause, h.timer, h.settled, h.members⟩

/-- R118: a CLOSED build is handed over. -/
theorem delivering (h : b.Kept) (hc : b.state = .closed) : ({ b with state := .delivering } : Build).Kept := by
  have hcause : b.cause ≠ none := fun hn => absurd (h.cause.mpr hn) (by simp [hc])
  have htimer : b.timer.isSome ≠ true := fun hn => absurd (h.timer.mpr hn) (by simp [hc])
  exact ⟨by simpa using hcause, by simpa using htimer, fun _ => h.settled (by simp [hc]), h.members⟩

end Build.Kept

/-! ## The table -/

/-- R91, R93, R95: the laws of the build table. -/
structure BuildUnit.Kept (u : BuildUnit) : Prop where
  length : u.builds.length ≤ 8
  samples : u.samples ≤ 4096
  order : ascending (u.lastDelivered :: u.builds.map (·.number))
  tail : ∀ b ∈ u.builds.tail, b.state ≠ .delivering
  builds : ∀ b ∈ u.builds, b.Kept

/-- A change of builds that keeps their numbers, their laws and which one is DELIVERING. -/
structure BuildUnit.Changes (u : BuildUnit) (g : Build → Build) : Prop where
  number : ∀ b ∈ u.builds, (g b).number = b.number
  delivering : ∀ b ∈ u.builds, (g b).state = .delivering ↔ b.state = .delivering
  total : ∀ b ∈ u.builds, b.state = .delivering → (g b).total = b.total
  kept : ∀ b ∈ u.builds, b.Kept → (g b).Kept

namespace BuildUnit.Kept

variable {u : BuildUnit}

theorem empty : BuildUnit.empty.Kept := by
  constructor <;> simp [BuildUnit.empty, BuildUnit.samples, ascending]

theorem map (h : u.Kept) {g : Build → Build} (hg : u.Changes g)
    (hs : ({ u with builds := u.builds.map g } : BuildUnit).samples ≤ 4096) :
    ({ u with builds := u.builds.map g } : BuildUnit).Kept := by
  have hnumbers : (u.builds.map g).map (·.number) = u.builds.map (·.number) := by
    rw [List.map_map]
    exact List.map_congr_left hg.number
  refine ⟨by simpa using h.length, hs, ?_, fun b hb => ?_, fun b hb => ?_⟩
  · simp only [hnumbers]
    exact h.order
  · rw [← List.map_tail] at hb
    obtain ⟨d, hd, rfl⟩ := List.mem_map.mp hb
    rw [ne_eq, hg.delivering d (List.mem_of_mem_tail hd)]
    exact h.tail d hd
  · obtain ⟨d, hd, rfl⟩ := List.mem_map.mp hb
    exact hg.kept d hd (h.builds d hd)

/-- A change that leaves each build's memory. -/
theorem map_of_samples (h : u.Kept) {g : Build → Build} (hg : u.Changes g)
    (hs : ∀ b ∈ u.builds, (g b).samples = b.samples) : ({ u with builds := u.builds.map g } : BuildUnit).Kept := by
  refine h.map hg ?_
  have hsum : (u.builds.map g).map Build.samples = u.builds.map Build.samples := by
    rw [List.map_map]
    exact List.map_congr_left hs
  rw [BuildUnit.samples, hsum]
  exact h.samples

/-- R95: what is last delivered is below every build, and their numbers differ. -/
theorem above (h : u.Kept) {b : Build} (hb : b ∈ u.builds) : u.lastDelivered < b.number :=
  (List.pairwise_cons.mp h.order).1 _ (List.mem_map_of_mem hb)

theorem numbers (h : u.Kept) : ascending (u.builds.map (·.number)) := (List.pairwise_cons.mp h.order).2

theorem nodup (h : u.Kept) : (u.builds.map (·.number)).Nodup := h.numbers.imp fun hlt => Nat.ne_of_lt hlt

/-- R109, R115: the build that is DELIVERING is the head. -/
theorem delivering_eq (h : u.Kept) {b : Build} (hb : u.delivering = some b) :
    b.state = .delivering ∧ u.builds.head? = some b := by
  have hmem := List.mem_of_find?_eq_some hb
  have hstate : b.state = .delivering := by simpa using List.find?_some hb
  refine ⟨hstate, ?_⟩
  have htail := h.tail
  cases hl : u.builds with
  | nil => simp [hl] at hmem
  | cons x l =>
    rw [hl] at hmem htail
    rcases List.mem_cons.mp hmem with rfl | hm
    · rfl
    · exact absurd hstate (htail b hm)

end BuildUnit.Kept

/-- A change that leaves which build is DELIVERING leaves the port's total. -/
theorem BuildUnit.Changes.delivering_total {u : BuildUnit} {g : Build → Build} (h : u.Changes g) :
    ({ u with builds := u.builds.map g } : BuildUnit).delivering.map Build.total = u.delivering.map Build.total := by
  obtain ⟨builds, last⟩ := u
  simp only [BuildUnit.delivering]
  induction builds with
  | nil => rfl
  | cons b l ih =>
    have hb : (g b).state = .delivering ↔ b.state = .delivering := h.delivering b List.mem_cons_self
    simp only [List.map_cons, List.find?_cons, hb]
    split
    · next hd => simp [h.total b List.mem_cons_self (by simpa using hd)]
    · exact ih ⟨fun x hx => h.number x (List.mem_cons_of_mem _ hx), fun x hx => h.delivering x (List.mem_cons_of_mem _ hx),
        fun x hx => h.total x (List.mem_cons_of_mem _ hx), fun x hx => h.kept x (List.mem_cons_of_mem _ hx)⟩

/-! ## The station -/

/-- The laws of the build unit and of a port that delivers. -/
structure State.BuildKept (s : State) : Prop where
  unit : s.build.Kept
  total : s.build.delivering.map Build.total = s.port.state.total
  cursor : ∀ cursor ∈ s.port.state.cursor, ∀ total ∈ s.port.state.total, cursor < total

/-- R109: an IDLE port stands before no CLOSED head. -/
abbrev State.HandedOver (s : State) : Prop := s.port.state = .idle → ∀ b ∈ s.build.builds.head?, b.state ≠ .closed

theorem State.buildInv_iff {s : State} : s.BuildInv ↔ s.BuildKept ∧ s.HandedOver := by
  constructor
  · rintro ⟨⟨h1, h2, h3, h4, h5⟩, h6, h7, h8⟩
    refine ⟨⟨⟨h1, h2, h3, h4, fun b hb => ?_⟩, h6, h7⟩, h8⟩
    obtain ⟨hc, ht, hs, hm⟩ := h5 b hb
    exact ⟨hc, ht, hs, hm⟩
  · rintro ⟨⟨h, h6, h7⟩, h8⟩
    exact ⟨⟨h.length, h.samples, h.order, h.tail, fun b hb =>
      ⟨(h.builds b hb).cause, (h.builds b hb).timer, (h.builds b hb).settled, (h.builds b hb).members⟩⟩, h6, h7, h8⟩

namespace State.BuildKept

variable {s t : State}

theorem congr (h : s.BuildKept) (hb : t.build = s.build) (hp : t.port = s.port) : t.BuildKept :=
  ⟨hb ▸ h.unit, by rw [hb, hp]; exact h.total, by rw [hp]; exact h.cursor⟩

theorem map (h : s.BuildKept) {g : Build → Build} (hg : s.build.Changes g)
    (hs : ({ s.build with builds := s.build.builds.map g } : BuildUnit).samples ≤ 4096) :
    (s.setBuild { s.build with builds := s.build.builds.map g }).BuildKept :=
  ⟨h.unit.map hg hs, hg.delivering_total.trans h.total, h.cursor⟩

theorem map_of_samples (h : s.BuildKept) {g : Build → Build} (hg : s.build.Changes g)
    (hs : ∀ b ∈ s.build.builds, (g b).samples = b.samples) :
    (s.setBuild { s.build with builds := s.build.builds.map g }).BuildKept :=
  ⟨h.unit.map_of_samples hg hs, hg.delivering_total.trans h.total, h.cursor⟩

/-- With nothing built the port delivers nothing. -/
theorem of_empty (hb : t.build = BuildUnit.empty) (hp : t.port.state.total = none) : t.BuildKept :=
  ⟨hb ▸ .empty, by rw [hb, hp]; rfl, by simp [hp]⟩

end State.BuildKept

/-! ## What leaves a build's content -/

@[simp] theorem Build.samples_content (b : Build) : b.content.samples = b.samples := by
  simp [Build.samples, Build.content, Function.comp_def]

@[simp] theorem Build.total_content (b : Build) : b.content.total = b.total := by
  simp [Build.total, Build.content, Build.samples, Function.comp_def]

theorem BuildUnit.Changes.of_content {u : BuildUnit} {g : Build → Build} (hg : ∀ b, (g b).content = b.content)
    (hd : ∀ b ∈ u.builds, (g b).state = .delivering ↔ b.state = .delivering) (hk : ∀ b ∈ u.builds, b.Kept → (g b).Kept) :
    u.Changes g where
  number := fun b _ => (show (g b).content.number = b.content.number by rw [hg b])
  delivering := hd
  total := fun b _ _ => by rw [← Build.total_content, hg, Build.total_content]
  kept := hk

namespace State.BuildKept

variable {s t : State}

theorem map_of_content (h : s.BuildKept) {g : Build → Build} (hg : ∀ b, (g b).content = b.content)
    (hd : ∀ b ∈ s.build.builds, (g b).state = .delivering ↔ b.state = .delivering)
    (hk : ∀ b ∈ s.build.builds, b.Kept → (g b).Kept) :
    (s.setBuild { s.build with builds := s.build.builds.map g }).BuildKept :=
  h.map_of_samples (.of_content hg hd hk) fun b _ => by rw [← Build.samples_content, hg, Build.samples_content]

/-! ## Closing and handing over -/

theorem settleBuilds (h : s.BuildKept) (l : List Addr) : (s.settleBuilds l).BuildKept := by
  refine h.map_of_content (fun b => State.settleBuild_content s _ b) (fun b _ => ?_) fun b _ hb => ?_
  · unfold State.settleBuild
    split
    · next ho =>
      dsimp only
      split <;> simp [Build.close, Build.notExpected, ho]
    · rfl
  · unfold State.settleBuild
    split
    · next ho =>
      have hleft := hb.notExpected ho (l.filter fun a => a ∉ s.order)
      dsimp only
      split
      · exact .close hleft.members _
      · exact hleft
    · exact hb

theorem timeoutBuild (h : s.BuildKept) (n : Nat) : (s.timeoutBuild n).BuildKept := by
  refine h.map_of_content (fun b => ?_) (fun b _ => ?_) fun b _ hb => ?_
  · split
    · exact Build.close_content _ b
    · rfl
  · split
    · next ho => simp [Build.close, ho.2.1]
    · rfl
  · split
    · exact .close hb.members _
    · exact hb

theorem fillBuilds (h : s.BuildKept) (n : Nat) (x : Time) : (s.fillBuilds n x).BuildKept := by
  have hstamp (b : Build) : (if b.number = n ∧ b.state = .opened ∧ b.time = none then { b with time := some x } else b) =
      { b with time := if b.number = n ∧ b.state = .opened ∧ b.time = none then some x else b.time } := by split <;> rfl
  unfold State.fillBuilds
  simp only [hstamp]
  exact h.map_of_samples ⟨fun _ _ => rfl, fun _ _ => Iff.rfl, fun _ _ _ => rfl, fun _ _ hb => hb.stamp _⟩ fun _ _ => rfl

/-- R109, R118: after the hand-over no CLOSED head stands before an IDLE port. -/
theorem startDelivery (h : s.BuildKept) : s.startDelivery.BuildKept ∧ s.startDelivery.HandedOver := by
  unfold State.startDelivery
  split
  · next b rest hp hl =>
    have hnone : s.build.delivering = none := by simpa [hp, PortState.total] using h.total
    split
    · next hc =>
      have htail := h.unit.tail
      have hbuilds := h.unit.builds
      have horder := h.unit.order
      have hlength := h.unit.length
      have hsamples := h.unit.samples
      simp only [BuildUnit.samples, hl, List.tail_cons, List.length_cons, List.map_cons] at htail hbuilds horder hlength hsamples
      refine ⟨⟨⟨by simpa using hlength, ?_, ?_, ?_, ?_⟩, ?_, ?_⟩, ?_⟩
      · exact hsamples
      · exact horder
      · exact htail
      · intro x hx
        rcases List.mem_cons.mp hx with rfl | hx
        · exact (hbuilds b List.mem_cons_self).delivering hc
        · exact hbuilds x (List.mem_cons_of_mem _ hx)
      · simp [State.offerWord, BuildUnit.delivering, PortState.total, Build.total, Build.samples]
      · simp only [State.offerWord, State.setPort_port, PortState.cursor, PortState.total, Option.mem_def, Option.some.injEq]
        rintro _ rfl _ rfl
        unfold Build.total
        omega
      · intro hi
        simp [State.offerWord] at hi
    · next hc =>
      refine ⟨h, fun _ x hx => ?_⟩
      simp only [hl, List.head?_cons, Option.mem_def, Option.some.injEq] at hx
      exact hx ▸ hc
  · next hcases =>
    refine ⟨h, fun hp x hx => ?_⟩
    cases hl : s.build.builds with
    | nil => simp [hl] at hx
    | cons b rest => exact absurd hl (hcases b rest hp)

theorem settle (h : s.BuildKept) (l : List Addr) : (s.settle l).BuildKept ∧ (s.settle l).HandedOver :=
  startDelivery (settleBuilds (h.congr (by simp) (by simp)) l)

/-! ## The delivery of a record -/

/-- R121: the record's build is the head, and leaves the table. -/
theorem endRecord (h : s.BuildKept) : s.endRecord.BuildKept := by
  unfold State.endRecord
  dsimp only
  split
  · next b hb =>
    obtain ⟨hstate, hhead⟩ := h.unit.delivering_eq hb
    obtain ⟨rest, hl⟩ := List.head?_eq_some_iff.mp hhead
    have htail : ∀ x ∈ rest, x.state ≠ .delivering := by
      have := h.unit.tail
      rwa [hl] at this
    have hfilter : (s.build.builds.filter fun x => x.state ≠ .delivering) = rest := by
      rw [hl, List.filter_cons_of_neg (by simp [hstate]), List.filter_eq_self]
      exact fun x hx => by simpa using htail x hx
    have hdelivering : rest.find? (fun x => decide (x.state = .delivering)) = none :=
      List.find?_eq_none.mpr fun x hx => by simpa using htail x hx
    have hlength := h.unit.length
    have hsamples := h.unit.samples
    have horder := h.unit.numbers
    have hbuilds := h.unit.builds
    simp only [BuildUnit.samples, hl, List.map_cons, List.sum_cons, List.length_cons] at hlength hsamples horder hbuilds
    refine ⟨⟨?_, ?_, ?_, ?_, ?_⟩, ?_, by simp [PortState.cursor]⟩ <;> simp only [State.setBuild_build, hfilter]
    · omega
    · simp only [BuildUnit.samples]
      omega
    · exact horder
    · exact fun x hx => htail x (List.mem_of_mem_tail hx)
    · exact fun x hx => hbuilds x (List.mem_cons_of_mem _ hx)
    · simp [BuildUnit.delivering, hdelivering, PortState.total]
  · next hb =>
    exact ⟨h.unit, by simp [hb, PortState.total], by simp [PortState.cursor]⟩

theorem takeWord (h : s.BuildKept) (ho : s.HandedOver) : s.takeWord.BuildKept ∧ s.takeWord.HandedOver := by
  unfold State.takeWord
  split
  · exact ⟨h, ho⟩
  · next hp =>
    have htotal : s.build.delivering.map Build.total = none := by simpa [hp, PortState.total] using h.total
    exact startDelivery (s := s.setPort { s.port with state := .idle }) ⟨h.unit, htotal, by simp [PortState.cursor]⟩
  · next cursor total hp =>
    have htotal : s.build.delivering.map Build.total = some total := by simpa [hp, PortState.total] using h.total
    split
    · next hlt =>
      split
      · refine ⟨⟨h.unit, htotal, ?_⟩, fun hi => by simp [State.offerWord] at hi⟩
        simp only [State.offerWord, State.setPort_port, PortState.cursor, PortState.total, Option.mem_def, Option.some.injEq]
        rintro _ rfl _ rfl
        exact hlt
      · exact ⟨h, ho⟩
    · exact h.endRecord.startDelivery

end State.BuildKept

/-! ## A frame that reaches the build unit -/

/-- R47: the turn order ascends. -/
theorem State.order_ascending (s : State) : s.order.Pairwise (· < ·) :=
  List.Pairwise.sublist List.filter_sublist (by decide : allAddrs.Pairwise (· < ·))

/-- R102: the samples of a list of contributions, and of the one of an address. -/
theorem putContribution_samples {c : Contribution} {l : List Contribution}
    (h : l.Pairwise fun x y => x.member < y.member) :
    ((putContribution c l).map (·.samples.length)).sum
        + ((l.find? fun x => x.member = c.member).map (·.samples.length)).getD 0
      = (l.map (·.samples.length)).sum + c.samples.length := by
  induction l with
  | nil => simp [putContribution]
  | cons x l ih =>
    obtain ⟨hx, hl⟩ := List.pairwise_cons.mp h
    unfold putContribution
    split
    · next hlt =>
      have hnone : (x :: l).find? (fun y => y.member = c.member) = none := by
        refine List.find?_eq_none.mpr fun y hy => ?_
        have hcy : c.member < y.member := by
          rcases List.mem_cons.mp hy with rfl | hy
          · exact hlt
          · exact hlt.trans (hx y hy)
        simpa using hcy.ne'
      simp only [hnone, List.map_cons, List.sum_cons, Option.map_none, Option.getD_none]
      omega
    · split
      · next heq =>
        simp only [List.find?_cons, heq, decide_true, List.map_cons, List.sum_cons, Option.map_some, Option.getD_some]
        omega
      · next hne =>
        have hne : ¬ x.member = c.member := fun he => hne he.symm
        have ih := ih hl
        simp only [List.find?_cons, hne, decide_false, List.map_cons, List.sum_cons] at ih ⊢
        omega

/-- One of the builds replaced: what build memory then holds. -/
theorem sum_replace {l : List Build} (hn : (l.map (·.number)).Nodup) {b d : Build} (hb : b ∈ l)
    (hd : d.number = b.number) :
    ((l.map fun x => if x.number = d.number then d else x).map Build.samples).sum + b.samples
      = (l.map Build.samples).sum + d.samples := by
  induction l with
  | nil => simp at hb
  | cons x l ih =>
    simp only [List.map_cons, List.nodup_cons] at hn
    obtain ⟨hx, hl⟩ := hn
    rcases List.mem_cons.mp hb with rfl | hb
    · have hrest : l.map (fun x => if x.number = d.number then d else x) = l.map id := by
        refine List.map_congr_left fun y hy => if_neg fun he => hx ?_
        rw [← hd, ← he]
        exact List.mem_map_of_mem hy
      simp only [List.map_cons, List.sum_cons, hd, if_true] at hrest ⊢
      rw [hrest, List.map_id]
      omega
    · have hne : x.number ≠ d.number := fun he => hx (by rw [he, hd]; exact List.mem_map_of_mem hb)
      simp only [List.map_cons, List.sum_cons, hne, if_false]
      have := ih hl hb
      omega

/-- A build is the only one of its number. -/
theorem BuildUnit.Kept.eq_of_number {u : BuildUnit} (h : u.Kept) {b d : Build} (hb : b ∈ u.builds) (hd : d ∈ u.builds)
    (he : b.number = d.number) : b = d := List.inj_on_of_nodup_map h.nodup hb hd he

namespace State.BuildKept

variable {s t : State}

/-- R99, R101: an OPEN build replaced by an OPEN one of its number, within build memory. -/
theorem putBuild (h : s.BuildKept) {b d : Build} (hb : b ∈ s.build.builds) (ho : b.state = .opened)
    (hn : d.number = b.number) (hdo : d.state = .opened) (hd : d.Kept)
    (hs : s.build.samples + d.samples ≤ 4096 + b.samples) : (s.putBuild d).BuildKept := by
  have heq {x : Build} (hx : x ∈ s.build.builds) (hxn : x.number = d.number) : x = b :=
    h.unit.eq_of_number hx hb (hxn.trans hn)
  refine h.map ⟨fun x hx => ?_, fun x hx => ?_, fun x hx hdel => ?_, fun x hx hk => ?_⟩ ?_
  · split
    · next he => exact he.symm
    · rfl
  · split
    · next he => rw [heq hx he]; simp [hdo, ho]
    · rfl
  · split
    · next he => rw [heq hx he, ho] at hdel; simp at hdel
    · rfl
  · split
    · exact hd
    · exact hk
  · have hsum := sum_replace h.unit.nodup hb hn
    simp only [BuildUnit.samples] at hs ⊢
    omega

/-- R96: the contribution that a frame meets has the frame's address. -/
theorem contribution_member (b : Build) (m : Addr) : (b.contribution m).member = m := by
  unfold Build.contribution
  cases hf : b.contributions.find? fun c => c.member = m with
  | none => rfl
  | some c => simpa using List.find?_some hf

theorem contribution_samples (b : Build) (m : Addr) : (b.contribution m).samples.length =
    ((b.contributions.find? fun c => c.member = m).map (·.samples.length)).getD 0 := by
  unfold Build.contribution
  cases b.contributions.find? fun c => c.member = m <;> rfl

/-- R99, R101: what the contribution of an address gains, the build gains. -/
theorem samples_put (b : Build) (hm : b.contributions.Pairwise fun c d => c.member < d.member) {c : Contribution} {m : Addr}
    (hc : c.member = m) : ((putContribution c b.contributions).map (·.samples.length)).sum + (b.contribution m).samples.length
      = b.samples + c.samples.length := by
  subst hc
  rw [contribution_samples]
  exact putContribution_samples hm

theorem applyPart (h : s.BuildKept) {b : Build} (hb : b ∈ s.build.builds) (ho : b.state = .opened) (f : FragFrame) :
    (s.applyPart f b).BuildKept := by
  have hk := h.unit.builds b hb
  have hfree : s.build.samples + s.build.freeEntries = 4096 := by
    have := h.unit.samples
    simp only [BuildUnit.freeEntries, Config.buildEntries]
    omega
  unfold State.applyPart
  dsimp only
  split
  · exact h
  · generalize Config.surplusPartIsDone s.freeIndex = sd
    have hmember : ((b.contribution f.sender).applyPart f s.build.freeEntries sd).member = f.sender :=
      contribution_member b f.sender
    have hgain := samples_put b hk.members hmember
    have hlen : ((b.contribution f.sender).applyPart f s.build.freeEntries sd).samples.length
        ≤ (b.contribution f.sender).samples.length + s.build.freeEntries := by
      simp [Contribution.applyPart]
    have hput := h.putBuild hb ho (d := { b with
      contributions := putContribution ((b.contribution f.sender).applyPart f s.build.freeEntries sd) b.contributions
      truncated := b.truncated || decide (s.build.freeEntries < f.samples.length), timer := some s.closeTicks }) rfl ho
      (.opened ho (hk.cause.mp ho) rfl (putContribution_ascending hk.members))
      (by simp only [Build.samples] at hgain ⊢; omega)
    split <;> split <;> exact hput.congr rfl rfl

theorem applySkip (h : s.BuildKept) {b : Build} (hb : b ∈ s.build.builds) (ho : b.state = .opened) (f : SkipFrame) :
    (s.applySkip f b).BuildKept := by
  have hk := h.unit.builds b hb
  have hsame : ((b.contribution f.subject).applySkip f.heard.toNat).member = f.subject
      ∧ ((b.contribution f.subject).applySkip f.heard.toNat).samples = (b.contribution f.subject).samples := by
    unfold Contribution.applySkip
    split <;> exact ⟨contribution_member b f.subject, rfl⟩
  have hgain := samples_put b hk.members hsame.1
  have := h.unit.samples
  unfold State.applySkip
  dsimp only
  split
  · exact h
  · refine h.putBuild hb ho rfl ho (.opened ho (hk.cause.mp ho) rfl (putContribution_ascending hk.members)) ?_
    rw [hsame.2] at hgain
    simp only [Build.samples] at hgain ⊢
    omega

theorem newBuild_kept (s : State) (n : Nat) (stamp : Option Time) : (s.newBuild n stamp).Kept := by
  refine .opened rfl rfl rfl (List.pairwise_map.mpr ?_)
  exact s.order_ascending

theorem newBuild_samples (s : State) (n : Nat) (stamp : Option Time) : (s.newBuild n stamp).samples = 0 := by
  simp [State.newBuild, Build.samples, Contribution.fresh, Function.comp_def]

theorem insertBuild_perm (b : Build) (l : List Build) : (insertBuild b l).Perm (b :: l) := by
  induction l with
  | nil => exact List.Perm.refl _
  | cons x l ih =>
    unfold insertBuild
    split
    · exact List.Perm.refl _
    · exact (ih.cons x).trans (List.Perm.swap b x l)

theorem find?_insertBuild {p : Build → Bool} {b : Build} (hb : ¬ p b = true) (l : List Build) :
    (insertBuild b l).find? p = l.find? p := by
  induction l with
  | nil => simp [insertBuild, hb]
  | cons x l ih =>
    unfold insertBuild
    split
    · rw [List.find?_cons_of_neg hb]
    · simp only [List.find?_cons, ih]

/-- R95, R96: a new build stands above the delivery floor, in its ascending place. -/
theorem insertNew (h : s.BuildKept) {n : Nat} (hn : s.build.floor < n) (hnew : ∀ b ∈ s.build.builds, b.number ≠ n)
    (hroom : s.build.builds.length < 8) (stamp : Option Time) :
    (s.setBuild { s.build with builds := insertBuild (s.newBuild n stamp) s.build.builds }).BuildKept := by
  have hopened : (s.newBuild n stamp).state ≠ .delivering := by simp [State.newBuild]
  have hnumbers := insertBuild_ascending (b := s.newBuild n stamp) (List.pairwise_map.mp h.unit.numbers) hnew
  have hsum : ((insertBuild (s.newBuild n stamp) s.build.builds).map Build.samples).sum = s.build.samples := by
    rw [((insertBuild_perm _ _).map Build.samples).sum_eq]
    simp [newBuild_samples, BuildUnit.samples]
  have hlast : s.build.lastDelivered < n ∧ ∀ x ∈ (insertBuild (s.newBuild n stamp) s.build.builds).tail,
      x.state ≠ .delivering := by
    cases hd : s.build.delivering with
    | none =>
      refine ⟨by simpa [BuildUnit.floor, hd] using hn, fun x hx => ?_⟩
      rcases mem_insertBuild.mp (List.mem_of_mem_tail hx) with rfl | hx
      · exact hopened
      · simpa using List.find?_eq_none.mp hd x hx
    | some b =>
      have hfloor : b.number < n := by simpa [BuildUnit.floor, hd] using hn
      obtain ⟨rest, hl⟩ := List.head?_eq_some_iff.mp (h.unit.delivering_eq hd).2
      have htail := h.unit.tail
      refine ⟨(h.unit.above (hl ▸ List.mem_cons_self)).trans hfloor, fun x hx => ?_⟩
      rw [hl, insertBuild, if_neg (show ¬ (s.newBuild n stamp).number < b.number from not_lt.mpr hfloor.le), List.tail_cons] at hx
      rcases mem_insertBuild.mp hx with rfl | hx
      · exact hopened
      · exact htail x (by rw [hl]; exact hx)
  refine ⟨⟨?_, ?_, ?_, hlast.2, ?_⟩, ?_, h.cursor⟩
  · simpa using hroom
  · exact hsum.trans_le h.unit.samples
  · refine List.pairwise_cons.mpr ⟨fun k hk => ?_, List.pairwise_map.mpr hnumbers⟩
    obtain ⟨x, hx, rfl⟩ := List.mem_map.mp hk
    rcases mem_insertBuild.mp hx with rfl | hx
    · exact hlast.1
    · exact h.unit.above hx
  · intro x hx
    rcases mem_insertBuild.mp hx with rfl | hx
    · exact newBuild_kept s n stamp
    · exact h.unit.builds x hx
  · simp only [BuildUnit.delivering, State.setBuild_build]
    rw [find?_insertBuild (by simpa using hopened)]
    exact h.total

theorem buildFrame (h : s.BuildKept) (n : Nat) (stamp : Option Time) {apply : Build → State → State}
    (ha : ∀ t : State, t.BuildKept → ∀ b ∈ t.build.builds, b.state = .opened → (apply b t).BuildKept) :
    (s.buildFrame n stamp apply).BuildKept := by
  unfold State.buildFrame
  split
  · exact h
  · split
    · exact h.congr rfl rfl
    · next hn =>
      split
      · next b hb =>
        split
        · next ho => exact ha s h b (List.mem_of_find?_eq_some hb) ho
        · exact h.congr rfl rfl
      · next hnone =>
        split
        · exact h.congr rfl rfl
        · next hroom =>
          have hnew : ∀ b ∈ s.build.builds, b.number ≠ n := by simpa using hnone
          exact ha _ (h.insertNew (not_le.mp hn) hnew (not_le.mp hroom) stamp) _ (mem_insertBuild.mpr (.inl rfl)) rfl

/-! ## Receptions -/

theorem handleTake (h : s.BuildKept) (n : Nat) (x : Time) : (s.handleTake n x).BuildKept := by
  have hmatched {t : State} (ht : t.BuildKept) : (t.matchTake n x).BuildKept := ht.congr (by simp) (by simp)
  unfold State.handleTake
  split
  · unfold State.fillTake
    split
    · refine State.BuildKept.fillBuilds ?_ n x
      exact h.congr rfl rfl
    · exact h
  · split
    · exact h.congr rfl rfl
    · split
      · exact hmatched (h.congr (by simp) (by simp))
      · refine hmatched (State.BuildKept.fillBuilds ?_ n x)
        exact h.congr rfl rfl

theorem handleFrag (h : s.BuildKept) (own : Bool) (f : FragFrame) : (s.handleFrag own f).BuildKept := by
  have hstored {t : State} (ht : t.BuildKept) : (if own then t.storePart f else t).BuildKept := by
    split
    · exact ht.congr (by simp) (by simp)
    · exact ht
  have hbuilt {t : State} {stamp : Option Time} (b : Bool) (ht : t.BuildKept) :
      (if b then t.buildFrame f.number.toNat stamp (State.applyPart f) else t).BuildKept := by
    split
    · exact ht.buildFrame _ _ fun u hu b hb ho => hu.applyPart hb ho f
    · exact ht
  unfold State.handleFrag
  dsimp only
  split
  · exact h
  · refine hbuilt _ (hstored ?_)
    split
    · exact h.congr (by simp) (by simp)
    · split <;> exact h.congr (by simp) (by simp)

theorem handleSkip (h : s.BuildKept) (own : Bool) (f : SkipFrame) : (s.handleSkip own f).BuildKept := by
  have hheard : (s.skipHeard own f).BuildKept := by
    unfold State.skipHeard
    split <;> exact h.congr (by simp) (by simp)
  cases ht : s.tracks
  · exact h.congr (by simp [State.handleSkip, ht]) (by simp)
  · rw [State.handleSkip_of_tracks own f ht]
    split
    · have hskipped : (State.reassess (State.skipTurn f.subject f.number.toNat (s.skipHeard own f))).BuildKept :=
        hheard.congr (by simp) (by simp)
      exact hskipped.buildFrame _ _ fun u hu b hb ho => hu.applySkip hb ho f
    · exact hheard

/-- R185, R179: JOINING and ROLLCALL are entered with nothing built. -/
theorem enterJoining (h : s.BuildKept) (hb : s.build = BuildUnit.empty) : s.enterJoining.BuildKept :=
  h.congr (by simp [State.enterJoining, hb]) (by simp)

theorem enterRollcall (h : s.BuildKept) (hb : s.build = BuildUnit.empty) : s.enterRollcall.BuildKept :=
  h.congr (by simp [State.enterRollcall, hb]) (by simp)

theorem handleRoll (h : s.BuildKept) (hfits : s.Fits) (own : Bool) (f : RollFrame) : (s.handleRoll own f).BuildKept := by
  unfold State.handleRoll
  split
  · next hs =>
    have hempty : s.build = BuildUnit.empty := hfits.build (.inl (.inr (.inl hs)))
    refine State.rollcallRoll_cases (P := State.BuildKept) own f s (stays := h) (called := fun _ _ => h.congr rfl rfl)
      (marked := fun _ => h.congr (by simp) (by simp)) (present := fun _ _ => h.congr (by simp) (by simp))
      (joins := fun _ _ => enterJoining (h.congr (by simp) (by simp)) (by simpa using hempty))
      (echoed := fun _ _ => (h.enterJoining hempty).congr (by simp) (by simp))
  · split
    · exact h
    · split <;> exact h.congr (by simp) (by simp)

theorem giveOwners (h : s.BuildKept) (hfits : s.Fits) (own : Bool) (f : Frame) : (s.giveOwners own f).BuildKept := by
  unfold State.giveOwners
  split
  · split
    · exact h.handleTake _ _
    · exact h
  · exact h.handleFrag own _
  · exact h.handleSkip own _
  · exact h.handleRoll hfits own _

theorem leaveListening (h : s.BuildKept) (hfits : s.Fits) (f : Frame) : (s.leaveListening f).BuildKept := by
  unfold State.leaveListening
  split
  · next hl =>
    have hempty : s.build = BuildUnit.empty := hfits.build (.inl (.inl (.inr (.inr hl))))
    split
    · split
      · exact h.enterRollcall hempty
      · exact h.enterJoining hempty
    all_goals exact h.enterJoining hempty
  · exact h

theorem received (h : s.BuildKept) (ho : s.HandedOver) (hfits : s.Fits) (ht : s.takesFrame = true) (f : Frame) :
    (s.received f).BuildKept ∧ (s.received f).HandedOver := by
  have hframe {t : State} {own : Bool} (hb : t.build = s.build) (hp : t.port = s.port) (he : t.Fits)
      (hrst : t.pins.rst = false) (hu : t.unloaded = false) :
      (t.handleFrame own f).BuildKept ∧ (t.handleFrame own f).HandedOver := by
    have hchecked : (t.clashCheck own f).BuildKept := h.congr (by simpa using hb) (by simpa using hp)
    refine he.handleFrame_cases (P := fun u => u.BuildKept ∧ u.HandedOver) hrst hu own f ⟨hchecked, ?_⟩
      fun _ u hu hfitsu _ => settle (State.BuildKept.giveOwners ?_ hfitsu own f) _
    · have hbuild : (t.clashCheck own f).build = s.build := by simpa using hb
      have hport : (t.clashCheck own f).port = s.port := by simpa using hp
      rwa [State.HandedOver, hbuild, hport]
    · exact hu ▸ hchecked.leaveListening (he.clashCheck hrst own f) f
  exact hfits.received_cases (P := fun t => t.BuildKept ∧ t.HandedOver) ht f (fun _ he hrst hu => hframe (by simp) (by simp) he hrst hu)
    fun _ he hrst hu => hframe (by simp) (by simp) he hrst hu

/-! ## The other events -/

/-- R124: after the abort the port is in no record. -/
theorem abortRecord_total (s : State) : s.abortRecord.port.state.total = none := by
  unfold State.abortRecord
  split
  · rfl
  · next hp =>
    cases hs : s.port.state with
    | idle => rfl
    | record c x => exact absurd hs (hp c x)
    | abort x => rfl

/-- R163, R124: the detection empties the table, and a record in progress becomes the abort word. -/
theorem detectRestart (s : State) : s.detectRestart.BuildKept ∧ s.detectRestart.HandedOver := by
  have hbuild : s.detectRestart.build = BuildUnit.empty := by simp [State.detectRestart]
  refine ⟨.of_empty hbuild ?_, fun _ => by simp [hbuild, BuildUnit.empty]⟩
  unfold State.detectRestart
  exact abortRecord_total _

theorem tickTimers (h : s.BuildKept) (ho : s.HandedOver) : s.tickTimers.BuildKept ∧ s.tickTimers.HandedOver := by
  have hticked := h.map_of_samples (g := fun b => { b with timer := tickTimer b.timer })
    ⟨fun _ _ => rfl, fun _ _ => Iff.rfl, fun _ _ _ => rfl, fun _ _ hb => hb.tick⟩ fun _ _ => rfl
  refine ⟨hticked.congr rfl rfl, fun hp b hb => ?_⟩
  have hhead : s.tickTimers.build.builds.head? = s.build.builds.head?.map fun b => { b with timer := tickTimer b.timer } :=
    List.head?_map
  rw [hhead] at hb
  obtain ⟨d, hd, rfl⟩ := Option.map_eq_some_iff.mp hb
  exact ho hp d hd

/-- The laws of builds and port outlive every command. -/
theorem after (h : s.BuildKept) (ho : s.HandedOver) (hfits : s.Fits) (c : Instr) :
    (s.after c).BuildKept ∧ (s.after c).HandedOver := by
  have kept {t : State} (hb : t.build = s.build) (hp : t.port = s.port) : t.BuildKept ∧ t.HandedOver :=
    ⟨h.congr hb hp, by rwa [State.HandedOver, hb, hp]⟩
  have emptied (hr : s.atRest) {t : State} (hb : t.build = BuildUnit.empty) (hp : t.port = s.port) :
      t.BuildKept ∧ t.HandedOver := kept (hb.trans (hfits.build (.inl hr)).symm) hp
  have hepoch (hs : s.start.station = .rollcall) : s.epoch.BuildKept ∧ s.epoch.HandedOver := by
    rw [State.epoch_eq]
    exact settle (s := s.started) (emptied (t := s.started) (.inr (.inl hs)) rfl rfl).1 []
  refine State.after_cases (P := fun t => t.BuildKept ∧ t.HandedOver) c s (idle := ⟨h, ho⟩)
    (reset := fun _ => ⟨.of_empty rfl rfl, fun _ => by simp [State.reset, BuildUnit.empty]⟩)
    (release := fun _ _ _ _ => kept rfl rfl) (read := fun _ img trg _ hp => kept (by simp) (by simp))
    (sample := fun _ _ _ _ => kept (by simp) (by simp)) (window := fun _ _ => kept (by simp) (by simp))
    (edge := fun _ b _ _ hl => kept (by simp) (by simp)) (request := fun _ _ _ _ _ => kept (by simp) (by simp))
    (normalPulse := fun _ _ => kept rfl rfl) (restartPulse := fun _ _ => kept rfl rfl)
    (restart := fun _ => kept (by simp) (by simp)) (detection := fun _ _ _ => detectRestart s)
    (trgRelease := fun _ _ hu _ => ?_)
    (listen := fun _ _ hs _ => emptied (.inl (.inr (.inr hs))) (by simp [State.enterRollcall]) (by simp))
    (roll := fun _ b _ hs _ => ?_) (hldFall := fun _ _ hs _ => hepoch hs)
    (turn := fun _ _ => kept (by simp) (by simp)) (close := fun _ n _ => (h.timeoutBuild _).startDelivery)
    (datIdle := fun _ _ => kept (by simp) (by simp)) (contention := fun _ _ => kept (by simp) (by simp))
    (lost := fun _ _ _ => kept (by simp) (by simp)) (abandoned := fun _ _ f _ => ?_)
    (discard := fun _ _ _ => kept (by simp) (by simp)) (received := fun _ ht f _ hv => h.received ho hfits ht f)
    (taking := fun _ _ _ => h.takeWord ho) (read_window := fun _ _ _ _ => kept rfl rfl)
    (clear := fun _ _ => kept rfl rfl) (ack := fun _ _ => kept rfl rfl) (write := fun _ => kept rfl rfl)
    (tick := fun _ _ => State.BuildKept.tickTimers (h.congr rfl rfl) ho)
  · unfold State.releaseTrg
    dsimp only
    split
    · next hr =>
      unfold State.endRestart
      split
      case h_6 | h_7 | h_8 => exact kept rfl rfl
      all_goals exact emptied (.inr (.inr hr)) (by simp [State.enterRollcall]) (by simp)
    · exact kept rfl rfl
  · unfold State.meetRoll
    split
    · exact kept rfl rfl
    · exact hepoch hs
  · unfold State.abandon
    dsimp only
    split
    · exact settle (h.congr (by simp) (by simp)) _
    · exact kept (by simp) (by simp)

end State.BuildKept

/-- Settles O58: every change of builds keeps their laws and the port's total, and the settling hands a CLOSED head over. -/
theorem stepKeepsBuilds : Obligations.StepKeepsBuilds := by
  intro s t hs hb ht
  rcases step_cases ht with rfl | ⟨c, rest, -, rfl⟩
  · exact hb
  · have hfits : State.Fits { s with pending := rest } := State.Coherent.fits hs
    obtain ⟨hkept, ho⟩ := State.buildInv_iff.mp hb
    have hkept : State.BuildKept { s with pending := rest } := hkept.congr rfl rfl
    exact State.buildInv_iff.mpr (hkept.after ho hfits c)

end Sys2Proof.Machine
end

section
/-! The laws of the transmit queue (R30, R74, R128, R132, R134, R136, R137, R140): what each change of a place keeps,
and so every step. -/

namespace Sys2Proof.Machine

/-! ## One place -/

/-- R136: a request is kept for a frame on the wire alone, and every frame of the place is as it has to be. -/
structure Place.Sound {φ : Type} (ok : φ → Prop) (p : Place φ) : Prop where
  kept : p.onWire = false → p.kept = .nothing
  frames : ∀ f ∈ p.frames, ok f

/-- The frames on the wire of a place that may be empty. -/
def Place.wires {φ : Type} (o : Option (Place φ)) : Nat := o.toList.countP (·.onWire)

namespace Place.Sound

variable {φ : Type} {ok : φ → Prop} {o : Option (Place φ)}

theorem mono {ok' : φ → Prop} {p : Place φ} (h : p.Sound ok) (hk : ∀ f, ok f → ok' f) : p.Sound ok' :=
  ⟨h.kept, fun f hf => hk f (h.frames f hf)⟩

theorem fresh {f : φ} (hf : ok f) : (Place.fresh f).Sound ok :=
  ⟨fun _ => rfl, fun g hg => by simp only [Place.frames, Place.fresh, List.mem_singleton] at hg; exact hg ▸ hf⟩

theorem frame {p : Place φ} (h : p.Sound ok) : ok p.frame := h.frames _ p.frame_mem

theorem offer (h : ∀ p ∈ o, p.Sound ok) {f : φ} (hf : ok f) : ∀ p ∈ Place.offer f o, p.Sound ok := by
  rintro q hq
  cases o with
  | none => exact (Option.mem_some.mp hq) ▸ fresh hf
  | some p =>
    simp only [Place.offer] at hq
    split at hq
    · next hw =>
      obtain rfl := Option.mem_some.mp hq
      refine ⟨fun hn => absurd (hw.symm.trans hn) (by simp), fun g hg => ?_⟩
      simp only [Place.frames, List.mem_cons, List.not_mem_nil, or_false] at hg
      rcases hg with rfl | rfl
      · exact (h p rfl).frame
      · exact hf
    · exact (Option.mem_some.mp hq) ▸ fresh hf

theorem withdraw (h : ∀ p ∈ o, p.Sound ok) : ∀ p ∈ Place.withdraw o, p.Sound ok := by
  rintro q hq
  cases o with
  | none => simp [Place.withdraw] at hq
  | some p =>
    simp only [Place.withdraw] at hq
    split at hq
    · next hw =>
      obtain rfl := Option.mem_some.mp hq
      refine ⟨fun hn => absurd (hw.symm.trans hn) (by simp), fun g hg => ?_⟩
      simp only [Place.frames, List.mem_singleton] at hg
      exact hg ▸ (h p rfl).frame
    · simp at hq

theorem kept_offer {p : Place φ} (h : p.Sound ok) {f : φ} (hk : p.kept = .offer f) : ok f :=
  h.frames f (by simp [Place.frames, hk])

theorem leaveUnsent {p q : Place φ} (h : p.Sound ok) (hq : p.leaveUnsent = some q) : q.Sound ok := by
  unfold Place.leaveUnsent at hq
  split at hq
  · split at hq
    · next hk =>
      obtain rfl := Option.some.inj hq
      exact ⟨fun _ => hk, fun g hg => h.frames g (by simpa [Place.frames, hk] using hg)⟩
    · simp at hq
    · next f hk =>
      obtain rfl := Option.some.inj hq
      exact fresh (h.kept_offer hk)
  · exact (Option.some.inj hq) ▸ h

theorem leaveSent {p q : Place φ} (h : p.Sound ok) (hq : p.leaveSent = some q) : q.Sound ok := by
  unfold Place.leaveSent at hq
  split at hq
  · split at hq
    · simp at hq
    · simp at hq
    · next f hk =>
      obtain rfl := Option.some.inj hq
      exact fresh (h.kept_offer hk)
  · exact (Option.some.inj hq) ▸ h

theorem drive {p : Place φ} (h : p.Sound ok) : p.drive.Sound ok := ⟨fun hn => by simp [Place.drive] at hn, h.frames⟩

end Place.Sound

theorem Place.wires_offer {φ : Type} (f : φ) (o : Option (Place φ)) : Place.wires (Place.offer f o) = Place.wires o := by
  cases o with
  | none => rfl
  | some p => cases hw : p.onWire <;> simp [Place.offer, Place.wires, Place.fresh, hw]

theorem Place.wires_withdraw {φ : Type} (o : Option (Place φ)) : Place.wires (Place.withdraw o) = Place.wires o := by
  cases o with
  | none => rfl
  | some p => cases hw : p.onWire <;> simp [Place.withdraw, Place.wires, hw]

theorem Place.wires_leave {φ : Type} {g : Place φ → Option (Place φ)} (hg : ∀ p q, g p = some q → q.onWire = false)
    (o : Option (Place φ)) : Place.wires (o.bind g) = 0 := by
  refine List.countP_eq_zero.mpr fun q hq => ?_
  simp only [Option.mem_toList, Option.bind_eq_some_iff] at hq
  obtain ⟨p, -, hp⟩ := hq
  simp [hg p q hp]

/-! ## The queue of a station -/

/-- R74, R128, R132: a ROLL frame of this station, up to the join point of a JOIN or ECHO. -/
def State.RollOwn (s : State) (f : RollFrame) : Prop :=
  f.sender = s.pins.address ∧ f.role = s.pins.role ∧ f.count = s.channelCount ∧ f.signature = s.config.signature
    ∧ (f.mode = .call → f.field = 0)

/-- R74: and with it. -/
theorem State.eq_rollFrame {s : State} {f : RollFrame} (h : s.RollOwn f) (hf : f.mode = .call ∨ f.field = s.joinPoint) :
    f = s.rollFrame f.mode := by
  obtain ⟨hs, hr, hc, hg, hfield⟩ := h
  unfold State.rollFrame
  split
  · next hm => rw [← hs, ← hr, ← hc, ← hg, ← hfield hm]
  · next hm => rw [← hs, ← hr, ← hc, ← hg, ← hf.resolve_left hm]

theorem State.rollFrame_own (s : State) (m : RollMode) : s.RollOwn (s.rollFrame m) :=
  ⟨rfl, rfl, rfl, rfl, fun hm => if_pos hm⟩

/-- The laws of the queue, with this many frames on the wire, this state of DAT and this failure count. -/
structure State.Queued (w : Nat) (d : DatState) (n : Nat) (s : State) : Prop where
  numbers : (s.frames.queue.takes.map fun p => p.frame.number.toNat).Sublist (s.agree.pendingTakes.map (·.number))
  takes : ∀ p ∈ s.frames.queue.takes, p.kept = .nothing ∧ p.frame.sender = s.pins.address
  skip : ∀ p ∈ s.frames.queue.skip, p.Sound fun f => f.sender = s.pins.address
  frag : ∀ p ∈ s.frames.queue.frag, p.Sound fun f => f.sender = s.pins.address
  roll : ∀ p ∈ s.frames.queue.roll, p.Sound s.RollOwn
  wires : s.frames.queue.wires = w
  dat : s.frames.dat = d
  failures : s.frames.failures = n

/-- R74: the ROLL frames carry the join point of the moment. -/
abbrev State.RollFresh (s : State) : Prop := ∀ p ∈ s.frames.queue.roll, ∀ f ∈ p.frames, f = s.rollFrame f.mode

theorem State.queueInv_iff {s : State} : s.QueueInv ↔
    s.Queued s.frames.queue.wires s.frames.dat s.frames.failures ∧ s.RollFresh ∧ s.frames.queue.wires ≤ 1
      ∧ (s.frames.dat ≠ .inFrame → s.frames.queue.wires = 0) ∧ s.frames.failures ≤ 8
      ∧ (s.frames.failures = 8 → s.start.station = .mute ∨ s.start.muteAttr = true) := by
  constructor
  · rintro ⟨h1, h2, h3, h4, h5, h6, h7, h8, h9, h10, h11, h12, h13⟩
    refine ⟨⟨h1, fun p hp => ⟨h2 p hp, h10 p hp⟩, fun p hp => ⟨h3 p hp, h11 p hp⟩, fun p hp => ⟨h4 p hp, h12 p hp⟩,
      fun p hp => ⟨h5 p hp, fun f hf => ?_⟩, rfl, rfl, rfl⟩, h13, h6, h7, h8, h9⟩
    rw [h13 p hp f hf]
    exact s.rollFrame_own _
  · rintro ⟨h, h13, h6, h7, h8, h9⟩
    exact ⟨h.numbers, fun p hp => (h.takes p hp).1, fun p hp => (h.skip p hp).kept, fun p hp => (h.frag p hp).kept,
      fun p hp => (h.roll p hp).kept, h6, h7, h8, h9, fun p hp => (h.takes p hp).2, fun p hp => (h.skip p hp).frames,
      fun p hp => (h.frag p hp).frames, h13⟩

theorem Queue.wires_eq (q : Queue) :
    q.wires = q.takes.countP (·.onWire) + Place.wires q.skip + Place.wires q.frag + Place.wires q.roll := rfl

namespace State.Queued

variable {s t : State} {w : Nat} {d : DatState} {n : Nat}

theorem rollOwn_congr (hp : t.pins = s.pins) (hc : t.config = s.config) {f : RollFrame} (h : s.RollOwn f) : t.RollOwn f :=
  by rwa [State.RollOwn, State.channelCount, hp, hc]

/-- An operation that leaves the queue, the pending entries and the station's identity. -/
theorem congr (h : s.Queued w d n) (hf : t.frames = s.frames) (ha : t.agree.pendingTakes = s.agree.pendingTakes)
    (hp : t.pins = s.pins) (hc : t.config = s.config) : t.Queued w d n := by
  refine ⟨?_, ?_, ?_, ?_, fun p hm => ?_, ?_, ?_, ?_⟩
  · rw [hf, ha]; exact h.numbers
  · rw [hf, hp]; exact h.takes
  · rw [hf, hp]; exact h.skip
  · rw [hf, hp]; exact h.frag
  · rw [hf] at hm; exact (h.roll p hm).mono fun _ => rollOwn_congr hp hc
  · rw [hf]; exact h.wires
  · rw [hf]; exact h.dat
  · rw [hf]; exact h.failures

/-! ## SKIP, FRAG and ROLL places -/

theorem setSkip (h : s.Queued w d n) {o : Option (Place SkipFrame)}
    (ho : ∀ p ∈ o, p.Sound fun f => f.sender = s.pins.address) (hw : Place.wires o = Place.wires s.frames.queue.skip) :
    (s.setQueue { s.frames.queue with skip := o }).Queued w d n :=
  { h with
    skip := ho
    wires := by have := h.wires; rw [Queue.wires_eq] at this ⊢; exact hw ▸ this }

theorem setFrag (h : s.Queued w d n) {o : Option (Place FragFrame)}
    (ho : ∀ p ∈ o, p.Sound fun f => f.sender = s.pins.address) (hw : Place.wires o = Place.wires s.frames.queue.frag) :
    (s.setQueue { s.frames.queue with frag := o }).Queued w d n :=
  { h with
    frag := ho
    wires := by have := h.wires; rw [Queue.wires_eq] at this ⊢; exact hw ▸ this }

theorem setRoll (h : s.Queued w d n) {o : Option (Place RollFrame)}
    (ho : ∀ p ∈ o, p.Sound s.RollOwn) (hw : Place.wires o = Place.wires s.frames.queue.roll) :
    (s.setQueue { s.frames.queue with roll := o }).Queued w d n :=
  { h with
    roll := ho
    wires := by have := h.wires; rw [Queue.wires_eq] at this ⊢; exact hw ▸ this }

theorem offerSkip (h : s.Queued w d n) {f : SkipFrame} (hf : f.sender = s.pins.address) : (s.offerSkip f).Queued w d n :=
  h.setSkip (Place.Sound.offer h.skip hf) (Place.wires_offer _ _)

theorem withdrawSkip (h : s.Queued w d n) : s.withdrawSkip.Queued w d n :=
  h.setSkip (Place.Sound.withdraw h.skip) (Place.wires_withdraw _)

theorem offerFrag (h : s.Queued w d n) {f : FragFrame} (hf : f.sender = s.pins.address) : (s.offerFrag f).Queued w d n :=
  h.setFrag (Place.Sound.offer h.frag hf) (Place.wires_offer _ _)

theorem withdrawFrag (h : s.Queued w d n) : s.withdrawFrag.Queued w d n :=
  h.setFrag (Place.Sound.withdraw h.frag) (Place.wires_withdraw _)

theorem offerRoll (h : s.Queued w d n) (m : RollMode) : (s.offerRoll m).Queued w d n := by
  unfold State.offerRoll
  split
  · exact h
  · exact h.setRoll (Place.Sound.offer h.roll (s.rollFrame_own m)) (Place.wires_offer _ _)

theorem withdrawEcho (h : s.Queued w d n) : s.withdrawEcho.Queued w d n := by
  unfold State.withdrawEcho
  split
  · next p hp =>
    split
    · refine h.setRoll (Place.Sound.withdraw fun q hq => h.roll q (hp ▸ hq)) ?_
      rw [Place.wires_withdraw, hp]
    · exact h
  · exact h

theorem refreshRoll (h : s.Queued w d n) : s.refreshRoll.Queued w d n := by
  unfold State.refreshRoll
  split
  · next p hp =>
    split
    · exact h
    · next hc =>
      simp only [Bool.or_eq_true, decide_eq_true_eq, not_or, Bool.not_eq_true] at hc
      have hsound := h.roll p hp
      obtain ⟨hsender, hrole, hcount, hsignature, -⟩ := hsound.frame
      refine h.setRoll (fun q hq => ?_) (by simp [hp, Place.wires])
      obtain rfl := Option.mem_some.mp hq
      refine ⟨hsound.kept, fun f hf => ?_⟩
      simp only [Place.frames, hsound.kept hc.1, List.mem_singleton] at hf
      subst hf
      exact ⟨hsender, hrole, hcount, hsignature, fun hm => absurd hm hc.2⟩
  · exact h

/-- R74: a refresh brings the join point of the moment into every ROLL frame off the wire. -/
theorem refreshRoll_fresh (h : s.Queued w d n) (hf : w = 0 ∨ s.RollFresh) : s.refreshRoll.RollFresh := by
  intro q hq f hfq
  have hframe (m : RollMode) : s.refreshRoll.rollFrame m = s.rollFrame m := by
    simp [State.rollFrame, State.joinPoint, State.channelCount]
  rw [hframe]
  unfold State.refreshRoll at hq
  split at hq
  · next p hp =>
    have hsound := h.roll p hp
    split at hq
    · next hc =>
      obtain rfl : p = q := Option.some.inj (hp.symm.trans hq)
      rcases hf with rfl | hf
      · have hoff : p.onWire = false := by
          have hw := h.wires
          rw [Queue.wires_eq, hp] at hw
          rw [← Bool.not_eq_true]
          intro hon
          simp [Place.wires, hon] at hw
        simp only [hoff, Bool.false_or, decide_eq_true_eq] at hc
        simp only [Place.frames, hsound.kept hoff, List.mem_singleton] at hfq
        subst hfq
        exact State.eq_rollFrame hsound.frame (.inl hc)
      · exact hf p hp f hfq
    · next hc =>
      simp only [Bool.or_eq_true, decide_eq_true_eq, not_or, Bool.not_eq_true] at hc
      obtain rfl : _ = q := Option.some.inj hq
      obtain ⟨hsender, hrole, hcount, hsignature, -⟩ := hsound.frame
      simp only [Place.frames, hsound.kept hc.1, List.mem_singleton] at hfq
      subst hfq
      exact State.eq_rollFrame ⟨hsender, hrole, hcount, hsignature, fun hm => absurd hm hc.2⟩ (.inr rfl)
  · next hp => simp [hp] at hq

/-! ## TAKE frames -/

/-- With nothing on the wire no TAKE frame is. -/
theorem takes_off (h : s.Queued 0 d n) : ∀ p ∈ s.frames.queue.takes, p.onWire = false := by
  have hw := h.wires
  rw [Queue.wires_eq] at hw
  have hz : s.frames.queue.takes.countP (·.onWire) = 0 := by omega
  exact fun p hp => by simpa using List.countP_eq_zero.mp hz p hp

theorem setTakes (h : s.Queued w d n) {l : List (Place TakeFrame)} {x : Agreement}
    (hn : (l.map fun p => p.frame.number.toNat).Sublist (x.pendingTakes.map (·.number)))
    (hl : ∀ p ∈ l, p.kept = .nothing ∧ p.frame.sender = s.pins.address)
    (hw : l.countP (·.onWire) = s.frames.queue.takes.countP (·.onWire)) :
    ((s.setAgree x).setQueue { s.frames.queue with takes := l }).Queued w d n :=
  { h with
    numbers := hn
    takes := hl
    wires := by have := h.wires; rw [Queue.wires_eq] at this ⊢; exact hw ▸ this }

theorem setTakes_off (h : s.Queued 0 d n) {l : List (Place TakeFrame)} {x : Agreement}
    (hn : (l.map fun p => p.frame.number.toNat).Sublist (x.pendingTakes.map (·.number)))
    (hl : ∀ p ∈ l, p.kept = .nothing ∧ p.frame.sender = s.pins.address) (hoff : ∀ p ∈ l, p.onWire = false) :
    ((s.setAgree x).setQueue { s.frames.queue with takes := l }).Queued 0 d n := by
  refine h.setTakes hn hl ?_
  rw [List.countP_eq_zero.mpr fun p hp => by simp [hoff p hp],
    List.countP_eq_zero.mpr fun p hp => by simp [h.takes_off p hp]]

/-- R25, R30: an accepted edge brings a pending entry and its TAKE frame. -/
theorem offerTake (h : s.Queued w d n) {k : Nat} (hk : k ≤ maxEvent) (x : Time) :
    ((s.appendPending k x).offerTake k x).Queued w d n := by
  refine h.setTakes (x := { s.agree with pendingTakes := s.agree.pendingTakes ++ [{ number := k, edgeTime := x }] })
    ?_ (fun p hp => ?_) ?_
  · have hnum : (BitVec.ofNat 32 k).toNat = k := by
      simp only [BitVec.toNat_ofNat]
      unfold maxEvent at hk
      omega
    simp only [List.map_append, List.map_cons, List.map_nil, Place.fresh, State.takeFrame, hnum]
    exact h.numbers.append (List.Sublist.refl _)
  · rcases List.mem_append.mp hp with hp | hp
    · exact h.takes p hp
    · rw [List.mem_singleton.mp hp]
      exact ⟨rfl, rfl⟩
  · simp [Place.fresh]

/-- R30: off the wire a TAKE frame that is withdrawn is gone. -/
theorem withdrawTake_takes (hoff : ∀ p ∈ s.frames.queue.takes, p.onWire = false) (k : Nat) :
    (s.withdrawTake k).frames.queue.takes = s.frames.queue.takes.filter fun p => p.frame.number.toNat ≠ k := by
  unfold State.withdrawTake
  simp only [State.setQueue_frames]
  rw [← List.filterMap_eq_filter]
  refine List.filterMap_congr fun p hp => ?_
  by_cases hk : p.frame.number.toNat = k <;> simp [hk, Place.withdraw, hoff p hp, Option.guard]

/-- R34: the oldest entry and its TAKE frame go together. -/
theorem answer (h : s.Queued 0 d n) {p : PendingTake} {rest : List PendingTake} (hp : s.agree.pendingTakes = p :: rest)
    (x : Time) : (s.answer p.number x).Queued 0 d n := by
  have hoff := h.takes_off
  have hleft : ((s.setAgree { s.agree with pendingTakes := rest }).setQueue { s.frames.queue with
      takes := s.frames.queue.takes.filter fun q => q.frame.number.toNat ≠ p.number }).Queued 0 d n := by
    refine h.setTakes_off (x := { s.agree with pendingTakes := rest }) ?_ (fun q hq => h.takes q (List.mem_filter.mp hq).1)
      fun q hq => hoff q (List.mem_filter.mp hq).1
    have hnumbers := h.numbers.filter fun k => k ≠ p.number
    rw [hp, List.map_cons, List.filter_cons_of_neg (by simp), List.filter_map] at hnumbers
    exact hnumbers.trans List.filter_sublist
  have hwithdrawn : ((s.setAgree { s.agree with pendingTakes := rest }).withdrawTake p.number).Queued 0 d n := by
    have hq : (s.setAgree { s.agree with pendingTakes := rest }).withdrawTake p.number
        = (s.setAgree { s.agree with pendingTakes := rest }).setQueue { s.frames.queue with
          takes := s.frames.queue.takes.filter fun q => q.frame.number.toNat ≠ p.number } := by
      rw [← withdrawTake_takes (s := s) hoff]
      rfl
    rw [hq]
    exact hleft
  unfold State.answer
  rw [hp]
  exact hwithdrawn.congr (by simp) (by simp) (by simp) (by simp)

/-- R30: off the wire a TAKE frame that is shifted is replaced, or gone. -/
theorem shiftTakes_takes (h : s.Queued 0 d n) (shift : Nat → Option Nat) :
    (s.shiftTakes shift).frames.queue.takes = s.frames.queue.takes.filterMap fun p =>
      (shift p.frame.number.toNat).map fun k => { p with frame := { p.frame with number := BitVec.ofNat 32 k } } := by
  refine List.filterMap_congr fun p hp => ?_
  have hoff := h.takes_off p hp
  cases hs : shift p.frame.number.toNat with
  | none => simp [Place.withdraw, hoff]
  | some k => simp [Place.offer, hoff, Place.fresh, (h.takes p hp).1]

/-- R35: entries and TAKE frames are shifted together. -/
theorem renumber (h : s.Queued 0 d n) (oldest k : Nat) : (s.renumber oldest k).Queued 0 d n := by
  have htakes := h.shiftTakes_takes (shiftNumber oldest k)
  have hshifted : ((s.setAgree { s.agree with pendingTakes := shiftPending oldest k s.agree.pendingTakes }).shiftTakes
      (shiftNumber oldest k)).Queued 0 d n := by
    have hq : (s.setAgree { s.agree with pendingTakes := shiftPending oldest k s.agree.pendingTakes }).shiftTakes
          (shiftNumber oldest k)
        = (s.setAgree { s.agree with pendingTakes := shiftPending oldest k s.agree.pendingTakes }).setQueue
          { s.frames.queue with takes := (s.shiftTakes (shiftNumber oldest k)).frames.queue.takes } := rfl
    rw [hq, htakes]
    refine h.setTakes_off (x := { s.agree with pendingTakes := shiftPending oldest k s.agree.pendingTakes }) ?_
      (fun q hq => ?_) fun q hq => ?_
    · have hnumbers := h.numbers.filterMap (shiftNumber oldest k)
      have hleft : ((s.frames.queue.takes.filterMap fun p => (shiftNumber oldest k p.frame.number.toNat).map fun j =>
            ({ p with frame := { p.frame with number := BitVec.ofNat 32 j } } : Place TakeFrame)).map
              fun p => p.frame.number.toNat)
          = (s.frames.queue.takes.map fun p => p.frame.number.toNat).filterMap (shiftNumber oldest k) := by
        rw [List.map_filterMap, List.filterMap_map]
        refine List.filterMap_congr fun p _ => ?_
        cases hs : shiftNumber oldest k p.frame.number.toNat with
        | none => simp [hs]
        | some j =>
          have hj := (shiftNumber_eq_some.mp hs)
          have hlt : j < 4294967296 := by unfold maxEvent at hj; omega
          simpa [hs] using hlt
      have hright : (shiftPending oldest k s.agree.pendingTakes).map (·.number)
          = (s.agree.pendingTakes.map (·.number)).filterMap (shiftNumber oldest k) := by
        rw [shiftPending, List.map_filterMap, List.filterMap_map]
        refine List.filterMap_congr fun p _ => ?_
        cases hs : shiftNumber oldest k p.number <;> simp [hs]
      rw [hleft, hright]
      exact hnumbers
    · obtain ⟨p, hp, hq⟩ := List.mem_filterMap.mp hq
      obtain ⟨j, -, rfl⟩ := Option.map_eq_some_iff.mp hq
      exact h.takes p hp
    · obtain ⟨p, hp, hq⟩ := List.mem_filterMap.mp hq
      obtain ⟨j, -, rfl⟩ := Option.map_eq_some_iff.mp hq
      exact h.takes_off p hp
  have hevn (t : State) (ht : t.Queued 0 d n) : (t.shiftEvn oldest k s.agree.pendingTakes).Queued 0 d n := by
    refine ht.congr (by simp) ?_ (by simp) (by simp)
    unfold State.shiftEvn
    (repeat' split) <;> simp [State.becomeExhausted]
  unfold State.renumber
  exact State.Queued.congr (hevn _ (hshifted.congr (by simp) (by simp) (by simp) (by simp))) rfl rfl rfl rfl

/-- R35: after a renumbering the oldest pending number is the received one. -/
theorem renumber_pending {p : PendingTake} {l : List PendingTake} (hl : s.agree.pendingTakes = p :: l) {k : Nat}
    (hk : k ≤ maxEvent) : ∃ rest, (s.renumber p.number k).agree.pendingTakes = { p with number := k } :: rest := by
  have hshift : shiftPending p.number k s.agree.pendingTakes = { p with number := k } :: shiftPending p.number k l := by
    have hsome : shiftNumber p.number k p.number = some k := by
      rw [shiftNumber_eq_some]
      omega
    rw [hl, shiftPending, List.filterMap_cons, hsome]
    rfl
  refine ⟨shiftPending p.number k l, ?_⟩
  rw [← hshift]
  unfold State.renumber
  simp only [State.bump_frame]
  unfold State.shiftEvn
  (repeat' split) <;> simp [State.becomeExhausted]

theorem matchTake (h : s.Queued 0 d n) {k : Nat} (hk : k ≤ maxEvent) (x : Time) : (s.matchTake k x).Queued 0 d n := by
  unfold State.matchTake
  split
  · exact h
  · split
    · refine h.congr (by simp) ?_ (by simp) (by simp)
      unfold State.catchUp
      (repeat' split) <;> simp [State.becomeExhausted]
    · next p l hl =>
      split
      · next he => exact he ▸ h.answer hl x
      · obtain ⟨rest, hrest⟩ := renumber_pending hl hk
        exact (h.renumber p.number k).answer hrest x

theorem handleTake (h : s.Queued 0 d n) {k : Nat} (hk : k ≤ maxEvent) (x : Time) : (s.handleTake k x).Queued 0 d n := by
  unfold State.handleTake
  split
  · refine h.congr (by simp) ?_ (by simp) (by simp)
    unfold State.fillTake
    split <;> simp
  · split
    · exact h.congr (by simp) (by simp) (by simp) (by simp)
    · split
      · refine State.Queued.matchTake (h.congr (by simp) ?_ (by simp) (by simp)) hk x
        unfold State.refuseTake
        split <;> simp
      · exact State.Queued.matchTake (h.congr (by simp) (by simp [State.appendTake]) (by simp) (by simp)) hk x

/-! ## The turn unit and the settling -/

theorem setTurn (h : s.Queued w d n) (x : Turn) : (s.setTurn x).Queued w d n := h.congr rfl rfl rfl rfl

theorem dropSkip (h : s.Queued w d n) : s.dropSkip.Queued w d n := by
  unfold State.dropSkip
  split
  · exact h.withdrawSkip
  · exact h

theorem evalTimer (h : s.Queued w d n) : s.evalTimer.Queued w d n := by
  unfold State.evalTimer
  refine setTurn ?_ _
  split
  · exact h
  · exact h.dropSkip

theorem stopTimer (h : s.Queued w d n) : s.stopTimer.Queued w d n := h.dropSkip.setTurn _

theorem reassess (h : s.Queued w d n) : s.reassess.Queued w d n :=
  evalTimer (h.congr (by simp) (by simp) (by simp) (by simp))

/-- R128: a part due is the station's own. -/
theorem duePart_sender {k : Nat} {f : FragFrame} (hf : s.duePart k = some f) : f.sender = s.pins.address := by
  unfold State.duePart at hf
  split at hf
  · exact (Option.some.inj hf) ▸ rfl
  · split at hf
    · simp at hf
    · exact (Option.some.inj hf) ▸ rfl

theorem offerParts (h : s.Queued w d n) : s.offerParts.Queued w d n := by
  unfold State.offerParts
  split
  · exact h.withdrawFrag
  · split
    · exact h.withdrawFrag
    · next f hf =>
      split
      · exact h
      · exact (h.offerFrag (duePart_sender hf)).congr (by simp) (by simp) (by simp) (by simp)

/-- R88, R74: the settling keeps the queue's laws, and its ROLL frames leave it with the join point of the moment. -/
theorem settle (h : s.Queued w d n) (hf : w = 0 ∨ s.RollFresh) (l : List Addr) :
    (s.settle l).Queued w d n ∧ (s.settle l).RollFresh := by
  have hoffered : s.reassess.offerParts.Queued w d n := h.reassess.offerParts
  have hfresh : w = 0 ∨ s.reassess.offerParts.RollFresh := hf.imp_right fun hf p hp f hfp => by
    have hframe : s.reassess.offerParts.rollFrame f.mode = s.rollFrame f.mode := by
      simp [State.rollFrame, State.joinPoint, State.channelCount]
    rw [hframe]
    exact hf p (by simpa using hp) f hfp
  refine ⟨hoffered.refreshRoll.congr (by simp [State.settle]) (by simp [State.settle]) (by simp [State.settle])
    (by simp [State.settle]), fun p hp f hfp => ?_⟩
  have hframe : (s.settle l).rollFrame f.mode = s.reassess.offerParts.refreshRoll.rollFrame f.mode := by
    simp [State.rollFrame, State.joinPoint, State.channelCount]
  rw [hframe]
  exact hoffered.refreshRoll_fresh hfresh p (by simpa [State.settle] using hp) f hfp

/-! ## FRAG parts and SKIPs -/

theorem hearEvent (h : s.Queued w d n) (k : Nat) : (s.hearEvent k).Queued w d n := by
  refine h.congr (by simp) ?_ (by simp) (by simp)
  unfold State.hearEvent State.impliedTake State.raiseHighTake State.refuseTake
  (repeat' split) <;> simp

theorem hearMember (h : s.Queued w d n) (m : Addr) (k : Nat) : (s.hearMember m k).Queued w d n :=
  reassess (h.congr (by simp) (by simp) (by simp) (by simp))

theorem countPart (h : s.Queued w d n) (m : Addr) (k : Nat) : (s.countPart m k).Queued w d n := by
  unfold State.countPart
  dsimp only
  split
  · split
    · exact h.setTurn _
    · exact h.setTurn _
    · exact h.withdrawSkip.setTurn _
  · exact h

theorem currentPart (h : s.Queued w d n) (f : FragFrame) : (s.currentPart f).Queued w d n := by
  have hpassed : (s.passImplied f.sender f.number.toNat).Queued w d n := h.congr (by simp) (by simp) (by simp) (by simp)
  unfold State.currentPart
  dsimp only
  split
  · exact reassess (hpassed.congr (by simp) (by simp) (by simp) (by simp))
  · exact hpassed.reassess.countPart _ _

theorem handleFrag (h : s.Queued w d n) (own : Bool) (f : FragFrame) : (s.handleFrag own f).Queued w d n := by
  have hheard := (h.hearEvent f.number.toNat).hearMember f.sender f.number.toNat
  have hstored {t : State} (ht : t.Queued w d n) : (if own then t.storePart f else t).Queued w d n := by
    split
    · exact ht.congr (by simp) (by simp) (by simp) (by simp)
    · exact ht
  have hbuilt {t : State} {stamp : Option Time} (b : Bool) (ht : t.Queued w d n) :
      (if b then t.buildFrame f.number.toNat stamp (State.applyPart f) else t).Queued w d n := by
    split
    · exact ht.congr (by simp) (by simp) (by simp) (by simp)
    · exact ht
  unfold State.handleFrag
  dsimp only
  split
  · exact h
  · refine hbuilt _ (hstored ?_)
    split
    · exact hheard
    · split
      · exact hheard.congr (by simp) (by simp) (by simp) (by simp)
      · exact hheard.currentPart f

theorem enterSilenced (h : s.Queued w d n) : s.enterSilenced.Queued w d n := by
  have hstored : ((s.setStation .silenced).setStore Store.empty).Queued w d n := h.congr rfl rfl rfl rfl
  exact hstored.withdrawFrag.withdrawSkip.setTurn _

theorem ownSilence (h : s.Queued w d n) (k : Nat) : (s.ownSilence k).Queued w d n := by
  have hraised : (s.raise .silenced k).Queued w d n := h.congr (by simp) (by simp) (by simp) (by simp)
  unfold State.ownSilence
  dsimp only
  refine offerRoll ?_ _
  split
  · exact hraised.enterSilenced
  · exact hraised

theorem withdrawSkipFor (h : s.Queued w d n) (m : Addr) : (s.withdrawSkipFor m).Queued w d n := by
  unfold State.withdrawSkipFor
  split
  · split
    · exact h.stopTimer
    · exact h
  · exact h

theorem skipTurn (h : s.Queued w d n) (m : Addr) (k : Nat) : (s.skipTurn m k).Queued w d n := by
  have hmissed : (s.missTurn m k).Queued w d n := h.congr (by simp) (by simp) (by simp) (by simp)
  unfold State.skipTurn
  dsimp only
  split
  · have hdropped : (((s.missTurn m k).withdrawSkipFor m).dropRecord k).Queued w d n :=
      (hmissed.withdrawSkipFor m).congr (by simp) (by simp) (by simp) (by simp)
    split
    · exact hdropped.ownSilence k
    · exact hdropped
  · exact hmissed.withdrawSkipFor m

theorem handleSkip (h : s.Queued w d n) (own : Bool) (f : SkipFrame) : (s.handleSkip own f).Queued w d n := by
  have hheard : (s.skipHeard own f).Queued w d n := by
    have hmember := (h.hearEvent f.number.toNat).hearMember f.subject f.number.toNat
    unfold State.skipHeard
    split
    · exact hmember.congr (by simp) (by simp) (by simp) (by simp)
    · exact hmember
  cases ht : s.tracks
  · simpa [State.handleSkip, ht] using h
  · rw [State.handleSkip_of_tracks own f ht]
    split
    · have hskipped := (hheard.skipTurn f.subject f.number.toNat).reassess
      exact hskipped.congr (by simp) (by simp) (by simp) (by simp)
    · exact hheard

/-! ## ROLL frames and the changes of the station's state -/

theorem mismatch (h : s.Queued w d n) (f : RollFrame) : (s.mismatch f).Queued w d n :=
  h.congr (by simp) (by simp) (by simp) (by simp)

theorem hearRoll (h : s.Queued w d n) (a : Addr) (g : RosterEntry → RosterEntry) : (s.hearRoll a g).Queued w d n :=
  h.congr (by simp) (by simp) (by simp) (by simp)

theorem offerEcho (h : s.Queued w d n) : s.offerEcho.Queued w d n := by
  unfold State.offerEcho
  split
  · exact h.offerRoll _
  · exact h

theorem raiseHighTake (h : s.Queued w d n) (k : Nat) : (s.raiseHighTake k).Queued w d n := by
  refine h.congr (by simp) ?_ (by simp) (by simp)
  unfold State.raiseHighTake
  split <;> simp

theorem otherRoll (h : s.Queued w d n) (f : RollFrame) : (s.otherRoll f).Queued w d n := by
  unfold State.otherRoll
  split
  · dsimp only
    split
    · exact (h.mismatch f).offerEcho
    · exact h.mismatch f
  · split
    · exact (h.hearRoll _ _).offerEcho
    · exact (h.raiseHighTake _).hearRoll _ _
    · exact ((h.raiseHighTake _).hearRoll _ _).withdrawEcho

theorem ownRoll (h : s.Queued w d n) (f : RollFrame) : (s.ownRoll f).Queued w d n := by
  unfold State.ownRoll
  split
  · exact h
  · unfold State.ownJoin State.joinEvn
    dsimp only
    (repeat' split) <;> exact h.congr (by simp) (by simp [State.becomeExhausted]) (by simp) (by simp)
  · exact h.congr (by simp) (by simp) (by simp) (by simp)

/-- R185, R179: JOINING and ROLLCALL are entered with no pending entry, and each offers its ROLL frame. -/
theorem enterJoining (h : s.Queued w d n) (hp : s.agree.pendingTakes = []) : s.enterJoining.Queued w d n := by
  unfold State.enterJoining
  refine offerRoll ?_ _
  exact h.congr rfl hp.symm rfl rfl

theorem enterRollcall (h : s.Queued w d n) (hp : s.agree.pendingTakes = []) : s.enterRollcall.Queued w d n := by
  unfold State.enterRollcall
  refine offerRoll ?_ _
  exact h.congr rfl hp.symm rfl rfl

theorem handleRoll (h : s.Queued w d n) (hfits : s.Fits) (own : Bool) (f : RollFrame) :
    (s.handleRoll own f).Queued w d n := by
  unfold State.handleRoll
  split
  · next hs =>
    have hpending : s.agree.pendingTakes = [] := by rw [hfits.agree (.inr (.inl hs))]; rfl
    exact State.rollcallRoll_cases (P := State.Queued w d n) own f s (stays := h)
      (called := fun _ _ => h.congr rfl rfl rfl rfl) (marked := fun _ => h.mismatch f)
      (present := fun _ _ => h.hearRoll _ _)
      (joins := fun _ _ => (h.mismatch f).enterJoining (by simpa using hpending))
      (echoed := fun _ _ => (h.enterJoining hpending).otherRoll f)
  · split
    · exact h
    · split
      · exact h.ownRoll f
      · exact h.otherRoll f

theorem giveOwners (h : s.Queued 0 d n) (hfits : s.Fits) (own : Bool) (f : Frame) : (s.giveOwners own f).Queued 0 d n := by
  unfold State.giveOwners
  split
  · split
    · exact h.handleTake (by unfold maxEvent; omega) _
    · exact h
  · exact h.handleFrag own _
  · exact h.handleSkip own _
  · exact h.handleRoll hfits own _

theorem leaveListening (h : s.Queued w d n) (hfits : s.Fits) (f : Frame) : (s.leaveListening f).Queued w d n := by
  unfold State.leaveListening
  split
  · next hl =>
    have hpending : s.agree.pendingTakes = [] := by rw [hfits.agree (.inl (.inr (.inr hl)))]; rfl
    split
    · split
      · exact h.enterRollcall hpending
      · exact h.enterJoining hpending
    all_goals exact h.enterJoining hpending
  · exact h

/-- An empty queue obeys its laws. -/
theorem of_empty (hq : s.frames.queue = Queue.empty) : s.Queued 0 s.frames.dat s.frames.failures := by
  refine ⟨?_, ?_, ?_, ?_, ?_, by rw [hq]; rfl, rfl, rfl⟩ <;> simp [hq, Queue.empty]

theorem fresh_of_empty (hq : s.frames.queue = Queue.empty) : s.RollFresh := by
  intro p hp
  simp [hq, Queue.empty] at hp

/-- R86, R142: a station that gives up sending has an empty queue. -/
theorem giveUpSending_frames (s : State) : s.giveUpSending.frames = { s.frames with queue := Queue.empty } := by
  unfold State.giveUpSending
  split
  · simp [State.enterMute]
  · simp [State.takeMuteAttr]

/-! ## The end of a frame -/

/-- What stays of the TAKE frames keeps their numbers. -/
theorem filterMap_map_sublist {α β : Type} {g : α → Option α} {v : α → β} {l : List α}
    (hg : ∀ a ∈ l, ∀ b, g a = some b → v b = v a) : ((l.filterMap g).map v).Sublist (l.map v) := by
  induction l with
  | nil => exact List.Sublist.refl _
  | cons a l ih =>
    have ih := ih fun x hx => hg x (List.mem_cons_of_mem _ hx)
    rw [List.filterMap_cons, List.map_cons]
    cases ha : g a with
    | none => exact ih.trans (List.sublist_cons_self _ _)
    | some b => simpa [hg a List.mem_cons_self b ha] using ih

/-- A frame leaves the wire: what stands in the places then is off it, and as sound as before. -/
theorem leave (h : s.Queued w d n) {q : Queue}
    (htakes : ∃ g, q.takes = s.frames.queue.takes.filterMap g ∧ ∀ p r : Place TakeFrame, g p = some r →
      r.onWire = false ∧ (p.kept = .nothing → r.kept = .nothing ∧ r.frame = p.frame))
    (hskip : ∀ r ∈ q.skip, ∃ p ∈ s.frames.queue.skip, r.onWire = false ∧ ∀ ok, p.Sound ok → r.Sound ok)
    (hfrag : ∀ r ∈ q.frag, ∃ p ∈ s.frames.queue.frag, r.onWire = false ∧ ∀ ok, p.Sound ok → r.Sound ok)
    (hroll : ∀ r ∈ q.roll, ∃ p ∈ s.frames.queue.roll, r.onWire = false ∧ ∀ ok, p.Sound ok → r.Sound ok) :
    (s.setQueue q).Queued 0 d n := by
  obtain ⟨g, hq, hg⟩ := htakes
  have hoff {φ : Type} {o : Option (Place φ)} (ho : ∀ r ∈ o, r.onWire = false) : Place.wires o = 0 :=
    List.countP_eq_zero.mpr fun r hr => by simp [ho r (by simpa using hr)]
  refine ⟨?_, fun r hr => ?_, fun r hr => ?_, fun r hr => ?_, fun r hr => ?_, ?_, h.dat, h.failures⟩
  · refine List.Sublist.trans ?_ h.numbers
    simp only [State.setQueue_frames, hq]
    refine filterMap_map_sublist fun p hp r hr => ?_
    rw [((hg p r hr).2 (h.takes p hp).1).2]
  · simp only [State.setQueue_frames, hq] at hr
    obtain ⟨p, hp, hr⟩ := List.mem_filterMap.mp hr
    obtain ⟨hkept, hframe⟩ := (hg p r hr).2 (h.takes p hp).1
    exact ⟨hkept, hframe ▸ (h.takes p hp).2⟩
  · obtain ⟨p, hp, -, hs⟩ := hskip r hr
    exact hs _ (h.skip p hp)
  · obtain ⟨p, hp, -, hs⟩ := hfrag r hr
    exact hs _ (h.frag p hp)
  · obtain ⟨p, hp, -, hs⟩ := hroll r hr
    exact hs _ (h.roll p hp)
  · have htakes : q.takes.countP (·.onWire) = 0 := by
      refine List.countP_eq_zero.mpr fun r hr => ?_
      rw [hq] at hr
      obtain ⟨p, -, hr⟩ := List.mem_filterMap.mp hr
      simp [(hg p r hr).1]
    simp only [State.setQueue_frames, Queue.wires_eq, htakes,
      hoff fun r hr => (hskip r hr).choose_spec.2.1, hoff fun r hr => (hfrag r hr).choose_spec.2.1,
      hoff fun r hr => (hroll r hr).choose_spec.2.1]

theorem leaves_unsent {φ : Type} {o : Option (Place φ)} : ∀ r ∈ o.bind Place.leaveUnsent,
    ∃ p ∈ o, r.onWire = false ∧ ∀ ok, p.Sound ok → r.Sound ok := by
  intro r hr
  obtain ⟨p, hp, hr⟩ := Option.bind_eq_some_iff.mp hr
  exact ⟨p, hp, Place.leaveUnsent_onWire hr, fun _ h => h.leaveUnsent hr⟩

theorem leaves_sent {φ : Type} {o : Option (Place φ)} : ∀ r ∈ o.bind Place.leaveSent,
    ∃ p ∈ o, r.onWire = false ∧ ∀ ok, p.Sound ok → r.Sound ok := by
  intro r hr
  obtain ⟨p, hp, hr⟩ := Option.bind_eq_some_iff.mp hr
  exact ⟨p, hp, Place.leaveSent_onWire hr, fun _ h => h.leaveSent hr⟩

theorem leaveWire (h : s.Queued w d n) : s.leaveWire.Queued 0 d n ∧ s.leaveWire.RollFresh := by
  have hleft : (s.setQueue s.frames.queue.leaveUnsent).Queued 0 d n := by
    refine h.leave ⟨Place.leaveUnsent, rfl, fun p r hr => ⟨Place.leaveUnsent_onWire hr, fun hk => ?_⟩⟩
      leaves_unsent leaves_unsent leaves_unsent
    unfold Place.leaveUnsent at hr
    rw [hk] at hr
    split at hr
    · obtain rfl := Option.some.inj hr
      exact ⟨rfl, rfl⟩
    · obtain rfl := Option.some.inj hr
      exact ⟨hk, rfl⟩
  exact ⟨hleft.refreshRoll, hleft.refreshRoll_fresh (.inl rfl)⟩

theorem leaveSent (h : s.Queued w d n) : (s.setQueue s.frames.queue.leaveSent).Queued 0 d n := by
  refine h.leave ⟨Place.leaveSent, rfl, fun p r hr => ⟨Place.leaveSent_onWire hr, fun hk => ?_⟩⟩
    leaves_sent leaves_sent leaves_sent
  unfold Place.leaveSent at hr
  rw [hk] at hr
  split at hr
  · simp at hr
  · obtain rfl := Option.some.inj hr
    exact ⟨hk, rfl⟩

/-- R139: a frame kept for the ROLL place has the join point of the moment. -/
theorem leaveSent_fresh (h : s.Queued w d n) (hf : s.RollFresh) : (s.setQueue s.frames.queue.leaveSent).RollFresh := by
  intro r hr f hfr
  obtain ⟨p, hp, -, hs⟩ := leaves_sent r hr
  exact (hs (fun g => g = s.rollFrame g.mode) ⟨(h.roll p hp).kept, hf p hp⟩).frames f hfr

/-- Another state of DAT or failure count. -/
theorem setDat (h : s.Queued w d n) (d' : DatState) (n' : Nat) :
    (s.setFrames { s.frames with dat := d', failures := n' }).Queued w d' n' :=
  { h with dat := rfl, failures := rfl }

theorem setDatOnly (h : s.Queued w d n) (d' : DatState) : (s.setFrames { s.frames with dat := d' }).Queued w d' n :=
  { h with dat := rfl }

theorem endOther (h : s.Queued w d n) : s.endOther.Queued 0 .busy n ∧ s.endOther.RollFresh :=
  ⟨h.leaveWire.1.setDatOnly .busy, h.leaveWire.2⟩

theorem endOwn (h : s.Queued w d n) (hf : s.RollFresh) : s.endOwn.Queued 0 .busy 0 ∧ s.endOwn.RollFresh :=
  ⟨h.leaveSent.setDat .busy 0, h.leaveSent_fresh hf⟩

theorem clashCheck (h : s.Queued 0 d n) (hf : s.RollFresh) (own : Bool) (f : Frame) :
    (s.clashCheck own f).Queued 0 d n ∧ (s.clashCheck own f).RollFresh := by
  refine State.clashCheck_cases (P := fun t => t.Queued 0 d n ∧ t.RollFresh) own f ⟨h, hf⟩ fun _ _ _ => ?_
  have hframes := giveUpSending_frames (s.raise .addressClash (frameField f).toNat)
  have hempty := of_empty (s := (s.raise .addressClash (frameField f).toNat).giveUpSending) (by rw [hframes])
  rw [show (s.raise .addressClash (frameField f).toNat).giveUpSending.frames.dat = d by rw [hframes]; simpa using h.dat,
    show (s.raise .addressClash (frameField f).toNat).giveUpSending.frames.failures = n by
      rw [hframes]; simpa using h.failures] at hempty
  exact ⟨hempty, fresh_of_empty (by rw [hframes])⟩

theorem handleFrame (h : s.Queued 0 d n) (hf : s.RollFresh) (hfits : s.Fits) (hrst : s.pins.rst = false)
    (hu : s.unloaded = false) (own : Bool) (f : Frame) :
    (s.handleFrame own f).Queued 0 d n ∧ (s.handleFrame own f).RollFresh := by
  have hchecked := h.clashCheck hf own f
  refine hfits.handleFrame_cases (P := fun t => t.Queued 0 d n ∧ t.RollFresh) hrst hu own f hchecked
    fun _ t ht htfits _ => settle (State.Queued.giveOwners ?_ htfits own f) (.inl rfl) _
  exact ht ▸ hchecked.1.leaveListening (hfits.clashCheck hrst own f) f

theorem received (h : s.Queued w d n) (hf : s.RollFresh) (hfits : s.Fits) (ht : s.takesFrame = true) (f : Frame) :
    ((s.received f).Queued 0 .busy 0 ∨ (s.received f).Queued 0 .busy n) ∧ (s.received f).RollFresh := by
  refine hfits.received_cases (P := fun t => (t.Queued 0 .busy 0 ∨ t.Queued 0 .busy n) ∧ t.RollFresh) ht f ?_ ?_
  · intro _ he hrst hu
    obtain ⟨hq, hfresh⟩ := h.endOwn hf
    obtain ⟨hq, hfresh⟩ := hq.handleFrame hfresh he hrst hu true f
    exact ⟨.inl hq, hfresh⟩
  · intro _ he hrst hu
    obtain ⟨hq, hfresh⟩ := h.endOther
    obtain ⟨hq, hfresh⟩ := hq.handleFrame hfresh he hrst hu false f
    exact ⟨.inr hq, hfresh⟩

/-! ## Contention (R137) -/

theorem driveTake_map {α : Type} (v : Place TakeFrame → α) (hv : ∀ p, v { p with onWire := true } = v p) (k : Nat)
    (l : List (Place TakeFrame)) : (driveTake k l).map v = l.map v := by
  induction l with
  | nil => rfl
  | cons p l ih =>
    unfold driveTake
    split
    · simp [hv]
    · simp [ih]

theorem driveTake_wires (k : Nat) (l : List (Place TakeFrame)) :
    (driveTake k l).countP (·.onWire) ≤ l.countP (·.onWire) + 1 := by
  induction l with
  | nil => simp [driveTake]
  | cons p l ih =>
    unfold driveTake
    split
    · simp only [List.countP_cons]
      split <;> omega
    · simp only [List.countP_cons]
      omega

theorem wires_drive {φ : Type} (p : Place φ) : Place.wires (some p.drive) ≤ 1 := by
  simp [Place.wires, Place.drive]

/-- R137: one frame goes on the wire, and stays as it was. -/
theorem takePart (h : s.Queued 0 d n) (hf : s.RollFresh) :
    ∃ w ≤ 1, s.takePart.Queued w .inFrame n ∧ s.takePart.RollFresh := by
  have hw := h.wires
  rw [Queue.wires_eq] at hw
  have keeps {q : Queue} (hn : (q.takes.map fun p => p.frame.number.toNat) = s.frames.queue.takes.map fun p => p.frame.number.toNat)
      (ht : ∀ p ∈ q.takes, ∃ r ∈ s.frames.queue.takes, p.kept = r.kept ∧ p.frame = r.frame)
      (hs : q.skip = s.frames.queue.skip ∨ q.skip = s.frames.queue.skip.map Place.drive)
      (hg : q.frag = s.frames.queue.frag ∨ q.frag = s.frames.queue.frag.map Place.drive)
      (hr : q.roll = s.frames.queue.roll ∨ q.roll = s.frames.queue.roll.map Place.drive) (hle : q.wires ≤ 1) :
      ∃ w ≤ 1, (s.setFrames { s.frames with queue := q, dat := .inFrame }).Queued w .inFrame n
        ∧ (s.setFrames { s.frames with queue := q, dat := .inFrame }).RollFresh := by
    have driven {φ : Type} {ok : φ → Prop} {o o' : Option (Place φ)} (ho : o' = o ∨ o' = o.map Place.drive)
        (hk : ∀ p ∈ o, p.Sound ok) : ∀ p ∈ o', p.Sound ok := by
      rcases ho with rfl | rfl
      · exact hk
      · intro p hp
        obtain ⟨r, hr, rfl⟩ := Option.map_eq_some_iff.mp hp
        exact (hk r hr).drive
    refine ⟨q.wires, hle, ⟨hn ▸ h.numbers, fun p hp => ?_, driven hs h.skip, driven hg h.frag, driven hr h.roll, rfl, rfl,
      h.failures⟩, fun p hp f hfp => ?_⟩
    · obtain ⟨r, hr, hkept, hframe⟩ := ht p hp
      rw [hkept, hframe]
      exact h.takes r hr
    · have hsound : ∀ p ∈ s.frames.queue.roll, p.Sound fun f => f = s.rollFrame f.mode :=
        fun p hp => ⟨(h.roll p hp).kept, hf p hp⟩
      exact (driven hr hsound p hp).frames f hfp
  have same : ∀ p ∈ s.frames.queue.takes, ∃ r ∈ s.frames.queue.takes, p.kept = r.kept ∧ p.frame = r.frame :=
    fun p hp => ⟨p, hp, rfl, rfl⟩
  unfold State.takePart Queue.driveSelected
  split
  · next k _ =>
    refine keeps (driveTake_map _ (fun _ => rfl) _ _) (fun p hp => ?_) (.inl rfl) (.inl rfl) (.inl rfl) ?_
    · have hmem : (p.kept, p.frame) ∈ (driveTake k s.frames.queue.takes).map fun p => (p.kept, p.frame) :=
        List.mem_map_of_mem hp
      rw [driveTake_map (fun p => (p.kept, p.frame)) fun _ => rfl] at hmem
      obtain ⟨r, hr, he⟩ := List.mem_map.mp hmem
      obtain ⟨hkept, hframe⟩ := Prod.mk.inj he
      exact ⟨r, hr, hkept.symm, hframe.symm⟩
    · have := driveTake_wires k s.frames.queue.takes
      rw [Queue.wires_eq]
      dsimp only
      omega
  · next p _ hp =>
    refine keeps rfl same (.inr (by rw [hp]; rfl)) (.inl rfl) (.inl rfl) ?_
    have := wires_drive p
    rw [Queue.wires_eq]
    dsimp only
    omega
  · next p _ _ hp =>
    refine keeps rfl same (.inl rfl) (.inr (by rw [hp]; rfl)) (.inl rfl) ?_
    have := wires_drive p
    rw [Queue.wires_eq]
    dsimp only
    omega
  · next p _ _ _ hp =>
    refine keeps rfl same (.inl rfl) (.inl rfl) (.inr (by rw [hp]; rfl)) ?_
    have := wires_drive p
    rw [Queue.wires_eq]
    dsimp only
    omega
  · exact keeps rfl same (.inl rfl) (.inl rfl) (.inl rfl) (by rw [h.wires]; omega)

/-! ## The other events -/

theorem startFrame (h : s.Queued 0 d n) (hf : s.RollFresh) :
    ∃ w ≤ 1, ∃ d', s.startFrame.Queued w d' n ∧ s.startFrame.RollFresh ∧ (d' ≠ .inFrame → w = 0) := by
  obtain ⟨w, hw, htaken, hfresh⟩ := h.takePart hf
  have taken : ∃ w ≤ 1, ∃ d', s.takePart.Queued w d' n ∧ s.takePart.RollFresh ∧ (d' ≠ .inFrame → w = 0) :=
    ⟨w, hw, .inFrame, htaken, hfresh, fun hn => absurd rfl hn⟩
  have stays : ∃ w ≤ 1, ∃ d', s.Queued w d' n ∧ s.RollFresh ∧ (d' ≠ .inFrame → w = 0) :=
    ⟨0, by omega, d, h, hf, fun _ => rfl⟩
  unfold State.startFrame
  split
  · split
    · exact taken
    · exact ⟨0, by omega, .inFrame, h.setDatOnly .inFrame, hf, fun _ => rfl⟩
  · split
    · exact taken
    · exact stays
  all_goals exact stays

theorem acceptEdge (h : s.Queued w d n) (hf : s.RollFresh) (hmax : s.agree.evn ≤ maxEvent) :
    s.acceptEdge.Queued w d n ∧ s.acceptEdge.RollFresh := by
  have hstored : (s.countEdge.storeEdge s.agree.evn s.time.counter).Queued w d n := by
    refine h.congr (by simp) ?_ (by simp) (by simp)
    simp only [State.storeEdge_frame]
    unfold State.countEdge
    split <;> simp [State.becomeExhausted]
  refine ⟨(hstored.offerTake hmax _).offerParts, fun p hp f hfp => ?_⟩
  have hagree : s.acceptEdge.agree.highTake = s.agree.highTake := by
    simp only [State.acceptEdge, State.offerParts_frame, State.offerTake_frame, State.appendPending, State.setAgree_agree,
      State.storeEdge_frame]
    unfold State.countEdge
    split <;> simp [State.becomeExhausted]
  have hframe : s.acceptEdge.rollFrame f.mode = s.rollFrame f.mode := by
    simp [State.rollFrame, State.joinPoint, State.channelCount, hagree]
  rw [hframe]
  exact hf p (by simpa [State.acceptEdge, State.offerTake] using hp) f hfp

theorem offerRoll_fresh (h : s.Queued w d n) (hf : s.RollFresh) (m : RollMode) : (s.offerRoll m).RollFresh := by
  intro p hp f hfp
  have hframe : (s.offerRoll m).rollFrame f.mode = s.rollFrame f.mode := by
    simp [State.rollFrame, State.joinPoint, State.channelCount]
  rw [hframe]
  have hsound : ∀ p ∈ s.frames.queue.roll, p.Sound fun f => f = s.rollFrame f.mode :=
    fun p hp => ⟨(h.roll p hp).kept, hf p hp⟩
  unfold State.offerRoll at hp
  split at hp
  · exact (hsound p hp).frames f hfp
  · exact (Place.Sound.offer hsound (f := s.rollFrame m) rfl p hp).frames f hfp

/-- R183: the epoch's settling. -/
theorem epoch (h : s.Queued w d n) (hf : s.RollFresh) (ha : s.agree = Agreement.blank) :
    s.epoch.Queued w d n ∧ s.epoch.RollFresh := by
  rw [State.epoch_eq]
  refine settle (s := s.started) (h.congr rfl (by simp [State.started, ha]) rfl rfl) (.inr fun p hp f hfp => ?_) []
  have hframe : s.started.rollFrame f.mode = s.rollFrame f.mode := by
    unfold State.rollFrame State.joinPoint
    rw [ha]
    rfl
  rw [hframe]
  exact hf p hp f hfp

end State.Queued

/-- No frame is on the wire where none of the places has one there. -/
theorem Queue.wires_of_onWire {q : Queue} (h : q.onWire = none) : q.wires = 0 := by
  simp only [Queue.onWire, Option.orElse_eq_orElse, Option.orElse_eq_or, Option.or_eq_none_iff, Option.map_eq_none_iff,
    Option.bind_eq_none_iff, List.findSome?_eq_none_iff] at h
  obtain ⟨htakes, hskip, hfrag, hroll⟩ := h
  have off {φ : Type} {p : Place φ} (hp : p.driven = none) : p.onWire = false := by
    unfold Place.driven at hp
    split at hp
    · simp at hp
    · next hw => simpa using hw
  have none_on {φ : Type} {o : Option (Place φ)} (ho : ∀ p, o = some p → p.driven = none) : Place.wires o = 0 :=
    List.countP_eq_zero.mpr fun p hp => by simp [off (ho p (by simpa using hp))]
  rw [Queue.wires_eq, none_on hskip, none_on hfrag, none_on hroll,
    List.countP_eq_zero.mpr fun p hp => by simp [off (htakes p hp)]]

/-- The laws of the queue: at most one frame on the wire, in a frame under way, and fewer than eight failures but in a
station that sends no more. -/
structure State.QueueKept (s : State) : Prop where
  queued : s.Queued s.frames.queue.wires s.frames.dat s.frames.failures
  fresh : s.RollFresh
  wires : s.frames.queue.wires ≤ 1
  inFrame : s.frames.dat ≠ .inFrame → s.frames.queue.wires = 0
  failures : s.frames.failures ≤ 8
  limit : s.frames.failures = 8 → s.start.station = .mute ∨ s.start.muteAttr = true

theorem State.QueueKept.queueInv {s : State} (h : s.QueueKept) : s.QueueInv :=
  State.queueInv_iff.mpr ⟨h.queued, h.fresh, h.wires, h.inFrame, h.failures, h.limit⟩

theorem State.QueueInv.kept {s : State} (h : s.QueueInv) : s.QueueKept := by
  obtain ⟨hqueued, hfresh, hwires, hin, hfailures, hlimit⟩ := State.queueInv_iff.mp h
  exact ⟨hqueued, hfresh, hwires, hin, hfailures, hlimit⟩

/-- The laws of the queue after a command, from a state of m failures: the eighth in a row ends the sending. -/
def State.QueueStep (m : Nat) (s : State) : Prop :=
  ∃ w d n, s.Queued w d n ∧ s.RollFresh ∧ w ≤ 1 ∧ (d ≠ .inFrame → w = 0)
    ∧ (n = m ∨ n < 8 ∨ n = 8 ∧ (s.start.station = .mute ∨ s.start.muteAttr = true))

namespace State.QueueStep

variable {s t : State} {w : Nat} {d : DatState} {n : Nat}

theorem of_same (h : t.Queued w d n) (hf : t.RollFresh) (hw : w ≤ 1) (hd : d ≠ .inFrame → w = 0) : t.QueueStep n :=
  ⟨w, d, n, h, hf, hw, hd, .inl rfl⟩

theorem of_empty (hq : t.frames.queue = Queue.empty) (hn : t.frames.failures = n ∨ t.frames.failures < 8) :
    t.QueueStep n :=
  ⟨0, _, _, State.Queued.of_empty hq, State.Queued.fresh_of_empty hq, by omega, fun _ => rfl, hn.imp_right .inl⟩

/-- The image's completion touches of the queue's unit what is known of DAT alone. -/
theorem completeRead_frames (img : List Byte) (trg : Bool) (s : State) :
    ∃ d, (s.completeRead img trg).frames = { s.frames with dat := d } := by
  unfold State.completeRead
  dsimp only
  split
  · split
    · exact ⟨.busy, by rw [(State.loadGood_blocks _ _ _).2.2.1]; rfl⟩
    · exact ⟨s.frames.dat, by simp [State.halt]⟩
  · split
    · exact ⟨s.frames.dat, rfl⟩
    · exact ⟨s.frames.dat, by simp [State.halt]⟩

theorem enterRollcall (hq : s.frames.queue = Queue.empty) (ha : s.agree = Agreement.blank) (hn : s.frames.failures = n) :
    s.enterRollcall.QueueStep n := by
  have hqueued : s.Queued 0 s.frames.dat s.frames.failures := .of_empty hq
  refine ⟨0, s.frames.dat, s.frames.failures, hqueued.enterRollcall (by rw [ha]; rfl), ?_, by omega, fun _ => rfl, .inl hn⟩
  unfold State.enterRollcall
  refine State.Queued.offerRoll_fresh (w := 0) (d := s.frames.dat) (n := s.frames.failures) ?_ ?_ _
  · exact hqueued.congr rfl (by rw [ha]; rfl) rfl rfl
  · exact State.Queued.fresh_of_empty hq

/-- R142: a station that gives up sending is MUTE or carries `muteAttr`. -/
theorem giveUpSending_limit (s : State) :
    s.giveUpSending.start.station = .mute ∨ s.giveUpSending.start.muteAttr = true := by
  unfold State.giveUpSending
  split
  · exact .inl (by rw [State.enterMute_start])
  · refine .inr ?_
    simp only [State.takeMuteAttr, setQueue_start, setStart_start]
    split
    · split <;> rfl
    · rfl
    · rfl

theorem abandon (h : s.Queued w d n) (f : Frame) : (s.abandon f).QueueStep n := by
  have hleft : (State.bump .txRetries (s.leaveWire.setFrames { s.leaveWire.frames with
      failures := min Config.failureLimit (s.frames.failures + 1), dat := .abandoned })).Queued 0 .abandoned
        (min Config.failureLimit (s.frames.failures + 1)) :=
    (h.leaveWire.1.setDat _ _).congr (by simp) (by simp) (by simp) (by simp)
  have hfresh : (State.bump .txRetries (s.leaveWire.setFrames { s.leaveWire.frames with
      failures := min Config.failureLimit (s.frames.failures + 1), dat := .abandoned })).RollFresh := h.leaveWire.2
  unfold State.abandon
  dsimp only
  split
  · next hlimit =>
    have hgiven {u : State} (hu : u.frames.failures = 8) :
        (u.failLimit f).Queued 0 u.frames.dat 8 ∧ (u.failLimit f).RollFresh := by
      have hframes : (u.raise .trunkDrive (frameField f).toNat).giveUpSending.frames = { u.frames with queue := Queue.empty } := by
        rw [State.Queued.giveUpSending_frames]
        simp
      have hempty := State.Queued.of_empty (s := (u.raise .trunkDrive (frameField f).toNat).giveUpSending) (by rw [hframes])
      rw [show (u.raise .trunkDrive (frameField f).toNat).giveUpSending.frames.dat = u.frames.dat by rw [hframes],
        show (u.raise .trunkDrive (frameField f).toNat).giveUpSending.frames.failures = 8 by rw [hframes]; exact hu] at hempty
      exact hempty.settle (.inl rfl) _
    obtain ⟨hqueued, hfresh⟩ := hgiven (hleft.failures.trans hlimit)
    refine ⟨0, _, 8, hqueued, hfresh, by omega, fun _ => rfl, .inr (.inr ⟨rfl, ?_⟩)⟩
    rw [State.failLimit, (State.settle_frame _ _).2.1]
    exact giveUpSending_limit _
  · next hlimit =>
    refine ⟨0, _, _, hleft, hfresh, by omega, fun _ => rfl, .inr (.inl ?_)⟩
    unfold Config.failureLimit at hlimit ⊢
    omega

/-- The laws of the queue after any command. -/
theorem after (h : s.QueueKept) (hfits : s.Fits) (ha : s.AgreeKept) (c : Instr) :
    (s.after c).QueueStep s.frames.failures := by
  have same {t : State} (hf : t.frames = s.frames) (ha : t.agree = s.agree) (hp : t.pins = s.pins)
      (hc : t.config = s.config) : t.QueueStep s.frames.failures := by
    refine of_same (h.queued.congr hf (by rw [ha]) hp hc) (fun p hpm f hfp => ?_) h.wires h.inFrame
    have hframe : t.rollFrame f.mode = s.rollFrame f.mode := by
      simp [State.rollFrame, State.joinPoint, State.channelCount, ha, hp, hc]
    rw [hframe]
    exact h.fresh p (hf ▸ hpm) f hfp
  have hepoch (hs : s.start.station = .rollcall) : s.epoch.QueueStep s.frames.failures := by
    obtain ⟨hq, hf⟩ := h.queued.epoch h.fresh (hfits.agree (.inr (.inl hs)))
    exact of_same hq hf h.wires h.inFrame
  refine State.after_cases (P := State.QueueStep s.frames.failures) c s
    (idle := same rfl rfl rfl rfl) (reset := fun _ => of_empty rfl (.inr (by simp [State.reset])))
    (release := fun hrst _ _ _ => of_empty ?_ (.inl rfl)) (read := fun _ img trg _ hp => ?_)
    (sample := fun _ _ _ _ => same (by simp) (by simp) (by simp) (by simp)) (window := fun _ _ => ?_)
    (edge := fun _ b _ _ _ => ?_) (request := fun _ _ _ _ _ => same (by simp) (by simp) (by simp) (by simp))
    (normalPulse := fun _ _ => same rfl rfl rfl rfl) (restartPulse := fun _ _ => same rfl rfl rfl rfl)
    (restart := fun _ => same (by simp) (by simp) (by simp) (by simp))
    (detection := fun _ _ _ => of_empty (by simp [State.detectRestart]) (.inr (by simp [State.detectRestart])))
    (trgRelease := fun _ _ hu _ => ?_)
    (listen := fun _ _ hs _ => enterRollcall (hfits.queue (.inl (.inr (.inr hs)))) (hfits.agree (.inl (.inr (.inr hs)))) rfl)
    (roll := fun _ b _ hs _ => ?_) (hldFall := fun _ _ hs _ => hepoch hs)
    (turn := fun _ _ => ?_) (close := fun _ n _ => same (by simp) (by simp) (by simp) (by simp))
    (datIdle := fun _ _ => ?_) (contention := fun _ _ => ?_)
    (lost := fun _ _ _ => of_same h.queued.leaveWire.1 h.queued.leaveWire.2 (by omega) fun _ => rfl)
    (abandoned := fun _ _ f _ => abandon h.queued f) (discard := fun _ _ k => ?_)
    (received := fun _ ht f _ _ => ?_)
    (taking := fun _ _ _ => same (by simp) (by simp) (by simp) (by simp)) (read_window := fun _ _ _ _ => same rfl rfl rfl rfl)
    (clear := fun _ _ => same rfl rfl rfl rfl) (ack := fun _ _ => same rfl rfl rfl rfl) (write := fun _ => same rfl rfl rfl rfl)
    (tick := fun _ _ => same rfl rfl rfl rfl)
  · exact hfits.queue (.inl (.inl (hfits.pins hrst).1))
  · have hl : s.start.station = .loading := by_contra fun hn => hp (hfits.imagePort hn)
    obtain ⟨d, hd⟩ := completeRead_frames img trg s
    exact of_empty (by rw [hd]; exact hfits.queue (.inl (.inl hl))) (.inl (by rw [hd]))
  · unfold State.expireWindow
    split
    · have hended : (s.setStore s.store.endWindow).Queued _ _ _ := h.queued.congr rfl rfl rfl rfl
      refine of_same hended.offerParts (fun p hp f hfp => ?_) h.wires h.inFrame
      have hframe : (s.setStore s.store.endWindow).offerParts.rollFrame f.mode = s.rollFrame f.mode := by
        simp [State.rollFrame, State.joinPoint, State.channelCount]
      rw [hframe]
      exact h.fresh p (by simpa using hp) f hfp
    · exact same rfl rfl rfl rfl
  · have hrise : (s.setTrig { s.trig with level := true, detector := some Config.detectorTicks }).Queued _ _ _ :=
      h.queued.congr rfl rfl rfl rfl
    unfold State.takeEdge State.decideEdge
    split
    · split
      · obtain ⟨hq, hf⟩ := hrise.acceptEdge h.fresh ha.agree.evn
        exact of_same hq hf h.wires h.inFrame
      · exact same rfl rfl rfl rfl
    · exact same rfl rfl rfl rfl
  · unfold State.releaseTrg
    dsimp only
    split
    · next hr =>
      have hq := hfits.queue (.inr (.inr hr))
      have hb := hfits.agree (.inr (.inr hr))
      unfold State.endRestart
      split
      case h_6 | h_7 | h_8 => exact same rfl rfl rfl rfl
      all_goals exact enterRollcall hq hb rfl
    · exact same rfl rfl rfl rfl
  · unfold State.meetRoll
    split
    · exact same rfl rfl rfl rfl
    · exact hepoch hs
  · unfold State.expireTurn
    split
    · next m k _ _ =>
      have hoffered : (s.offerSkip (s.skipFrame m k)).Queued _ _ _ := h.queued.offerSkip rfl
      exact of_same (hoffered.setTurn _) h.fresh h.wires h.inFrame
    · exact same rfl rfl rfl rfl
  · unfold State.idleDat
    split
    · exact same rfl rfl rfl rfl
    · next hd =>
      have hw : s.frames.queue.wires = 0 := by
        simp only [Bool.or_eq_true, not_or, Bool.not_eq_true, Option.isSome_eq_false_iff, Option.isNone_iff_eq_none] at hd
        exact Queue.wires_of_onWire hd.2
      exact of_same (h.queued.setDatOnly .idle) h.fresh h.wires fun _ => hw
  · by_cases hd : s.frames.dat = .inFrame
    · have hstays : s.startFrame = s := by simp [State.startFrame, hd]
      rw [hstays]
      exact same rfl rfl rfl rfl
    · have hqueued := h.queued
      rw [h.inFrame hd] at hqueued
      obtain ⟨w, hw, d, hq, hf, hz⟩ := hqueued.startFrame h.fresh
      exact of_same hq hf hw hz
  · obtain ⟨hq, hf⟩ := h.queued.endOther
    unfold State.discardFrame
    split
    · exact of_same hq hf (by omega) fun _ => rfl
    · exact of_same (hq.congr (by simp) (by simp) (by simp) (by simp)) hf (by omega) fun _ => rfl
  · obtain ⟨hq | hq, hf⟩ := h.queued.received h.fresh hfits ht f
    · exact ⟨0, _, 0, hq, hf, by omega, fun _ => rfl, .inr (.inl (by omega))⟩
    · exact of_same hq hf (by omega) fun _ => rfl

end State.QueueStep

/-- R142: a station whose sending has ended does not send again before RST. -/
theorem State.QueueStep.kept {s : State} (h : s.QueueKept) (hfits : s.Fits) {c : Instr}
    (hstep : (s.after c).QueueStep s.frames.failures) : (s.after c).QueueKept := by
  obtain ⟨w, d, n, hq, hf, hw, hd, hn⟩ := hstep
  have hlimit : n = 8 → (s.after c).start.station = .mute ∨ (s.after c).start.muteAttr = true := by
    rintro rfl
    rcases hn with hn | hn | ⟨-, hn⟩
    · have hu : s.unloaded = false := by
        rw [← Bool.not_eq_true]
        intro hu
        have := (hfits.dat hu).2
        omega
      have hstation : s.start.station ≠ .loading := fun hs => by simp [State.unloaded, hs] at hu
      have hrst : s.pins.rst = false := by
        rw [← Bool.not_eq_true]
        exact fun hr => hstation (hfits.pins hr).1
      have hc : c ≠ .rstAssert := by
        rintro rfl
        have hzero : (s.after .rstAssert).frames.failures = 0 := rfl
        have := hq.failures
        omega
      obtain ⟨hleads, -, -⟩ := hfits.leads hrst hc (.inl hstation)
      exact (h.limit hn.symm).imp (fun hm => (hleads.station.resolve_right fun hl => hl.1.2.2 hm).trans hm) hleads.muteAttr
    · omega
    · exact hn
  have hle : n ≤ 8 := by
    rcases hn with rfl | hn | ⟨rfl, -⟩
    · exact h.failures
    · omega
    · omega
  obtain ⟨rfl, rfl, rfl⟩ : (s.after c).frames.queue.wires = w ∧ (s.after c).frames.dat = d
      ∧ (s.after c).frames.failures = n := ⟨hq.wires, hq.dat, hq.failures⟩
  exact ⟨hq, hf, hw, hd, hle, hlimit⟩

/-- Settles O59: each change of a place keeps what holds of it, receptions begin with nothing on the wire, and the
settling brings the join point into the ROLL frames. -/
theorem stepKeepsQueue : Obligations.StepKeepsQueue := by
  intro s t hs ha hq ht
  rcases step_cases ht with rfl | ⟨c, rest, -, rfl⟩
  · exact hq
  · have hfits : State.Fits { s with pending := rest } := State.Coherent.fits hs
    have hagree : State.AgreeKept { s with pending := rest } := State.agreeInv_iff.mp ha
    have hkept : State.QueueKept { s with pending := rest } := State.QueueInv.kept hq
    exact (State.QueueStep.kept hkept hfits (State.QueueStep.after hkept hfits hagree c)).queueInv

end Sys2Proof.Machine
end

section
/-! The laws of the turns (R49, R50, R58 to R61, R63): the turn timer follows the skipped member's turn, the offered part
is the one due, and the SKIP place is the timer's. -/

namespace Sys2Proof.Machine

namespace State

variable {s t : State}

/-! ## What the turns depend on -/

/-- The station's view of the turn order. -/
structure SameView (s t : State) : Prop where
  pins : t.pins = s.pins
  config : t.config = s.config
  station : t.start.station = s.start.station
  roster : t.roster = s.roster
  list : t.agree.takeList = s.agree.takeList

namespace SameView

theorem refl (s : State) : s.SameView s := ⟨rfl, rfl, rfl, rfl, rfl⟩

theorem order (h : s.SameView t) : t.order = s.order := order_of_roster h.roster

theorem mark (h : s.SameView t) (m : Addr) : t.mark m = s.mark m := by
  rw [State.mark, State.mark, entry_of_roster h.roster]

theorem nextEvent (h : s.SameView t) (m : Addr) : t.nextEvent m = s.nextEvent m := by
  rw [State.nextEvent, State.nextEvent, h.list, h.mark]

theorem takesTurns (h : s.SameView t) : t.takesTurns = s.takesTurns := by
  rw [State.takesTurns, State.takesTurns, State.isAcquirer, State.isAcquirer, h.pins, h.station, h.order]

theorem turnOpen (h : s.SameView t) (m : Addr) (n : Nat) : t.turnOpen m n = s.turnOpen m n := by
  simp only [State.turnOpen, State.inLead, h.nextEvent, h.order, h.mark, h.list, h.config]

theorem watchedNow (h : s.SameView t) : t.watchedNow = s.watchedNow := by
  simp only [State.watchedNow, h.takesTurns, h.order, h.pins, h.nextEvent]

theorem watchedOpen (h : s.SameView t) : t.watchedOpen = s.watchedOpen := by
  simp only [State.watchedOpen, h.watchedNow, h.turnOpen]

theorem ownTurn (h : s.SameView t) : t.ownTurn = s.ownTurn := by
  simp only [State.ownTurn, h.takesTurns, h.nextEvent, h.pins]
  split
  · exact congrArg (fun g : Nat → Bool => (s.nextEvent s.pins.address).filter g)
      (funext fun n => h.turnOpen s.pins.address n)
  · rfl

/-- A timer bound as before, over the same view. -/
theorem timerInv (h : s.SameView t) (hs : s.TimerInv) (hw : t.turn.watched = s.turn.watched)
    (hb : t.turn.timer.bound = s.turn.timer.bound) (hh : t.turn.heard = s.turn.heard) : t.TimerInv := by
  obtain ⟨h1, h2, h3⟩ := hs
  exact ⟨by rw [hw, h.watchedNow, h1], by rw [hb, h.watchedOpen, h.watchedNow, h2], hh ▸ h3⟩

end SameView

/-- R49, R58: a station outside the turns watches no member and has no turn. -/
theorem watchedNow_of_outside (h : s.takesTurns = false) : s.watchedNow = none := by simp [watchedNow, h]

theorem ownTurn_of_outside (h : s.takesTurns = false) : s.ownTurn = none := by simp [ownTurn, h]

theorem takesTurns_of_station (h : s.start.station ≠ .running) : s.takesTurns = false := by simp [takesTurns, h]

theorem takesTurns_of_blank (h : s.roster = Roster.blank) : s.takesTurns = false := by
  simp [takesTurns, order_of_blank h]

theorem timerInv_of_outside (h : s.takesTurns = false) (ht : s.turn = Turn.blank) : s.TimerInv := by
  rw [TimerInv, watchedNow_of_outside h, ht]
  exact ⟨rfl, by simp [Turn.blank, TurnTimer.bound], by simp [Turn.blank]⟩

theorem offerInv_of_outside (h : s.takesTurns = false) (ho : s.offeredPart = none) : s.OfferInv := by
  rw [OfferInv, ownTurn_of_outside h, ho]
  rfl

/-! ## The turn timer (R58, R59) -/

/-- R59: an evaluation binds the timer to the skipped member's open turn. -/
theorem evalTimer_timerInv (h : s.turn.heard ≤ 3) : s.evalTimer.TimerInv := by
  have hview : s.SameView s.evalTimer := ⟨by simp, by simp, by simp, by simp, by simp⟩
  have hturn : s.evalTimer.turn = { timer := if s.timerStands then s.turn.timer else s.freshTimer
                                    watched := s.watchedNow, heard := s.heardNow } := rfl
  rw [TimerInv, hview.watchedNow, hview.watchedOpen, hturn]
  refine ⟨rfl, ?_, ?_⟩
  · dsimp only
    split
    · next hstands =>
      unfold timerStands at hstands
      split at hstands
      · simp at hstands
      all_goals
        next m n _ hm =>
        simp only [Bool.and_eq_true, decide_eq_true_eq] at hstands
        simp [hm, TurnTimer.bound, hstands]
    · unfold freshTimer watchedOpen
      cases hw : s.watchedNow with
      | none => rfl
      | some p =>
        obtain ⟨m, n⟩ := p
        dsimp only
        split <;> simp_all [TurnTimer.bound]
  · dsimp only
    unfold heardNow
    split
    · exact h
    · omega

/-! ## The station's own part (R49 to R53) -/

/-- What the offered part turns on beside the view: the store. -/
theorem duePart_congr (hp : t.pins = s.pins) (hs : t.store = s.store) (n : Nat) : t.duePart n = s.duePart n := by
  simp only [duePart, record?, hs, lostPart, recordPart, hp]

theorem SameView.offerInv (h : s.SameView t) (ho : s.OfferInv) (hs : t.store = s.store)
    (hf : t.offeredPart = s.offeredPart) : t.OfferInv := by
  have hdue : t.duePart = s.duePart := funext fun n => duePart_congr h.pins hs n
  rw [OfferInv, hf, h.ownTurn, ho, hdue]

theorem record?_number {n : Nat} {r : Record} (h : s.record? n = some r) : r.number = n := by
  simpa using List.find?_some h

/-- The record of an event after a change of one that keeps its number. -/
theorem find?_changeRecord {f : Record → Record} (hf : ∀ r, (f r).number = r.number) (n : Nat) (l : List Record) :
    (changeRecord n f l).find? (fun r => r.number = n) = (l.find? fun r => r.number = n).map f := by
  induction l with
  | nil => rfl
  | cons r l ih =>
    unfold changeRecord
    by_cases hn : r.number = n
    · simp [hn, hf]
    · simp [hn, ih]

/-- R15, R50: the record whose part is offered is SENDING. -/
theorem record?_markSending (n : Nat) (s : State) :
    (s.markSending n).record? n = (s.record? n).map fun r => { r with state := .sending } :=
  find?_changeRecord (f := fun r => { r with state := .sending }) (fun _ => rfl) n s.store.records

/-- R15: a part is the record's last exactly when it takes its last samples. -/
theorem parts_le {r : Record} : r.parts ≤ r.partsSent + 1 ↔ r.samples.length ≤ 16 * (r.partsSent + 1) := by
  unfold Record.parts Config.partSamples
  omega

/-- R49: an own turn is for an entry of the take list. -/
theorem ownTurn_mem {n : Nat} (h : s.ownTurn = some n) : ∃ e ∈ s.agree.takeList, e.number = n := by
  unfold ownTurn at h
  split at h
  · obtain ⟨hn, -⟩ := Option.filter_eq_some_iff.mp h
    exact (nextEvent_some hn).2
  · simp at h

@[simp] theorem offeredPart_withdrawFrag (s : State) : s.withdrawFrag.offeredPart = none := by
  simp only [offeredPart, withdrawFrag, setQueue_frames]
  exact Place.due_withdraw _

@[simp] theorem offeredPart_offerFrag (f : FragFrame) (s : State) : (s.offerFrag f).offeredPart = some f := by
  simp only [offeredPart, offerFrag, setQueue_frames]
  exact Place.due_offer f _

/-- R49 to R53: the evaluation offers the part due in the own open turn, and no other. -/
theorem offerParts_offerInv (s : State) : s.offerParts.OfferInv := by
  have hview : s.SameView s.offerParts := ⟨by simp, by simp, by simp, by simp, by simp⟩
  rw [OfferInv, hview.ownTurn]
  unfold offerParts
  split
  · next hn => simp [hn]
  · next n hn =>
    rw [hn, Option.bind_some]
    split
    · next hd =>
      have hdue : s.withdrawFrag.duePart n = none := (duePart_congr rfl rfl n).trans hd
      rw [hdue, offeredPart_withdrawFrag]
    · next f hd =>
      split
      · next ha =>
        unfold alreadyOffered at ha
        split at ha
        · next g hg =>
          simp only [Bool.and_eq_true, decide_eq_true_eq] at ha
          simp [hg, hd, ha]
        · simp at ha
      · have hoffered : ((s.offerFrag f).markSending n).offeredPart = some f := offeredPart_offerFrag f s
        have hrecord := record?_markSending n (s.offerFrag f)
        have hsame : (s.offerFrag f).record? n = s.record? n := rfl
        rw [hsame] at hrecord
        rw [hoffered]
        unfold duePart at hd ⊢
        rw [hrecord]
        cases hr : s.record? n with
        | none =>
          rw [hr] at hd
          obtain rfl := Option.some.inj hd
          rfl
        | some r =>
          rw [hr] at hd
          dsimp only at hd
          split at hd
          · simp at hd
          · obtain rfl := Option.some.inj hd
            rfl

/-- R15, R51: a part that the evaluation offers anew has the contents of its record, or of a LOST part. -/
theorem offerParts_partIsDue (hmax : ∀ e ∈ s.agree.takeList, e.number ≤ maxEvent) {f : FragFrame}
    (hf : s.offerParts.offeredPart = some f) (hnew : s.offeredPart ≠ some f) : s.offerParts.PartIsDue f := by
  unfold offerParts at hf ⊢
  split at hf
  · simp at hf
  · next n hn =>
    obtain ⟨e, he, rfl⟩ := ownTurn_mem hn
    have hnum : (BitVec.ofNat 32 e.number).toNat = e.number := by
      have := hmax e he
      simp only [BitVec.toNat_ofNat]
      unfold maxEvent at this
      omega
    split at hf
    · simp at hf
    · next g hd =>
      split at hf
      · exact absurd hf hnew
      · next ha =>
        have hoffered : ((s.offerFrag g).markSending e.number).offeredPart = some g := offeredPart_offerFrag g s
        obtain rfl := Option.some.inj (hoffered.symm.trans hf)
        have hrecord := record?_markSending e.number (s.offerFrag g)
        have hsame : (s.offerFrag g).record? e.number = s.record? e.number := rfl
        rw [hsame] at hrecord
        rw [if_neg ha]
        unfold duePart at hd
        cases hr : s.record? e.number with
        | none =>
          rw [hr] at hd hrecord
          obtain rfl := Option.some.inj hd
          simp only [PartIsDue, lostPart, hnum]
          refine ⟨fun r hr => ?_, fun _ => rfl⟩
          rw [Option.mem_def] at hr
          exact absurd (hrecord.symm.trans hr) (by simp)
        | some r =>
          have hrn := record?_number hr
          rw [hr] at hd hrecord
          dsimp only at hd
          split at hd
          · simp at hd
          · obtain rfl := Option.some.inj hd
            have hnumber : (s.recordPart r).number.toNat = e.number := by rw [recordPart, hrn, hnum]
            rw [PartIsDue, hnumber]
            refine ⟨fun q hq => ?_, fun hq => absurd (hrecord.symm.trans hq) (by simp)⟩
            obtain rfl := Option.some.inj (hrecord.symm.trans hq)
            exact ⟨rfl, by simp [recordPart, parts_le, Config.partSamples]⟩

/-! ## What a step leaves of the turns -/

/-- The turns after a step from a state in which this part was offered. -/
structure TurnsKept (o : Option FragFrame) (s : State) : Prop where
  timer : s.TimerInv
  offer : s.OfferInv
  part : (∀ e ∈ s.agree.takeList, e.number ≤ maxEvent) → ∀ f, s.offeredPart = some f → o ≠ some f → s.PartIsDue f

/-- What holds of the turns inside a reception, before they are evaluated. -/
structure Turning (o : Option FragFrame) (s : State) : Prop where
  heard : s.turn.heard ≤ 3
  offered : s.offeredPart = o ∨ s.offeredPart = none

namespace TurnsKept

variable {o : Option FragFrame}

/-- No part is offered anew. -/
theorem of_invs (ht : s.TimerInv) (ho : s.OfferInv) (hs : s.offeredPart = o ∨ s.offeredPart = none) : s.TurnsKept o :=
  ⟨ht, ho, fun _ f hf hn => absurd hf (by rcases hs with hs | hs <;> simp [hs, hn])⟩

/-- A station outside the turns, with a blank turn unit and nothing offered. -/
theorem of_outside (h : s.takesTurns = false) (ht : s.turn = Turn.blank) (ho : s.offeredPart = none) : s.TurnsKept o :=
  of_invs (timerInv_of_outside h ht) (offerInv_of_outside h ho) (.inr ho)

theorem congr (h : s.TurnsKept o) (hv : s.SameView t) (ht : t.turn = s.turn) (hs : t.store = s.store)
    (hf : t.offeredPart = s.offeredPart) : t.TurnsKept o := by
  refine ⟨hv.timerInv h.timer (by rw [ht]) (by rw [ht]) (by rw [ht]), hv.offerInv h.offer hs hf, fun hmax f ho hn => ?_⟩
  obtain ⟨h1, h2⟩ := h.part (by rw [← hv.list]; exact hmax) f (hf ▸ ho) hn
  rw [PartIsDue, record?, hs, hv.pins]
  exact ⟨h1, h2⟩

/-- R49 to R53: after the evaluation of the own part. -/
theorem offerParts (h : s.TimerInv) (hs : s.offeredPart = o ∨ s.offeredPart = none) : s.offerParts.TurnsKept o := by
  have hview : s.SameView s.offerParts := ⟨by simp, by simp, by simp, by simp, by simp⟩
  refine ⟨hview.timerInv h (by simp) (by simp) (by simp), offerParts_offerInv s, fun hmax f hf hn => ?_⟩
  refine offerParts_partIsDue (by simpa using hmax) hf fun hsf => ?_
  rcases hs with hs | hs
  · exact hn (hs.symm.trans hsf)
  · simp [hs] at hsf

end TurnsKept

/-! ## What TAKE and ROLL frames leave of the queue -/

/-- R30: a TAKE touches the TAKE frames alone. -/
@[simp] theorem answer_queue (n : Nat) (x : Time) (s : State) :
    (s.answer n x).frames.queue.skip = s.frames.queue.skip ∧ (s.answer n x).frames.queue.frag = s.frames.queue.frag
      ∧ (s.answer n x).frames.queue.roll = s.frames.queue.roll := by
  unfold answer
  split <;> simp [withdrawTake]

@[simp] theorem renumber_queue (k n : Nat) (s : State) :
    (s.renumber k n).frames.queue.skip = s.frames.queue.skip ∧ (s.renumber k n).frames.queue.frag = s.frames.queue.frag
      ∧ (s.renumber k n).frames.queue.roll = s.frames.queue.roll := by
  simp [renumber, shiftTakes]

@[simp] theorem handleTake_queue (n : Nat) (x : Time) (s : State) :
    (s.handleTake n x).frames.queue.skip = s.frames.queue.skip
      ∧ (s.handleTake n x).frames.queue.frag = s.frames.queue.frag
      ∧ (s.handleTake n x).frames.queue.roll = s.frames.queue.roll := by
  have hmatch (t : State) : (t.matchTake n x).frames.queue.skip = t.frames.queue.skip
      ∧ (t.matchTake n x).frames.queue.frag = t.frames.queue.frag
      ∧ (t.matchTake n x).frames.queue.roll = t.frames.queue.roll := by
    unfold matchTake
    split
    · simp
    · split
      · simp
      · split <;> simp
  unfold handleTake
  (repeat' split) <;> simp [hmatch]

/-- R80: the withdrawal of an ECHO touches the ROLL place alone. -/
@[simp] theorem withdrawEcho_queue (s : State) :
    s.withdrawEcho.frames.queue.takes = s.frames.queue.takes ∧ s.withdrawEcho.frames.queue.skip = s.frames.queue.skip
      ∧ s.withdrawEcho.frames.queue.frag = s.frames.queue.frag := by
  unfold withdrawEcho
  (repeat' split) <;> simp

@[simp] theorem offerEcho_queue (s : State) :
    s.offerEcho.frames.queue.takes = s.frames.queue.takes ∧ s.offerEcho.frames.queue.skip = s.frames.queue.skip
      ∧ s.offerEcho.frames.queue.frag = s.frames.queue.frag := by
  unfold offerEcho
  split <;> simp

@[simp] theorem otherRoll_queue (f : RollFrame) (s : State) :
    (s.otherRoll f).frames.queue.takes = s.frames.queue.takes ∧ (s.otherRoll f).frames.queue.skip = s.frames.queue.skip
      ∧ (s.otherRoll f).frames.queue.frag = s.frames.queue.frag := by
  unfold otherRoll
  (repeat' split) <;> simp

@[simp] theorem enterJoining_queue (s : State) :
    s.enterJoining.frames.queue.takes = s.frames.queue.takes ∧ s.enterJoining.frames.queue.skip = s.frames.queue.skip
      ∧ s.enterJoining.frames.queue.frag = s.frames.queue.frag := by
  simp [enterJoining]

@[simp] theorem enterRollcall_queue (s : State) :
    s.enterRollcall.frames.queue.takes = s.frames.queue.takes ∧ s.enterRollcall.frames.queue.skip = s.frames.queue.skip
      ∧ s.enterRollcall.frames.queue.frag = s.frames.queue.frag := by
  simp [enterRollcall]

/-- R74 to R80: a ROLL frame touches the ROLL place alone. -/
@[simp] theorem handleRoll_queue (own : Bool) (f : RollFrame) (s : State) :
    (s.handleRoll own f).frames.queue.takes = s.frames.queue.takes
      ∧ (s.handleRoll own f).frames.queue.skip = s.frames.queue.skip
      ∧ (s.handleRoll own f).frames.queue.frag = s.frames.queue.frag := by
  unfold handleRoll
  split
  · refine rollcallRoll_cases (P := fun t => t.frames.queue.takes = s.frames.queue.takes
      ∧ t.frames.queue.skip = s.frames.queue.skip ∧ t.frames.queue.frag = s.frames.queue.frag) own f s ⟨rfl, rfl, rfl⟩
      ?_ ?_ ?_ ?_ ?_ <;> intros <;> simp
  · split
    · simp
    · split
      · unfold ownRoll
        split <;> simp
      · simp

@[simp] theorem leaveListening_queue (f : Frame) (s : State) :
    (s.leaveListening f).frames.queue.takes = s.frames.queue.takes
      ∧ (s.leaveListening f).frames.queue.skip = s.frames.queue.skip
      ∧ (s.leaveListening f).frames.queue.frag = s.frames.queue.frag := by
  unfold leaveListening
  (repeat' split) <;> simp

namespace Turning

variable {o : Option FragFrame}

theorem congr (h : s.Turning o) (ht : t.turn = s.turn) (hf : t.frames.queue.frag = s.frames.queue.frag) : t.Turning o :=
  ⟨ht ▸ h.heard, by rw [offeredPart, hf]; exact h.offered⟩

theorem evalTimer (h : s.Turning o) : s.evalTimer.Turning o :=
  ⟨(evalTimer_timerInv h.heard).2.2, by rw [offeredPart, (evalTimer_queue s).2.1]; exact h.offered⟩

theorem removeDrained (h : s.Turning o) : s.removeDrained.Turning o := h.congr (by simp) (by simp)

theorem reassess (h : s.Turning o) : s.reassess.Turning o := h.removeDrained.evalTimer

/-- R88: the settling evaluates the turn timer and then the own part. -/
theorem settle (h : s.Turning o) (l : List Addr) : (s.settle l).TurnsKept o := by
  have hoffered := TurnsKept.offerParts (evalTimer_timerInv h.removeDrained.heard) h.reassess.offered
  refine hoffered.congr ⟨by simp [State.settle, State.reassess], by simp [State.settle, State.reassess],
    by simp [State.settle, State.reassess], by simp [State.settle, State.reassess], by simp [State.settle, State.reassess]⟩
    (by simp [State.settle, State.reassess]) (by simp [State.settle, State.reassess]) ?_
  simp [offeredPart, State.settle, State.reassess]

theorem hearEvent (h : s.Turning o) (n : Nat) : (s.hearEvent n).Turning o := h.congr (by simp) (by simp)

theorem hearMember (h : s.Turning o) (m : Addr) (n : Nat) : (s.hearMember m n).Turning o :=
  reassess (h.congr (by simp) (by simp))

theorem stopTimer (h : s.Turning o) : s.stopTimer.Turning o := by
  unfold State.stopTimer dropSkip
  split <;> exact ⟨h.heard, h.offered⟩

theorem countPart (h : s.Turning o) (m : Addr) (n : Nat) : (s.countPart m n).Turning o := by
  unfold State.countPart
  dsimp only
  split
  · split <;> exact ⟨by simp, h.offered⟩
  · exact h

theorem currentPart (h : s.Turning o) (f : FragFrame) : (s.currentPart f).Turning o := by
  have hpassed : (s.passImplied f.sender f.number.toNat).Turning o := h.congr (by simp) (by simp)
  unfold State.currentPart
  dsimp only
  split
  · exact reassess (hpassed.congr (by simp) (by simp))
  · exact hpassed.reassess.countPart _ _

theorem handleFrag (h : s.Turning o) (own : Bool) (f : FragFrame) : (s.handleFrag own f).Turning o := by
  have hheard := (h.hearEvent f.number.toNat).hearMember f.sender f.number.toNat
  have hstored {t : State} (ht : t.Turning o) : (if own then t.storePart f else t).Turning o := by
    split
    · exact ht.congr (by simp) (by simp)
    · exact ht
  have hbuilt {t : State} {stamp : Option Time} (b : Bool) (ht : t.Turning o) :
      (if b then t.buildFrame f.number.toNat stamp (State.applyPart f) else t).Turning o := by
    split
    · exact ht.congr (by simp) (by simp)
    · exact ht
  unfold State.handleFrag
  dsimp only
  split
  · exact h
  · refine hbuilt _ (hstored ?_)
    split
    · exact hheard
    · split
      · exact hheard.congr (by simp) (by simp)
      · exact hheard.currentPart f

theorem of_blank (ht : s.turn = Turn.blank) (ho : s.offeredPart = none) : s.Turning o :=
  ⟨by simp [ht, Turn.blank], .inr ho⟩

theorem enterSilenced (s : State) : s.enterSilenced.Turning o := by
  rw [enterSilenced_eq]
  exact of_blank rfl (Place.due_withdraw _)

theorem ownSilence (h : s.Turning o) (n : Nat) : (s.ownSilence n).Turning o := by
  unfold State.ownSilence
  dsimp only
  split
  · exact (enterSilenced (s.raise .silenced n)).congr (by simp) (by simp)
  · exact h.congr (by simp) (by simp)

theorem skipTurn (h : s.Turning o) (m : Addr) (n : Nat) : (s.skipTurn m n).Turning o := by
  have hmissed : ((s.missTurn m n).withdrawSkipFor m).Turning o := by
    have hmiss : (s.missTurn m n).Turning o := h.congr (by simp) (by simp)
    unfold State.withdrawSkipFor
    split
    · split
      · exact hmiss.stopTimer
      · exact hmiss
    · exact hmiss
  unfold State.skipTurn
  dsimp only
  split
  · have hdropped : (((s.missTurn m n).withdrawSkipFor m).dropRecord n).Turning o := hmissed.congr (by simp) (by simp)
    split
    · exact hdropped.ownSilence n
    · exact hdropped
  · exact hmissed

theorem ownSkip (h : s.Turning o) : s.ownSkip.Turning o := by
  unfold State.ownSkip
  split <;> exact ⟨h.heard, h.offered⟩

theorem handleSkip (h : s.Turning o) (own : Bool) (f : SkipFrame) : (s.handleSkip own f).Turning o := by
  have hheard : (s.skipHeard own f).Turning o := by
    have hmember := (h.hearEvent f.number.toNat).hearMember f.subject f.number.toNat
    unfold State.skipHeard
    split
    · exact hmember.ownSkip
    · exact hmember
  cases ht : s.tracks
  · simpa [State.handleSkip, ht] using h
  · rw [State.handleSkip_of_tracks own f ht]
    split
    · have hskipped := (hheard.skipTurn f.subject f.number.toNat).reassess
      exact hskipped.congr (by simp) (by simp)
    · exact hheard

theorem giveUpSending (h : s.Turning o) : s.giveUpSending.Turning o := by
  have hframes := State.Queued.giveUpSending_frames s
  refine ⟨?_, .inr (by rw [offeredPart, hframes]; rfl)⟩
  unfold State.giveUpSending
  split
  · simp [State.enterMute, Turn.blank]
  · simpa using h.heard

theorem leaveListening (h : s.Turning o) (f : Frame) : (s.leaveListening f).Turning o := by
  refine ⟨?_, by rw [offeredPart, (leaveListening_queue f s).2.2]; exact h.offered⟩
  unfold State.leaveListening
  (repeat' split) <;> simp [State.enterRollcall, Turn.blank, h.heard]

theorem giveOwners (h : s.Turning o) (own : Bool) (f : Frame) : (s.giveOwners own f).Turning o := by
  unfold State.giveOwners
  split
  · split
    · exact h.congr (by simp) (by simp)
    · exact h
  · exact h.handleFrag own _
  · exact h.handleSkip own _
  · exact h.congr (by simp) (by simp)

end Turning

/-! ## The end of a frame, and contention -/

/-- R136: what the FRAG place will hold does not turn on whether its frame is on the wire. -/
theorem offeredPart_leaveUnsent (s : State) : (s.setQueue s.frames.queue.leaveUnsent).offeredPart = s.offeredPart := by
  have hdue (p : Place FragFrame) : p.leaveUnsent.bind Place.due = p.due := by
    unfold Place.leaveUnsent
    split
    · cases hk : p.kept <;> simp [Place.due, Place.fresh, hk]
    · rfl
  simp only [offeredPart, setQueue_frames, Queue.leaveUnsent, Option.bind_assoc]
  congr 1
  exact funext hdue

theorem offeredPart_endOther (s : State) : s.endOther.offeredPart = s.offeredPart := by
  have hfrag : s.endOther.frames.queue.frag = s.frames.queue.leaveUnsent.frag := by simp [endOther, leaveWire]
  exact (congrArg (Option.bind · Place.due) hfrag).trans (offeredPart_leaveUnsent s)

theorem offeredPart_leaveWire (s : State) : s.leaveWire.offeredPart = s.offeredPart := by
  have hfrag : s.leaveWire.frames.queue.frag = s.frames.queue.leaveUnsent.frag := by simp [leaveWire]
  exact (congrArg (Option.bind · Place.due) hfrag).trans (offeredPart_leaveUnsent s)

/-- R139: a part that was sent is offered no longer, and one that was kept stands. -/
theorem offeredPart_endOwn (s : State) : s.endOwn.offeredPart = s.offeredPart ∨ s.endOwn.offeredPart = none := by
  simp only [offeredPart, endOwn, setFrames_frames, Queue.leaveSent]
  cases s.frames.queue.frag with
  | none => exact .inl rfl
  | some p =>
    simp only [Option.bind_some, Place.leaveSent]
    split
    · cases hk : p.kept <;> simp [Place.due, Place.fresh, hk]
    · exact .inl rfl

theorem offeredPart_driveSelected (q : Queue) : q.driveSelected.frag.bind Place.due = q.frag.bind Place.due := by
  unfold Queue.driveSelected
  split
  all_goals first
    | rfl
    | simp_all [Place.drive, Place.due]

/-! ## Receptions -/

namespace TurnsKept

variable {o : Option FragFrame}

theorem clashCheck (h : s.Turning o) (own : Bool) (f : Frame) : (s.clashCheck own f).Turning o :=
  clashCheck_cases (P := Turning o) own f h fun _ _ _ => (h.congr (by simp) (by simp) : Turning o _).giveUpSending

/-- R163: while restarting the turns stay blank, whatever clash is found. -/
theorem clashCheck_restarting (h : s.Fits) (hr : s.trig.restarting = true) (own : Bool) (f : Frame) :
    (s.clashCheck own f).TurnsKept o := by
  have hturn : s.turn = Turn.blank := h.turn (.inr (.inr hr))
  have hqueue : s.frames.queue = Queue.empty := h.queue (.inr (.inr hr))
  have hroster : (s.clashCheck own f).roster = Roster.blank := by simpa using h.roster (.inr hr)
  refine of_outside (takesTurns_of_blank hroster) ?_ ?_
  · refine clashCheck_cases (P := fun t => t.turn = Turn.blank) own f hturn fun _ _ _ => ?_
    unfold giveUpSending
    split <;> simp [enterMute, hturn]
  · refine clashCheck_cases (P := fun t => t.offeredPart = none) own f (by rw [offeredPart, hqueue]; rfl) fun _ _ _ => ?_
    rw [offeredPart, Queued.giveUpSending_frames]
    rfl

theorem handleFrame (h : s.Turning o) (hfits : s.Fits) (own : Bool) (f : Frame) : (s.handleFrame own f).TurnsKept o := by
  cases hr : s.trig.restarting
  · have hframe : s.handleFrame own f = (((s.clashCheck own f).leaveListening f).giveOwners own f).settle s.order := by
      simp [State.handleFrame, hr]
    rw [hframe]
    exact Turning.settle (((clashCheck h own f).leaveListening f).giveOwners own f) _
  · rw [handleFrame_restarting hr]
    exact clashCheck_restarting hfits hr own f

theorem received (hheard : s.turn.heard ≤ 3) (hfits : s.Fits) (ht : s.takesFrame = true) (f : Frame) :
    (s.received f).TurnsKept s.offeredPart :=
  hfits.received_cases ht f
    (fun _ he _ _ => handleFrame (s := s.endOwn) ⟨by simpa using hheard, offeredPart_endOwn s⟩ he true f)
    fun _ he _ _ => handleFrame (s := s.endOther) ⟨by simpa using hheard, .inl (offeredPart_endOther s)⟩ he false f

/-! ## The other events -/

theorem acceptEdge (h : s.TimerInv) : s.acceptEdge.TurnsKept s.offeredPart := by
  refine offerParts (State.SameView.timerInv (s := s) ⟨by simp, by simp, by simp, by simp, ?_⟩ h (by simp) (by simp) (by simp)) ?_
  · simp only [offerTake_frame, appendPending, setAgree_agree, storeEdge_frame]
    unfold countEdge
    split <;> simp [becomeExhausted]
  · exact .inl (by simp [offeredPart, offerTake])

theorem filterSample_records (x : Sample) (s : State) : ∃ g : Record → Record,
    (s.filterSample x).store.records = s.store.records.map (fun r => if r.state = .capturing then g r else r)
      ∧ ∀ r, (g r).number = r.number ∧ (g r).state = r.state := by
  have stays : s.store.records = s.store.records.map (fun r => if r.state = .capturing then id r else r) := by simp
  unfold filterSample
  split
  · split
    · exact ⟨id, stays, fun _ => ⟨rfl, rfl⟩⟩
    · split
      · exact ⟨id, by simp, fun _ => ⟨rfl, rfl⟩⟩
      · split
        · exact ⟨Record.double, by simp [Store.modifyCapturing], fun _ => ⟨rfl, rfl⟩⟩
        · split
          · refine ⟨Record.truncate, ?_, fun _ => ⟨rfl, rfl⟩⟩
            dsimp only
            split <;> simp [Store.modifyCapturing]
          · exact ⟨Record.append x, by simp [Store.modifyCapturing], fun _ => ⟨rfl, rfl⟩⟩
  · exact ⟨id, by simp, fun _ => ⟨rfl, rfl⟩⟩

/-- R50: a sample goes into a record that has no part due. -/
theorem duePart_filterSample (x : Sample) (s : State) (n : Nat) : (s.filterSample x).duePart n = s.duePart n := by
  obtain ⟨g, hrecords, hg⟩ := filterSample_records x s
  have hrecord : (s.filterSample x).record? n = (s.record? n).map fun r => if r.state = .capturing then g r else r := by
    rw [record?, hrecords, List.find?_map]
    congr 2
    funext r
    simp only [Function.comp_apply]
    split <;> simp [hg]
  unfold duePart
  rw [hrecord]
  cases hr : s.record? n with
  | none => simp [lostPart]
  | some r =>
    by_cases hc : r.state = .capturing
    · simp [hc, hg]
    · simp [hc, recordPart]

/-- The turns after any command. -/
theorem after (ht : s.TimerInv) (ho : s.OfferInv) (hfits : s.Fits) (c : Instr) : (s.after c).TurnsKept s.offeredPart := by
  have kept {t : State} (hv : s.SameView t) (htn : t.turn = s.turn) (hs : t.store = s.store)
      (hf : t.frames.queue.frag = s.frames.queue.frag) : t.TurnsKept s.offeredPart := by
    have hoff : t.offeredPart = s.offeredPart := by rw [offeredPart, hf]; rfl
    exact of_invs (hv.timerInv ht (by rw [htn]) (by rw [htn]) (by rw [htn])) (hv.offerInv ho hs hoff) (.inl hoff)
  have outside {t : State} (hstation : t.start.station ≠ .running) (htn : t.turn = Turn.blank) (hf : t.frames.queue = Queue.empty) :
      t.TurnsKept s.offeredPart :=
    of_outside (takesTurns_of_station hstation) htn (by rw [offeredPart, hf]; rfl)
  have turning : s.Turning s.offeredPart := ⟨ht.2.2, .inl rfl⟩
  have hepoch : s.epoch.TurnsKept s.offeredPart := by
    rw [epoch_eq]
    exact Turning.settle (s := s.started) ⟨by simp [started, Turn.blank], .inl rfl⟩ []
  have hrollcall {t : State} (hearly : t.frames.queue = Queue.empty) : t.enterRollcall.TurnsKept s.offeredPart := by
    refine of_outside (takesTurns_of_station (by simp [enterRollcall])) (by simp [enterRollcall]) ?_
    rw [offeredPart, (enterRollcall_queue t).2.2, hearly]
    rfl
  refine State.after_cases (P := TurnsKept s.offeredPart) c s
    (idle := kept (.refl s) rfl rfl rfl) (reset := fun _ => outside (by simp [reset]) rfl rfl)
    (release := fun hrst _ _ _ => ?_) (read := fun _ img trg _ hp => ?_)
    (sample := fun _ lp _ _ => ?_) (window := fun _ _ => ?_)
    (edge := fun _ b _ _ _ => ?_)
    (request := fun _ _ _ _ _ => kept ⟨by simp, by simp, by simp, by simp, by simp⟩ (by simp) (by simp) (by simp))
    (normalPulse := fun _ _ => kept ⟨rfl, rfl, rfl, rfl, rfl⟩ rfl rfl rfl)
    (restartPulse := fun _ _ => kept ⟨rfl, rfl, rfl, rfl, rfl⟩ rfl rfl rfl)
    (restart := fun _ => kept ⟨by simp, by simp, by simp, by simp, by simp⟩ (by simp) (by simp) (by simp))
    (detection := fun _ _ _ => of_outside (takesTurns_of_blank (by simp [detectRestart])) (by simp [detectRestart])
      (by simp [offeredPart, detectRestart, Queue.empty]))
    (trgRelease := fun _ _ hu _ => ?_)
    (listen := fun _ _ hs _ => hrollcall (hfits.queue (.inl (.inr (.inr hs)))))
    (roll := fun _ b _ hs _ => ?_) (hldFall := fun _ _ hs _ => hepoch)
    (turn := fun _ _ => ?_)
    (close := fun _ n _ => kept ⟨by simp, by simp, by simp, by simp, by simp⟩ (by simp) (by simp) (by simp))
    (datIdle := fun _ _ => ?_) (contention := fun _ _ => ?_)
    (lost := fun _ _ _ => ?_)
    (abandoned := fun _ _ f _ => ?_) (discard := fun _ _ k => ?_)
    (received := fun _ htakes f _ _ => received ht.2.2 hfits htakes f)
    (taking := fun _ _ _ => kept ⟨by simp, by simp, by simp, by simp, by simp⟩ (by simp) (by simp) (by simp))
    (read_window := fun _ _ _ _ => kept ⟨rfl, rfl, rfl, rfl, rfl⟩ rfl rfl rfl)
    (clear := fun _ _ => kept ⟨rfl, rfl, rfl, rfl, rfl⟩ rfl rfl rfl)
    (ack := fun _ _ => kept ⟨rfl, rfl, rfl, rfl, rfl⟩ rfl rfl rfl)
    (write := fun _ => kept ⟨rfl, rfl, rfl, rfl, rfl⟩ rfl rfl rfl)
    (tick := fun _ _ => ?_)
  · have hl : s.start.station = .loading := (hfits.pins hrst).1
    exact outside (by simp) (hfits.turn (.inl (.inl hl))) (hfits.queue (.inl (.inl hl)))
  · have hl : s.start.station = .loading := by_contra fun hn => hp (hfits.imagePort hn)
    obtain ⟨d, hd⟩ := QueueStep.completeRead_frames img trg s
    refine of_outside (takesTurns_of_blank ?_) ?_ ?_
    · simpa using hfits.roster (.inl (.inl hl))
    · simpa using hfits.turn (.inl (.inl hl))
    · rw [offeredPart, hd, hfits.queue (.inl (.inl hl))]
      rfl
  · have hview : s.SameView (s.filterSample (sampleOfPins lp)) := ⟨by simp, by simp, by simp, by simp, by simp⟩
    have hoff : (s.filterSample (sampleOfPins lp)).offeredPart = s.offeredPart := by simp [offeredPart]
    refine of_invs (hview.timerInv ht (by simp) (by simp) (by simp)) ?_ (.inl hoff)
    have hdue : (s.filterSample (sampleOfPins lp)).duePart = s.duePart := funext fun n => duePart_filterSample _ s n
    rw [OfferInv, hoff, hview.ownTurn, hdue]
    exact ho
  · unfold expireWindow
    split
    · exact offerParts (SameView.timerInv (s := s) ⟨rfl, rfl, rfl, rfl, rfl⟩ ht rfl rfl rfl) (.inl rfl)
    · exact kept (.refl s) rfl rfl rfl
  · unfold takeEdge decideEdge
    split
    · split
      · exact acceptEdge (s := s.setTrig { s.trig with level := true, detector := some Config.detectorTicks }) ht
      · exact kept ⟨rfl, rfl, rfl, rfl, rfl⟩ rfl rfl rfl
    · exact kept ⟨rfl, rfl, rfl, rfl, rfl⟩ rfl rfl rfl
  · unfold releaseTrg
    dsimp only
    split
    · next hr =>
      unfold endRestart
      split
      case h_6 | h_7 | h_8 => exact kept ⟨rfl, rfl, rfl, rfl, rfl⟩ rfl rfl rfl
      all_goals exact hrollcall (hfits.queue (.inr (.inr hr)))
    · exact kept ⟨rfl, rfl, rfl, rfl, rfl⟩ rfl rfl rfl
  · unfold meetRoll
    split
    · exact kept ⟨rfl, rfl, rfl, rfl, rfl⟩ rfl rfl rfl
    · exact hepoch
  · unfold expireTurn
    split
    · next m n r hr =>
      have hview : s.SameView ((s.offerSkip (s.skipFrame m n)).setTurn { s.turn with timer := .skipping m n }) :=
        ⟨rfl, rfl, rfl, rfl, rfl⟩
      exact of_invs (hview.timerInv ht rfl (by simp [hr, TurnTimer.bound]) rfl) (hview.offerInv ho rfl rfl) (.inl rfl)
    · exact kept (.refl s) rfl rfl rfl
  · unfold idleDat
    split
    · exact kept (.refl s) rfl rfl rfl
    · exact kept ⟨rfl, rfl, rfl, rfl, rfl⟩ rfl rfl rfl
  · have hoff : s.startFrame.offeredPart = s.offeredPart := by
      unfold startFrame takePart
      (repeat' split) <;> first | rfl | exact offeredPart_driveSelected s.frames.queue
    have hview : s.SameView s.startFrame := ⟨by simp, by simp, by simp, by simp, by simp⟩
    exact of_invs (hview.timerInv ht (by simp) (by simp) (by simp)) (hview.offerInv ho (by simp) hoff) (.inl hoff)
  · have hview : s.SameView s.leaveWire := ⟨by simp, by simp, by simp, by simp, by simp⟩
    have hoff := offeredPart_leaveWire s
    exact of_invs (hview.timerInv ht (by simp) (by simp) (by simp)) (hview.offerInv ho (by simp) hoff) (.inl hoff)
  · have hoff := offeredPart_leaveWire s
    unfold abandon
    dsimp only
    split
    · refine Turning.settle (Turning.giveUpSending ⟨?_, .inl ?_⟩) _
      · simpa using ht.2.2
      · exact hoff
    · refine of_invs (SameView.timerInv (s := s) ⟨by simp, by simp, by simp, by simp, by simp⟩ ht (by simp) (by simp) (by simp))
        (SameView.offerInv (s := s) ⟨by simp, by simp, by simp, by simp, by simp⟩ ho (by simp) ?_) (.inl ?_) <;> exact hoff
  · have hview : s.SameView (s.discardFrame k) := ⟨by simp, by simp, by simp, by simp, by simp⟩
    have hoff : (s.discardFrame k).offeredPart = s.offeredPart := by
      unfold discardFrame
      split <;> exact offeredPart_endOther s
    exact of_invs (hview.timerInv ht (by simp) (by simp) (by simp)) (hview.offerInv ho (by simp) hoff) (.inl hoff)
  · have hview : s.SameView (s.setTime { s.time with counter := s.time.counter + 1 }).tickTimers :=
      ⟨rfl, rfl, rfl, rfl, rfl⟩
    refine of_invs (hview.timerInv ht rfl ?_ rfl) ?_ (.inl rfl)
    · show s.turn.timer.tick.bound = s.turn.timer.bound
      cases s.turn.timer <;> rfl
    · exact ho

end TurnsKept

end State

end Sys2Proof.Machine
end

section
/-! The SKIP place (R60, R61, R63): it holds a frame exactly while the turn timer is SKIPPING, so at every step; and with
it the laws of the turns. -/

namespace Sys2Proof.Machine

namespace State

variable {s t : State}

/-- Inside a reception the SKIP place holds the timer's SKIP, off the wire and with no request kept. -/
structure Skips (s : State) : Prop where
  rests : ∀ p ∈ s.frames.queue.skip, p.kept = .nothing ∧ p.onWire = false
  timer : s.frames.queue.skip.map (fun p => (p.frame.subject, p.frame.number)) = s.turn.timer.skips

namespace Skips

theorem skipInv (h : s.Skips) : s.SkipInv := ⟨fun p hp => (h.rests p hp).1, h.timer⟩

theorem of_none (hs : s.frames.queue.skip = none) (ht : s.turn.timer.skips = none) : s.Skips :=
  ⟨by simp [hs], by rw [hs, ht]; rfl⟩

theorem congr (h : s.Skips) (hs : t.frames.queue.skip = s.frames.queue.skip) (ht : t.turn = s.turn) : t.Skips :=
  ⟨hs ▸ h.rests, by rw [hs, ht]; exact h.timer⟩

/-- R136: off the wire a SKIP that is withdrawn is gone. -/
theorem withdrawSkip_skip (h : s.Skips) : s.withdrawSkip.frames.queue.skip = none := by
  simp only [withdrawSkip, setQueue_frames]
  cases hs : s.frames.queue.skip with
  | none => rfl
  | some p => simp [Place.withdraw, (h.rests p hs).2]

/-- R61: a timer that is not SKIPPING has no SKIP offered. -/
theorem dropSkip_skip (h : s.Skips) : s.dropSkip.frames.queue.skip = none := by
  unfold dropSkip
  split
  · exact h.withdrawSkip_skip
  · next hn =>
    have hnone : s.turn.timer.skips = none := by
      cases hm : s.turn.timer with
      | skipping m n => exact absurd hm (hn m n)
      | stopped => rfl
      | running m n r => rfl
    simpa [hnone] using h.timer

theorem freshTimer_skips (s : State) : s.freshTimer.skips = none := by
  unfold freshTimer
  split
  · split <;> rfl
  · rfl

theorem evalTimer (h : s.Skips) : s.evalTimer.Skips := by
  unfold State.evalTimer
  dsimp only
  split
  · exact ⟨h.rests, h.timer⟩
  · exact of_none h.dropSkip_skip (freshTimer_skips s)

theorem reassess (h : s.Skips) : s.reassess.Skips := evalTimer (h.congr (by simp) (by simp))

theorem stopTimer (h : s.Skips) : s.stopTimer.Skips := of_none h.dropSkip_skip rfl

theorem settle (h : s.Skips) (l : List Addr) : (s.settle l).Skips :=
  h.reassess.congr (by simp [State.settle]) (by simp [State.settle])

theorem hearMember (h : s.Skips) (m : Addr) (n : Nat) : (s.hearMember m n).Skips :=
  reassess (h.congr (by simp) (by simp))

theorem countPart (h : s.Skips) (m : Addr) (n : Nat) : (s.countPart m n).Skips := by
  unfold State.countPart
  dsimp only
  split
  · have htimer := h.timer
    split
    · next hm => exact ⟨h.rests, htimer⟩
    · next hm =>
      rw [hm] at htimer
      exact ⟨h.rests, htimer⟩
    · exact of_none h.withdrawSkip_skip rfl
  · exact h

theorem currentPart (h : s.Skips) (f : FragFrame) : (s.currentPart f).Skips := by
  have hpassed : (s.passImplied f.sender f.number.toNat).Skips := h.congr (by simp) (by simp)
  unfold State.currentPart
  dsimp only
  split
  · exact reassess (hpassed.congr (by simp) (by simp))
  · exact hpassed.reassess.countPart _ _

theorem handleFrag (h : s.Skips) (own : Bool) (f : FragFrame) : (s.handleFrag own f).Skips := by
  have hheard : (State.hearMember f.sender f.number.toNat (s.hearEvent f.number.toNat)).Skips :=
    hearMember (h.congr (by simp) (by simp)) _ _
  have hstored {t : State} (ht : t.Skips) : (if own then t.storePart f else t).Skips := by
    split
    · exact ht.congr (by simp) (by simp)
    · exact ht
  have hbuilt {t : State} {stamp : Option Time} (b : Bool) (ht : t.Skips) :
      (if b then t.buildFrame f.number.toNat stamp (State.applyPart f) else t).Skips := by
    split
    · exact ht.congr (by simp) (by simp)
    · exact ht
  unfold State.handleFrag
  dsimp only
  split
  · exact h
  · refine hbuilt _ (hstored ?_)
    split
    · exact hheard
    · split
      · exact hheard.congr (by simp) (by simp)
      · exact hheard.currentPart f

theorem enterSilenced (h : s.Skips) : s.enterSilenced.Skips := by
  rw [enterSilenced_eq]
  have hwithdrawn : ((s.setStore Store.empty).withdrawFrag).Skips := h.congr rfl rfl
  exact of_none hwithdrawn.withdrawSkip_skip rfl

theorem ownSilence (h : s.Skips) (n : Nat) : (s.ownSilence n).Skips := by
  have hraised : (s.raise .silenced n).Skips := h.congr (by simp) (by simp)
  unfold State.ownSilence
  dsimp only
  split
  · exact hraised.enterSilenced.congr (by simp) (by simp)
  · exact hraised.congr (by simp) (by simp)

theorem skipTurn (h : s.Skips) (m : Addr) (n : Nat) : (s.skipTurn m n).Skips := by
  have hmissed : ((s.missTurn m n).withdrawSkipFor m).Skips := by
    have hmiss : (s.missTurn m n).Skips := h.congr (by simp) (by simp)
    unfold State.withdrawSkipFor
    split
    · split
      · exact hmiss.stopTimer
      · exact hmiss
    · exact hmiss
  unfold State.skipTurn
  dsimp only
  split
  · have hdropped : (((s.missTurn m n).withdrawSkipFor m).dropRecord n).Skips := hmissed.congr (by simp) (by simp)
    split
    · exact hdropped.ownSilence n
    · exact hdropped
  · exact hmissed

/-- R62: the own SKIP has left its place, and the timer that offered it stops. -/
theorem ownSkip (h : s.frames.queue.skip = none) : s.ownSkip.Skips := by
  unfold State.ownSkip
  split
  · exact of_none h rfl
  · next hn =>
    refine of_none h ?_
    cases hm : s.turn.timer with
    | skipping m n => exact absurd hm (hn m n)
    | stopped => simp [hm, TurnTimer.skips]
    | running m n r => simp [hm, TurnTimer.skips]

theorem evalTimer_none (h : s.frames.queue.skip = none) : s.evalTimer.frames.queue.skip = none := by
  simp only [State.evalTimer, setTurn_frames]
  split
  · exact h
  · unfold dropSkip
    split
    · simp [withdrawSkip, h, Place.withdraw]
    · exact h

/-- A SKIP: the station's own one has left its place, another's finds the timer's there. -/
theorem handleSkip (own : Bool) (f : SkipFrame) (hown : own = true → s.frames.queue.skip = none)
    (hother : own = false ∨ s.tracks = false → s.Skips) : (s.handleSkip own f).Skips := by
  cases ht : s.tracks
  · simpa [State.handleSkip, ht] using hother (.inr ht)
  · have hheard : (s.skipHeard own f).Skips := by
      cases own
      · exact hearMember ((hother (.inl rfl)).congr (by simp) (by simp)) _ _
      · refine ownSkip (evalTimer_none ?_)
        simpa using hown rfl
    rw [State.handleSkip_of_tracks own f ht]
    split
    · have hskipped := (hheard.skipTurn f.subject f.number.toNat).reassess
      exact hskipped.congr (by simp) (by simp)
    · exact hheard

/-- R86, R142: a station that gives up sending has no SKIP offered, and its timer does not run. -/
theorem giveUpSending (h : s.isCollector = true → s.turn.timer = .stopped) : s.giveUpSending.Skips := by
  refine of_none (by rw [State.Queued.giveUpSending_frames]; rfl) ?_
  unfold State.giveUpSending
  split
  · simp [State.enterMute, Turn.blank, TurnTimer.skips]
  · next ha => simp [h ((isCollector_iff s).mpr ha), TurnTimer.skips]

theorem leaveListening (h : s.Skips) (hfits : s.Fits) (f : Frame) : (s.leaveListening f).Skips := by
  unfold State.leaveListening
  split
  · next hl =>
    have hempty : s.frames.queue = Queue.empty := hfits.queue (.inl (.inr (.inr hl)))
    split
    · split
      · exact of_none (by rw [(enterRollcall_queue s).2.1, hempty]; rfl)
          (by simp [State.enterRollcall, Turn.blank, TurnTimer.skips])
      · exact h.congr (by simp) (by simp)
    all_goals exact h.congr (by simp) (by simp)
  · exact h

/-! ## The end of a frame -/

theorem leaveUnsent (h : s.SkipInv) (hs : t.frames.queue.skip = s.frames.queue.skip.bind Place.leaveUnsent)
    (ht : t.turn = s.turn) : t.Skips := by
  obtain ⟨hkept, htimer⟩ := h
  cases hp : s.frames.queue.skip with
  | none => exact of_none (by rw [hs, hp]; rfl) (by rw [ht, ← htimer, hp]; rfl)
  | some p =>
    have hleft : t.frames.queue.skip = some { p with onWire := false } := by
      have hk := hkept p hp
      obtain ⟨frame, on, kept⟩ := p
      obtain rfl : kept = .nothing := hk
      rw [hs, hp]
      cases on <;> rfl
    refine ⟨fun q hq => ?_, by rw [hleft, ht, ← htimer, hp]; rfl⟩
    rw [hleft] at hq
    exact (Option.mem_some.mp hq) ▸ ⟨hkept p hp, rfl⟩

theorem endOther (h : s.SkipInv) : s.endOther.Skips :=
  leaveUnsent h (by simp [State.endOther, State.leaveWire, Queue.leaveUnsent]) (by simp)

/-- With one frame on the wire at most, the SKIP on it is the station's frame there. -/
theorem onWire_of_skip {q : Queue} (hw : q.wires ≤ 1) {p : Place SkipFrame} (hp : q.skip = some p) (hon : p.onWire = true) :
    q.onWire = some (.skip p.frame) := by
  rw [Queue.wires_eq, hp] at hw
  have hone : Place.wires (some p) = 1 := by simp [Place.wires, hon]
  have htakes : q.takes.findSome? Place.driven = none := by
    refine List.findSome?_eq_none_iff.mpr fun x hx => ?_
    have hzero : q.takes.countP (·.onWire) = 0 := by omega
    simp [Place.driven, List.countP_eq_zero.mp hzero x hx]
  simp [Queue.onWire, htakes, hp, Place.driven, hon]

/-- R139: the own SKIP that was sent leaves its place; any other frame leaves the place as it is. -/
theorem endOwn (h : s.SkipInv) (hw : s.frames.queue.wires ≤ 1) {f : Frame} (hf : s.isOwn f = true) :
    s.endOwn.Skips ∨ (∃ k, f = .skip k) ∧ s.endOwn.frames.queue.skip = none := by
  obtain ⟨hkept, htimer⟩ := h
  cases hp : s.frames.queue.skip with
  | none =>
    have hskip : s.endOwn.frames.queue.skip = none := by simp [State.endOwn, Queue.leaveSent, hp]
    have hturn : s.endOwn.turn = s.turn := by simp
    exact .inl (of_none hskip (by rw [hturn, ← htimer, hp]; rfl))
  | some p =>
    cases hon : p.onWire
    · have hskip : s.endOwn.frames.queue.skip = some p := by simp [State.endOwn, Queue.leaveSent, hp, Place.leaveSent, hon]
      refine .inl ⟨fun q hq => ?_, by rw [hskip, ← hp]; simpa using htimer⟩
      rw [hskip] at hq
      exact (Option.mem_some.mp hq) ▸ ⟨hkept p hp, hon⟩
    · refine .inr ⟨⟨p.frame, ?_⟩, by simp [State.endOwn, Queue.leaveSent, hp, Place.leaveSent, hon, hkept p hp]⟩
      have hwire := onWire_of_skip hw hp hon
      simp only [State.isOwn, hwire, decide_eq_true_eq, Option.some.injEq] at hf
      exact hf.symm

/-! ## Receptions -/

theorem clashCheck (h : s.Skips) (hfits : s.Fits) (own : Bool) (f : Frame) : (s.clashCheck own f).Skips := by
  refine clashCheck_cases (P := Skips) own f h fun _ _ _ => giveUpSending fun hc => ?_
  have hstopped := hfits.timer.resolve_left fun hd => (isCollector_iff s).mp hc hd.1
  simpa using hstopped

theorem giveOwners (h : s.Skips) (own : Bool) (f : Frame) (hn : own = true → ∀ k, f ≠ .skip k) :
    (s.giveOwners own f).Skips := by
  unfold State.giveOwners
  split
  · split
    · exact h.congr (by simp) (by simp)
    · exact h
  · exact h.handleFrag own _
  · next k =>
    cases own
    · exact handleSkip false k (by simp) fun _ => h
    · exact absurd rfl (hn rfl k)
  · exact h.congr (by simp) (by simp)

theorem handleFrame (h : s.Skips) (hfits : s.Fits) (hrst : s.pins.rst = false) (hu : s.unloaded = false) (own : Bool)
    (f : Frame) (hn : own = true → ∀ k, f ≠ .skip k) : (s.handleFrame own f).Skips := by
  have hchecked := h.clashCheck hfits own f
  refine hfits.handleFrame_cases hrst hu own f hchecked fun _ t ht _ _ => settle (giveOwners ?_ own f hn) _
  exact ht ▸ hchecked.leaveListening (hfits.clashCheck hrst own f) f

/-- R62: the own SKIP. -/
theorem handleFrame_ownSkip (h : s.frames.queue.skip = none) (hfits : s.Fits) (hrst : s.pins.rst = false)
    (hu : s.unloaded = false) (k : SkipFrame) : (s.handleFrame true (.skip k)).Skips := by
  have hstopped {t : State} (htfits : t.Fits) (hs : t.frames.queue.skip = none) (hd : ¬ t.drains) : t.Skips :=
    of_none hs (by rw [htfits.timer.resolve_left hd]; rfl)
  have hchecked : s.clashCheck true (.skip k) = s := by simp [State.clashCheck]
  cases hr : s.trig.restarting
  · have hframe : s.handleFrame true (.skip k) = ((s.leaveListening (.skip k)).handleSkip true k).settle s.order := by
      simp [State.handleFrame, hr, hchecked, State.giveOwners]
    obtain ⟨htfits, -⟩ := hfits.leaveListening hrst hu hr (.skip k)
    have hskip : (s.leaveListening (.skip k)).frames.queue.skip = none := by rw [(leaveListening_queue _ _).2.1, h]
    rw [hframe]
    refine settle (handleSkip true k (fun _ => hskip) fun hn => hstopped htfits hskip fun hd => ?_) _
    have htracks : (s.leaveListening (.skip k)).tracks = true := (tracks_iff _).mpr (.inr (.inl hd.2.1))
    rcases hn with hn | hn
    · simp at hn
    · simp [htracks] at hn
  · rw [handleFrame_restarting hr, hchecked]
    exact hstopped hfits h fun hd => absurd (hr.symm.trans hd.2.2) (by simp)

theorem received (h : s.SkipInv) (hw : s.frames.queue.wires ≤ 1) (hfits : s.Fits) (ht : s.takesFrame = true)
    (f : Frame) : (s.received f).Skips := by
  refine hfits.received_cases (P := Skips) ht f (fun hown he hrst hu => ?_) fun _ he hrst hu => ?_
  · rcases Skips.endOwn h hw hown with hskips | ⟨⟨k, rfl⟩, hnone⟩
    · by_cases hk : ∃ k, f = .skip k
      · obtain ⟨k, rfl⟩ := hk
        refine handleFrame_ownSkip ?_ he hrst hu k
        rcases Queue.onWire_cases (by simpa [isOwn] using hown) with ⟨p, -, -, hf⟩ | ⟨p, hp, hon, -⟩ | ⟨p, -, -, hf⟩ | ⟨p, -, -, hf⟩
        · cases hf
        · simp [State.endOwn, Queue.leaveSent, hp, Place.leaveSent, hon, h.1 p hp]
        · cases hf
        · cases hf
      · exact hskips.handleFrame he hrst hu true f fun _ k hf => hk ⟨k, hf⟩
    · exact handleFrame_ownSkip hnone he hrst hu k
  · exact (Skips.endOther h).handleFrame he hrst hu false f (by simp)

end Skips

/-! ## Every command -/

theorem skipInv_congr (h : s.SkipInv) (hs : t.frames.queue.skip = s.frames.queue.skip)
    (ht : t.turn.timer.skips = s.turn.timer.skips) : t.SkipInv := by
  rw [SkipInv, hs, ht]
  exact h

/-- R137: a SKIP that goes on the wire is the SKIP that stood in its place. -/
theorem skip_driveSelected (q : Queue) : q.driveSelected.skip = q.skip ∨ q.driveSelected.skip = q.skip.map Place.drive := by
  unfold Queue.driveSelected
  split
  case h_2 hp => exact .inr (by simp [hp])
  all_goals exact .inl rfl

theorem skipInv_after (h : s.SkipInv) (hw : s.frames.queue.wires ≤ 1) (hfits : s.Fits) (c : Instr) :
    (s.after c).SkipInv := by
  have kept {t : State} (hs : t.frames.queue.skip = s.frames.queue.skip) (ht : t.turn = s.turn) : t.SkipInv :=
    skipInv_congr h hs (by rw [ht])
  have blank {t : State} (hs : t.frames.queue.skip = none) (ht : t.turn.timer.skips = none) : t.SkipInv :=
    (Skips.of_none hs ht).skipInv
  have hrollcall {t : State} (hq : t.frames.queue = Queue.empty) : t.enterRollcall.SkipInv :=
    blank (by rw [(enterRollcall_queue t).2.1, hq]; rfl) (by simp [enterRollcall, Turn.blank, TurnTimer.skips])
  have hepoch (hs : s.start.station = .rollcall) : s.epoch.SkipInv := by
    have hstopped := hfits.timer.resolve_left fun hd => absurd (hs.symm.trans hd.2.1) (by simp)
    have hnone : s.frames.queue.skip = none := by
      have htimer := h.2
      rw [hstopped] at htimer
      simpa [TurnTimer.skips] using htimer
    rw [epoch_eq]
    exact (Skips.settle (s := s.started) (.of_none hnone rfl) []).skipInv
  refine State.after_cases (P := SkipInv) c s
    (idle := h) (reset := fun _ => blank rfl rfl)
    (release := fun _ _ _ _ => kept rfl rfl) (read := fun _ img trg _ _ => ?_)
    (sample := fun _ lp _ _ => kept (by simp) (by simp)) (window := fun _ _ => ?_)
    (edge := fun _ b _ _ _ => ?_) (request := fun _ _ _ _ _ => kept (by simp) (by simp))
    (normalPulse := fun _ _ => kept rfl rfl) (restartPulse := fun _ _ => kept rfl rfl)
    (restart := fun _ => kept (by simp) (by simp))
    (detection := fun _ _ _ => blank (by simp [detectRestart, Queue.empty]) (by simp [detectRestart, Turn.blank, TurnTimer.skips]))
    (trgRelease := fun _ _ _ _ => ?_)
    (listen := fun _ _ hs _ => hrollcall (hfits.queue (.inl (.inr (.inr hs)))))
    (roll := fun _ b _ hs _ => ?_) (hldFall := fun _ _ hs _ => hepoch hs)
    (turn := fun _ _ => ?_) (close := fun _ n _ => kept (by simp) (by simp))
    (datIdle := fun _ _ => ?_) (contention := fun _ _ => ?_)
    (lost := fun _ _ _ => (Skips.leaveUnsent h (by simp [leaveWire, Queue.leaveUnsent]) (by simp)).skipInv)
    (abandoned := fun _ _ f _ => ?_) (discard := fun _ _ k => ?_)
    (received := fun _ htakes f _ _ => (Skips.received h hw hfits htakes f).skipInv)
    (taking := fun _ _ _ => kept (by simp) (by simp)) (read_window := fun _ _ _ _ => kept rfl rfl)
    (clear := fun _ _ => kept rfl rfl) (ack := fun _ _ => kept rfl rfl) (write := fun _ => kept rfl rfl)
    (tick := fun _ _ => skipInv_congr h rfl ?_)
  · obtain ⟨d, hd⟩ := QueueStep.completeRead_frames img trg s
    exact kept (by rw [hd]) (by simp)
  · unfold expireWindow
    split
    · exact kept (by simp) (by simp)
    · exact h
  · unfold takeEdge decideEdge
    split
    · split
      · exact kept (by simp [acceptEdge, offerTake]) (by simp [acceptEdge])
      · exact kept rfl rfl
    · exact kept rfl rfl
  · unfold releaseTrg
    dsimp only
    split
    · next hr =>
      unfold endRestart
      split
      case h_6 | h_7 | h_8 => exact kept rfl rfl
      all_goals exact hrollcall (hfits.queue (.inr (.inr hr)))
    · exact kept rfl rfl
  · unfold meetRoll
    split
    · exact kept rfl rfl
    · exact hepoch hs
  · unfold expireTurn
    split
    · next m n r hr =>
      have hnone : s.frames.queue.skip = none := by
        have htimer := h.2
        rw [hr] at htimer
        simpa [TurnTimer.skips] using htimer
      refine ⟨fun p hp => ?_, ?_⟩
      · simp only [offerSkip, setTurn_frames, setQueue_frames, hnone, Place.offer, Option.mem_def, Option.some.injEq] at hp
        exact hp ▸ rfl
      · simp [offerSkip, hnone, Place.offer, Place.fresh, skipFrame, TurnTimer.skips]
    · exact h
  · unfold idleDat
    split
    · exact h
    · exact kept rfl rfl
  · have htaken : s.takePart.SkipInv := by
      rcases skip_driveSelected s.frames.queue with hs | hs
      · exact kept hs rfl
      · refine ⟨fun p hp => ?_, ?_⟩
        · obtain ⟨q, hq, rfl⟩ := Option.map_eq_some_iff.mp (hs ▸ hp)
          exact h.1 q hq
        · have hmap : s.takePart.frames.queue.skip.map (fun p => (p.frame.subject, p.frame.number))
              = s.frames.queue.skip.map fun p => (p.frame.subject, p.frame.number) := by
            rw [takePart, setFrames_frames, hs, Option.map_map]
            rfl
          exact hmap.trans h.2
    unfold startFrame
    (repeat' split) <;> first | exact htaken | exact kept rfl rfl
  · have hleft : s.leaveWire.Skips := Skips.leaveUnsent h (by simp [leaveWire, Queue.leaveUnsent]) (by simp)
    have hstopped : s.isCollector = true → s.turn.timer = .stopped := fun hc =>
      hfits.timer.resolve_left fun hd => (isCollector_iff s).mp hc hd.1
    unfold abandon
    dsimp only
    split
    · refine (Skips.settle (Skips.giveUpSending fun hc => ?_) _).skipInv
      have hc : s.isCollector = true := by simpa [isCollector] using hc
      simpa using hstopped hc
    · exact (hleft.congr (by simp) (by simp) : Skips _).skipInv
  · unfold discardFrame
    split
    · exact (Skips.endOther h).skipInv
    · exact ((Skips.endOther h).congr (by simp) (by simp) : Skips _).skipInv
  · show s.turn.timer.tick.skips = s.turn.timer.skips
    cases s.turn.timer <;> rfl

end State

/-- Settles O60: after every change of marks, list or roster the timer and then the own part are evaluated, and what is
evaluated obeys the laws; the SKIP place follows the timer. -/
theorem stepKeepsTurns : Obligations.StepKeepsTurns := by
  intro s t hs htimer hoffer ht
  rcases step_cases ht with rfl | ⟨c, rest, -, rfl⟩
  · exact ⟨htimer, hoffer, fun _ h => h, fun _ f hf hn => absurd hf hn⟩
  · have hfits : State.Fits { s with pending := rest } := State.Coherent.fits hs
    obtain ⟨ht, ho, hpart⟩ := State.TurnsKept.after (s := { s with pending := rest }) htimer hoffer hfits c
    refine ⟨ht, ho, fun hq hskip => ?_, fun ha f hf hn => hpart (fun e he => ?_) f hf hn⟩
    · exact State.skipInv_after (s := { s with pending := rest }) hskip hq.kept.wires hfits c
    · have hagree := (State.agreeInv_iff (s := { s with pending := rest })).mp ha |>.after hfits c
      exact (hagree.agree.entries e he).2.trans hagree.agree.high

end Sys2Proof.Machine
end

section
/-! The laws of the fragment store (R3, R8): what each change of the records and of the window keeps, and so every
step. -/

namespace Sys2Proof.Machine

/-- The store's own laws: its capacities, its one CAPTURING record under an open window, one sample of a channel. -/
structure Store.Kept (x : Store) : Prop where
  length : x.records.length ≤ 32
  samples : (x.records.map fun r => r.samples.length).sum ≤ 1024
  one : (x.records.countP fun r => r.state = .capturing) ≤ 1
  window : x.window.isSome = x.records.any fun r => r.state = .capturing
  channels : ∀ r ∈ x.records, (r.samples.map (·.channel)).Nodup

theorem State.storeInv_iff {s : State} : s.StoreInv ↔ s.store.Kept :=
  ⟨fun ⟨h1, h2, h3, h4, h5⟩ => ⟨h1, h2, h3, h4, h5⟩, fun ⟨h1, h2, h3, h4, h5⟩ => ⟨h1, h2, h3, h4, h5⟩⟩

/-- What the store's laws see of a record: its samples and whether it is CAPTURING. -/
def Record.filling (r : Record) : List Sample × Bool := (r.samples, decide (r.state = .capturing))

namespace Store.Kept
variable {x : Store}

theorem empty : Store.empty.Kept := by constructor <;> simp [Store.empty]

/-- The laws see samples and CAPTURING alone, and hold of fewer records too, the window open while one is CAPTURING. -/
theorem sublist (h : x.Kept) {y : Store}
    (hs : (y.records.map Record.filling).Sublist (x.records.map Record.filling))
    (hw : y.window.isSome = y.records.any fun r => r.state = .capturing) : y.Kept := by
  have hsamples (l : List Record) : (l.map fun r => r.samples.length) = (l.map Record.filling).map (·.1.length) := by
    simp [Record.filling, Function.comp_def]
  have hcount (l : List Record) :
      (l.countP fun r => r.state = .capturing) = (l.map Record.filling).countP (·.2) := by
    simp [List.countP_map, Record.filling, Function.comp_def]
  refine ⟨?_, ?_, ?_, hw, fun r hr => ?_⟩
  · simpa using hs.length_le.trans (by simpa using h.length)
  · rw [hsamples]
    refine (List.Sublist.sum_le_sum (hs.map _) (by simp)).trans ?_
    rw [← hsamples]
    exact h.samples
  · rw [hcount]
    refine (hs.countP_le).trans ?_
    rw [← hcount]
    exact h.one
  · obtain ⟨q, hq, he⟩ := List.mem_map.mp (hs.subset (List.mem_map.mpr ⟨r, hr, rfl⟩))
    have hsame : q.samples = r.samples := congrArg Prod.fst he
    exact hsame ▸ h.channels q hq

/-- A change that leaves every record's samples and whether it is CAPTURING. -/
theorem congr (h : x.Kept) {y : Store} (hs : y.records.map Record.filling = x.records.map Record.filling)
    (hw : y.window.isSome = x.window.isSome) : y.Kept := by
  refine h.sublist (hs ▸ List.Sublist.refl _) ?_
  have hany (l : List Record) : (l.any fun r => r.state = .capturing) = (l.map Record.filling).any (·.2) := by
    simp [List.any_map, Record.filling, Function.comp_def]
  rw [hw, h.window, hany, hany, hs]

/-- Records leave the store, and the window with the CAPTURING one. -/
theorem windowOver (h : x.Kept) {l : List Record}
    (hs : (l.map Record.filling).Sublist (x.records.map Record.filling)) :
    ({ window := x.windowOver l, records := l } : Store).Kept := by
  refine h.sublist hs ?_
  have hany (l : List Record) : (l.any fun r => r.state = .capturing) = (l.map Record.filling).any (·.2) := by
    simp [List.any_map, Record.filling, Function.comp_def]
  unfold Store.windowOver
  dsimp only
  split
  · next hc =>
    have hx : (x.records.any fun r => r.state = .capturing) = true := by
      rw [hany, List.any_eq_true] at hc ⊢
      obtain ⟨p, hp, hc⟩ := hc
      exact ⟨p, hs.subset hp, hc⟩
    rw [h.window, hx, hc]
  · next hc => simpa using hc

theorem modify (h : x.Kept) (n : Nat) {f : Record → Record} (hf : ∀ r, (f r).filling = r.filling) :
    (x.modify n f).Kept :=
  h.congr (changeRecord_map Record.filling n f hf x.records) rfl

theorem modifyCapturing (h : x.Kept) {f : Record → Record} (hf : ∀ r, (f r).filling = r.filling) :
    (x.modifyCapturing f).Kept := by
  refine h.congr ?_ rfl
  simp only [Store.modifyCapturing, List.map_map]
  refine List.map_congr_left fun r _ => ?_
  simp only [Function.comp_apply]
  split
  · exact hf r
  · rfl

theorem endWindow (h : x.Kept) : x.endWindow.Kept where
  length := by simpa [Store.endWindow] using h.length
  samples := by
    have hs := (Store.endWindow_spec x).2.2
    have := congrArg (fun l : List (List Sample) => (l.map List.length).sum) hs
    simp only [List.map_map] at this
    exact this.trans_le h.samples
  one := by
    rw [List.countP_eq_zero.mpr fun r hr => by simpa using (Store.endWindow_spec x).2.1 r hr]
    omega
  window := by
    have : ∀ r ∈ x.endWindow.records, r.state ≠ .capturing := (Store.endWindow_spec x).2.1
    rw [(Store.endWindow_spec x).1, eq_comm]
    simpa using this
  channels r hr := by
    have hm : r.samples ∈ x.endWindow.records.map (·.samples) := List.mem_map_of_mem hr
    rw [(Store.endWindow_spec x).2.2] at hm
    obtain ⟨q, hq, he⟩ := List.mem_map.mp hm
    exact he ▸ h.channels q hq

/-- R11: a new record under its window, over records none of which is CAPTURING. -/
theorem open_record (h : x.Kept) (hroom : x.records.length < 32) (ticks n : Nat) (t : Time) :
    ({ window := some ticks, records := x.endWindow.records ++ [newRecord n t] } : Store).Kept := by
  have he := h.endWindow
  have hnone : (x.endWindow.records.countP fun r => r.state = .capturing) = 0 :=
    List.countP_eq_zero.mpr fun r hr => by simpa using (Store.endWindow_spec x).2.1 r hr
  refine ⟨?_, ?_, ?_, ?_, fun r hr => ?_⟩
  · have : x.endWindow.records.length = x.records.length := by simp [Store.endWindow]
    simpa [this] using hroom
  · simpa [newRecord] using he.samples
  · rw [List.countP_append, hnone]
    exact (Nat.zero_add _).le.trans (List.countP_le_length)
  · simp [newRecord]
  · rcases List.mem_append.mp hr with hr | hr
    · exact he.channels r hr
    · rw [List.mem_singleton.mp hr]
      simp [newRecord]

/-- R6: the first record with the property, when at most one has it, is the only one that a change of those changes. -/
theorem sum_capturing (l : List Record) (h : (l.countP fun r => r.state = .capturing) ≤ 1) (y : Sample) :
    ((l.map fun r => if r.state = .capturing then Record.append y r else r).map fun r => r.samples.length).sum
      ≤ (l.map fun r => r.samples.length).sum + 1 := by
  have hlen (r : Record) : (if r.state = .capturing then Record.append y r else r).samples.length
      = r.samples.length + if r.state = .capturing then 1 else 0 := by
    split <;> simp [Record.append]
  simp only [List.map_map, Function.comp_def, hlen, List.sum_map_add]
  have : (l.map fun r : Record => if r.state = .capturing then 1 else 0).sum
      = l.countP fun r => r.state = .capturing := by
    induction l with
    | nil => rfl
    | cons r l ih =>
      have := ih (by rw [List.countP_cons] at h; omega)
      rw [List.map_cons, List.sum_cons, this, List.countP_cons]
      by_cases hr : r.state = .capturing <;> simp [hr, Nat.add_comm]
  omega

/-- R6: a sample of a new channel enters the CAPTURING record while the store has room for it. -/
theorem appendSample (h : x.Kept) {r : Record} (hr : x.capturing = some r) {y : Sample}
    (hc : r.hasChannel y.channel = false) (hroom : x.freeEntries ≠ 0) : (x.modifyCapturing (Record.append y)).Kept := by
  have hstate (q : Record) : (if q.state = .capturing then Record.append y q else q).state = q.state := by
    split <;> rfl
  have hsum := sum_capturing x.records h.one y
  have hfree : (x.records.map fun r => r.samples.length).sum < 1024 :=
    not_le.mp fun hle => hroom ((Store.freeEntries_eq_zero_iff x).mpr hle)
  refine ⟨by simpa [Store.modifyCapturing] using h.length, ?_, ?_, ?_, fun q hq => ?_⟩
  · exact hsum.trans hfree
  · simpa [Store.modifyCapturing, List.countP_map, Function.comp_def, hstate] using h.one
  · simpa [Store.modifyCapturing, List.any_map, Function.comp_def, hstate] using h.window
  · obtain ⟨p, hp, rfl⟩ := List.mem_map.mp hq
    split
    · next hcap =>
      have hpr : p = r := by
        by_contra hne
        have hr' := List.find?_some hr
        have hmem := List.mem_of_find?_eq_some hr
        have htwo : 2 ≤ x.records.countP fun r => r.state = .capturing := by
          have hsub : [p, r].Subperm (x.records.filter fun r => r.state = .capturing) := by
            refine List.subperm_of_subset (by simpa using hne) fun q hq => ?_
            simp only [List.mem_cons, List.not_mem_nil, or_false] at hq
            rcases hq with rfl | rfl
            · exact List.mem_filter.mpr ⟨hp, by simpa using hcap⟩
            · exact List.mem_filter.mpr ⟨hmem, hr'⟩
          rw [List.countP_eq_length_filter]
          exact hsub.length_le
        have := h.one
        omega
      subst hpr
      have hnew : y.channel ∉ p.samples.map (·.channel) := fun hm => by
        obtain ⟨z, hz, he⟩ := List.mem_map.mp hm
        exact Bool.false_ne_true (hc.symm.trans ((Record.hasChannel_iff p _).mpr ⟨z, hz, he⟩))
      simpa [Record.append, List.nodup_append, h.channels p hp] using fun z hz he => hnew (List.mem_map.mpr ⟨z, hz, he⟩)
    · exact h.channels p hp

end Store.Kept

/-! ## What leaves the records as they are -/

/-- What the laws of the store and of its order see of a record. -/
def Record.face (r : Record) : Nat × Bool × List Sample × Bool :=
  (r.number, r.answered, r.samples, decide (r.state = .capturing))

/-- From `x` to `y` records may leave, and none changes its number, its TAKE, its samples or whether it is CAPTURING. -/
structure Store.Shrinks (x y : Store) : Prop where
  records : (y.records.map Record.face).Sublist (x.records.map Record.face)
  window : x.window.isSome = (x.records.any fun r => r.state = .capturing) →
    y.window.isSome = y.records.any fun r => r.state = .capturing

theorem Store.Kept.shrinks {x y : Store} (h : x.Kept) (hs : x.Shrinks y) : y.Kept := by
  refine h.sublist ?_ (hs.window h.window)
  have hfill (l : List Record) : l.map Record.filling = (l.map Record.face).map fun p => (p.2.2.1, p.2.2.2) := by
    simp [Function.comp_def, Record.face, Record.filling]
  rw [hfill, hfill]
  exact hs.records.map _

theorem any_capturing (l : List Record) :
    (l.any fun r => r.state = .capturing) = (l.map Record.face).any (·.2.2.2) := by
  simp [List.any_map, Record.face, Function.comp_def]

namespace Store.Shrinks
variable {x y z : Store}

theorem refl (x : Store) : x.Shrinks x := ⟨List.Sublist.refl _, id⟩

theorem trans (h : x.Shrinks y) (k : y.Shrinks z) : x.Shrinks z :=
  ⟨k.records.trans h.records, fun hw => k.window (h.window hw)⟩

theorem empty (x : Store) : x.Shrinks Store.empty := ⟨by simp [Store.empty], fun _ => rfl⟩

theorem of_eq (h : y = x) : x.Shrinks y := h ▸ refl x

/-- The faces and the window stand. -/
theorem same (hr : y.records.map Record.face = x.records.map Record.face) (hw : y.window = x.window) :
    x.Shrinks y :=
  ⟨hr ▸ List.Sublist.refl _, fun h => by rw [hw, h, any_capturing, any_capturing, hr]⟩

theorem remove (n : Nat) (x : Store) : x.Shrinks (x.remove n) := by
  refine ⟨(Store.remove_sublist n x).map _, fun hw => ?_⟩
  have hsub := (Store.remove_sublist n x).subset
  show (x.windowOver (x.remove n).records).isSome = _
  unfold Store.windowOver
  split
  · next hc =>
    obtain ⟨r, hr, hcap⟩ := List.any_eq_true.mp hc
    rw [hw, hc]
    exact List.any_eq_true.mpr ⟨r, hsub hr, hcap⟩
  · next hc => simpa using hc

theorem changeRecord_same {α : Type} (g : Record → α) (n : Nat) (f : Record → Record) (l : List Record)
    (h : ∀ r, l.find? (fun r => r.number = n) = some r → g (f r) = g r) : (changeRecord n f l).map g = l.map g := by
  induction l with
  | nil => rfl
  | cons r l ih =>
    by_cases hr : r.number = n
    · simp [changeRecord, hr, h r (by simp [hr])]
    · simp only [changeRecord, hr, if_false, List.map_cons]
      rw [ih fun q hq => h q (by simpa [hr] using hq)]

theorem modify (n : Nat) {f : Record → Record}
    (h : ∀ r, x.records.find? (fun r => r.number = n) = some r → (f r).face = r.face) : x.Shrinks (x.modify n f) :=
  same (changeRecord_same Record.face n f x.records h) rfl

end Store.Shrinks

namespace State
variable {s : State}

theorem offerParts_shrinks (s : State) : s.store.Shrinks s.offerParts.store := by
  unfold offerParts
  split
  · simpa using Store.Shrinks.refl _
  · next n _ =>
    split
    · simpa using Store.Shrinks.refl _
    · next f hf =>
      split
      · exact Store.Shrinks.refl _
      · refine Store.Shrinks.modify n fun r hr => ?_
        have hrec : s.record? n = some r := hr
        unfold duePart at hf
        rw [hrec] at hf
        by_cases hc : r.state = .capturing
        · simp [hc] at hf
        · simp [Record.face, hc]

theorem settle_shrinks (l : List Addr) (s : State) : s.store.Shrinks (s.settle l).store := by
  have h := offerParts_shrinks s.reassess
  simpa [settle] using h

theorem takePair_shrinks (n : Nat) (t e : Time) (s : State) : s.store.Shrinks (s.takePair n t e).store := by
  unfold takePair
  split
  · exact Store.Shrinks.refl _
  · split
    · rw [show ((s.markSuspect n).bump .timeSuspects).store = (s.markSuspect n).store by simp]
      exact Store.Shrinks.modify n fun r _ => rfl
    · exact Store.Shrinks.refl _

theorem storePart_shrinks (f : FragFrame) (s : State) : s.store.Shrinks (s.storePart f).store := by
  unfold storePart
  dsimp only
  split
  · split
    · split
      · exact Store.Shrinks.remove _ _
      · exact Store.Shrinks.modify _ fun r _ => rfl
    · exact Store.Shrinks.refl _
  · exact Store.Shrinks.refl _

theorem handleFrag_shrinks (own : Bool) (f : FragFrame) (s : State) :
    s.store.Shrinks (s.handleFrag own f).store := by
  have heard (t : State) (ht : t.store = s.store) :
      s.store.Shrinks (if own then t.storePart f else t).store := by
    split
    · exact ht ▸ storePart_shrinks f t
    · exact .of_eq ht
  unfold handleFrag
  dsimp only
  split
  · exact .refl _
  · split
    · rw [(buildFrame_applyPart_frame _ _ _ _).2.2.2.2.2.1]
      exact heard _ (by (repeat' split) <;> simp)
    · exact heard _ (by (repeat' split) <;> simp)

theorem dropRecord_shrinks (n : Nat) (s : State) : s.store.Shrinks (s.dropRecord n).store := by
  unfold dropRecord
  split
  · rw [(bump_frame _ _).2.2.2.2.2.1]
    exact Store.Shrinks.remove _ _
  · exact .refl _

theorem ownSilence_shrinks (n : Nat) (s : State) : s.store.Shrinks (s.ownSilence n).store := by
  unfold ownSilence
  dsimp only
  split
  · simpa [enterSilenced] using Store.Shrinks.empty _
  · simpa using Store.Shrinks.refl _

theorem skipTurn_shrinks (m : Addr) (n : Nat) (s : State) : s.store.Shrinks (s.skipTurn m n).store := by
  have hmissed : ((s.missTurn m n).withdrawSkipFor m).store = s.store := by simp
  unfold skipTurn
  dsimp only
  split
  · have hdropped := dropRecord_shrinks n ((s.missTurn m n).withdrawSkipFor m)
    rw [hmissed] at hdropped
    split
    · exact hdropped.trans (ownSilence_shrinks _ _)
    · exact hdropped
  · exact .of_eq hmissed

theorem skipHeard_store (own : Bool) (f : SkipFrame) (s : State) : (s.skipHeard own f).store = s.store := by
  unfold skipHeard
  split <;> simp

theorem handleSkip_shrinks (own : Bool) (f : SkipFrame) (s : State) :
    s.store.Shrinks (s.handleSkip own f).store := by
  by_cases ht : s.tracks = true
  · rw [handleSkip_of_tracks own f ht]
    split
    · rw [(buildFrame_applySkip_frame _ _ _ _).2.2.2.2.2.1, (reassess_frame _).2.2.2.2.2.1, ← skipHeard_store own f s]
      exact skipTurn_shrinks _ _ _
    · exact .of_eq (skipHeard_store own f s)
  · exact .of_eq (by simp [handleSkip, ht])

/-- Where the station's state changes, the store stands or is emptied. -/
theorem enterJoining_store (s : State) : s.enterJoining.store = Store.empty := by simp [enterJoining]

theorem enterRollcall_store (s : State) : s.enterRollcall.store = Store.empty := by simp [enterRollcall]

theorem giveUpSending_shrinks (s : State) : s.store.Shrinks s.giveUpSending.store := by
  unfold giveUpSending
  split
  · exact Store.Shrinks.empty _
  · exact .of_eq (by simp)

theorem clashCheck_shrinks (own : Bool) (f : Frame) (s : State) : s.store.Shrinks (s.clashCheck own f).store := by
  refine clashCheck_cases (P := fun t => s.store.Shrinks t.store) own f (.refl _) fun _ _ _ => ?_
  simpa using giveUpSending_shrinks (s.raise .addressClash (frameField f).toNat)

theorem leaveListening_shrinks (f : Frame) (s : State) : s.store.Shrinks (s.leaveListening f).store := by
  unfold leaveListening
  split
  · split
    · split
      · exact enterRollcall_store s ▸ .empty _
      · exact enterJoining_store s ▸ .empty _
    all_goals exact enterJoining_store s ▸ .empty _
  · exact .refl _

theorem handleRoll_shrinks (own : Bool) (f : RollFrame) (s : State) : s.store.Shrinks (s.handleRoll own f).store := by
  unfold handleRoll
  split
  · exact rollcallRoll_cases (P := fun t => s.store.Shrinks t.store) own f s (stays := .refl _)
      (called := fun _ _ => .refl _) (marked := fun _ => .of_eq (by simp)) (present := fun _ _ => .of_eq (by simp))
      (joins := fun _ _ => enterJoining_store _ ▸ .empty _)
      (echoed := fun _ _ => by simpa [enterJoining_store] using Store.Shrinks.empty _)
  · split
    · exact .refl _
    · split
      · exact .of_eq (by simp)
      · exact .of_eq (by simp)

/-- A TAKE that answers or renumbers leaves every record's samples and state. -/
theorem answer_kept (h : s.store.Kept) (n : Nat) (x : Time) : (s.answer n x).store.Kept := by
  unfold answer
  split
  · exact h
  · refine Store.Kept.shrinks ?_ (takePair_shrinks _ _ _ _)
    simpa using h.modify n (f := fun r => { r with answered := true }) fun r => rfl

theorem filling_shift {oldest n : Nat} {r q : Record} (h : r.shift oldest n = some q) : q.filling = r.filling := by
  unfold Record.shift at h
  split at h
  · rw [Option.some.inj h]
  · obtain ⟨k, -, rfl⟩ := Option.map_eq_some_iff.mp h
    rfl

theorem renumber_kept (h : s.store.Kept) (oldest n : Nat) : (s.renumber oldest n).store.Kept := by
  have hshift : (((s.store.records.filterMap (Record.shift oldest n)).map Record.filling)).Sublist
      (s.store.records.map Record.filling) :=
    State.Queued.filterMap_map_sublist fun r _ q hq => filling_shift hq
  simpa [renumber] using h.windowOver hshift

theorem handleTake_kept (h : s.store.Kept) (n : Nat) (x : Time) : (s.handleTake n x).store.Kept := by
  have hmatch (t : State) (ht : t.store = s.store) : (t.matchTake n x).store.Kept := by
    unfold matchTake
    split
    · exact ht ▸ h
    · split
      · simpa [ht] using h
      · refine answer_kept ?_ n x
        split
        · exact ht ▸ h
        · exact renumber_kept (ht ▸ h) _ _
  unfold handleTake
  split
  · simpa using h
  · split
    · simpa using h
    · split
      · exact hmatch _ (by simp)
      · exact hmatch _ (by simp)

theorem filterSample_kept (h : s.store.Kept) (x : Sample) : (s.filterSample x).store.Kept := by
  unfold filterSample
  split
  · next r hw hr =>
    split
    · exact h
    · split
      · simpa using h
      · split
        · simpa using h.modifyCapturing (f := Record.double) fun _ => rfl
        · next hc =>
          split
          · dsimp only
            split
            · exact h.modifyCapturing (f := Record.truncate) fun _ => rfl
            · simpa using h.modifyCapturing (f := Record.truncate) fun _ => rfl
          · next hroom => exact h.appendSample hr (by simpa using hc) hroom
  · simpa using h

theorem storeEdge_kept (h : s.store.Kept) (n : Nat) (t : Time) : (s.storeEdge n t).store.Kept := by
  unfold storeEdge
  dsimp only
  split
  · next hroom => exact h.open_record hroom _ n t
  · simpa using h.endWindow

theorem takeEdge_kept (h : s.store.Kept) (b : Bool) : (s.takeEdge b).store.Kept := by
  unfold takeEdge decideEdge
  split
  · split
    · unfold acceptEdge
      refine Store.Kept.shrinks ?_ (offerParts_shrinks _)
      simpa using storeEdge_kept (s := State.countEdge _) (by simpa using h) _ _
    · simpa using h
  · exact h

theorem received_kept (h : s.store.Kept) (f : Frame) : (s.received f).store.Kept := by
  have owners (t : State) (ht : t.store.Kept) (own : Bool) : (t.giveOwners own f).store.Kept := by
    unfold giveOwners
    split
    · split
      · exact handleTake_kept ht _ _
      · exact ht
    · exact ht.shrinks (handleFrag_shrinks _ _ _)
    · exact ht.shrinks (handleSkip_shrinks _ _ _)
    · exact ht.shrinks (handleRoll_shrinks _ _ _)
  have handled (t : State) (ht : t.store.Kept) (own : Bool) : (t.handleFrame own f).store.Kept := by
    have hchecked := ht.shrinks (clashCheck_shrinks own f t)
    refine handleFrame_cases (P := fun u => u.store.Kept) own f t hchecked fun _ => ?_
    exact (owners _ (hchecked.shrinks (leaveListening_shrinks f _)) own).shrinks (settle_shrinks _ _)
  exact received_cases (P := fun u => u.store.Kept) f s (own := fun _ => handled _ (by simpa using h) true)
    (other := fun _ => handled _ (by simpa using h) false)

theorem releaseTrg_shrinks (s : State) : s.store.Shrinks s.releaseTrg.store := by
  unfold releaseTrg endRestart
  dsimp only
  split
  · split
    case h_6 | h_7 | h_8 => exact .refl _
    all_goals exact enterRollcall_store _ ▸ .empty _
  · exact .refl _

theorem epoch_shrinks (s : State) : s.store.Shrinks s.epoch.store := by
  rw [epoch_eq]
  exact settle_shrinks [] s.started

theorem abandon_shrinks (f : Frame) (s : State) : s.store.Shrinks (s.abandon f).store := by
  unfold abandon
  dsimp only
  split
  · refine Store.Shrinks.trans ?_ (settle_shrinks _ _)
    simpa using giveUpSending_shrinks (State.raise .trunkDrive (frameField f).toNat (State.bump .txRetries
      (s.leaveWire.setFrames { s.leaveWire.frames with
        failures := min Config.failureLimit (s.frames.failures + 1), dat := .abandoned })))
  · exact .of_eq (by simp)

theorem after_kept (h : s.store.Kept) (c : Instr) : (s.after c).store.Kept := by
  have same {t : State} (ht : t.store = s.store) : t.store.Kept := ht ▸ h
  refine after_cases (P := fun t => t.store.Kept) c s (idle := h)
    (reset := fun _ => Store.Kept.empty)
    (release := fun _ _ _ _ => h)
    (read := fun _ img trg _ _ => same (by simp))
    (sample := fun _ _ _ _ => filterSample_kept h _)
    (window := fun _ _ => ?_)
    (edge := fun _ b _ _ _ => takeEdge_kept h b)
    (request := fun _ _ _ _ _ => same (by simp))
    (normalPulse := fun _ _ => h) (restartPulse := fun _ _ => h)
    (restart := fun _ => same (by simp))
    (detection := fun _ _ _ => h.shrinks (by simpa [detectRestart] using Store.Shrinks.empty _))
    (trgRelease := fun _ _ _ _ => h.shrinks (releaseTrg_shrinks s))
    (listen := fun _ _ _ _ => enterRollcall_store s ▸ Store.Kept.empty) (roll := fun _ b _ _ _ => ?_)
    (hldFall := fun _ _ _ _ => h.shrinks (epoch_shrinks s))
    (turn := fun _ _ => same (by simp)) (close := fun _ _ _ => same (by simp))
    (datIdle := fun _ _ => same (by simp)) (contention := fun _ _ => same (by simp))
    (lost := fun _ _ _ => same (by simp)) (abandoned := fun _ _ f _ => h.shrinks (abandon_shrinks f s))
    (discard := fun _ _ _ => same (by simp)) (received := fun _ _ f _ _ => received_kept h f)
    (taking := fun _ _ _ => same (by simp)) (read_window := fun _ _ _ _ => h)
    (clear := fun _ _ => h) (ack := fun _ _ => h) (write := fun _ => h)
    (tick := fun _ _ => h.congr rfl (by simp [tickTimers, tickTimer]))
  · unfold expireWindow
    split
    · exact h.endWindow.shrinks (offerParts_shrinks (s.setStore s.store.endWindow))
    · exact h
  · unfold meetRoll
    split
    · exact h
    · exact h.shrinks (epoch_shrinks s)

end State

end Sys2Proof.Machine
end

section
/-! The order of the store (R10): answered records up to the high take, then the pending ones, each with its entry, and
EVN above them all; what each change keeps, and so every step outside the two cases of log 28. -/

namespace Sys2Proof.Machine

/-- R10, R29, R35: records in ascending number, those whose TAKE is answered up to `high`, and the others the records of
pending numbers, which are above it. -/
structure Store.Ordered (x : Store) (high : Nat) (pend : List Nat) : Prop where
  ascending : ascending (x.records.map (·.number))
  pending : ∀ r ∈ x.records, r.answered = false → r.number ∈ pend
  above : ∀ k ∈ pend, high < k
  answered : ∀ r ∈ x.records, r.answered = true → r.number ≤ high

namespace Store.Ordered
variable {x y : Store} {high : Nat} {pend : List Nat}

theorem empty (high : Nat) : Store.empty.Ordered high [] := by constructor <;> simp [Store.empty, Machine.ascending]

/-- Records may leave, and the others keep their numbers and TAKEs. -/
theorem of_sublist (h : x.Ordered high pend)
    (hs : (y.records.map fun r => (r.number, r.answered)).Sublist (x.records.map fun r => (r.number, r.answered))) :
    y.Ordered high pend := by
  have hfound (q : Record) (hq : q ∈ y.records) : ∃ r ∈ x.records, r.number = q.number ∧ r.answered = q.answered := by
    obtain ⟨r, hr, he⟩ := List.mem_map.mp (hs.subset (List.mem_map.mpr ⟨q, hq, rfl⟩))
    exact ⟨r, hr, congrArg Prod.fst he, congrArg Prod.snd he⟩
  refine ⟨?_, fun q hq hp => ?_, h.above, fun q hq ha => ?_⟩
  · have hnumbers : (y.records.map (·.number)).Sublist (x.records.map (·.number)) := by
      simpa [Function.comp_def] using hs.map Prod.fst
    exact h.ascending.sublist hnumbers
  · obtain ⟨r, hr, hn, hans⟩ := hfound q hq
    exact hn ▸ h.pending r hr (hans.trans hp)
  · obtain ⟨r, hr, hn, hans⟩ := hfound q hq
    exact hn ▸ h.answered r hr (hans.trans ha)

theorem shrinks (h : x.Ordered high pend) (hs : x.Shrinks y) : y.Ordered high pend := by
  refine h.of_sublist ?_
  have hface (l : List Record) :
      (l.map fun r => (r.number, r.answered)) = (l.map Record.face).map fun p => (p.1, p.2.1) := by
    simp [Function.comp_def, Record.face]
  rw [hface, hface]
  exact hs.records.map _

theorem same (h : x.Ordered high pend)
    (hs : (y.records.map fun r => (r.number, r.answered)) = x.records.map fun r => (r.number, r.answered)) :
    y.Ordered high pend := h.of_sublist (hs ▸ List.Sublist.refl _)

theorem endWindow (h : x.Ordered high pend) : x.endWindow.Ordered high pend := by
  refine h.same ?_
  simp only [Store.endWindow, List.map_map]
  refine List.map_congr_left fun r _ => ?_
  simp only [Function.comp_apply, Record.endWindow]
  split <;> rfl

/-- The high take rises below every pending number. -/
theorem raise (h : x.Ordered high pend) {n : Nat} (hn : high ≤ n) (hp : ∀ k ∈ pend, n < k) : x.Ordered n pend :=
  ⟨h.ascending, h.pending, hp, fun r hr ha => (h.answered r hr ha).trans hn⟩

/-- R25, R11: a record for the number that enters the pending queue. -/
theorem append (h : x.Ordered high pend) {n : Nat} (hn : high < n) (hp : ∀ k ∈ pend, k < n) (w : Option Nat) {r : Record}
    (hr : r.number = n ∧ r.answered = false) : ({ window := w, records := x.records ++ [r] } : Store).Ordered high
      (pend ++ [n]) := by
  refine ⟨?_, fun q hq ha => ?_, fun k hk => ?_, fun q hq ha => ?_⟩
  · rw [List.map_append, List.map_singleton, Machine.ascending, List.pairwise_append]
    refine ⟨h.ascending, List.pairwise_singleton _ _, fun a ha b hb => ?_⟩
    obtain ⟨q, hq, rfl⟩ := List.mem_map.mp ha
    rw [List.mem_singleton.mp hb, hr.1]
    cases hans : q.answered with
    | true => exact (h.answered q hq hans).trans_lt hn
    | false => exact hp _ (h.pending q hq hans)
  · rcases List.mem_append.mp hq with hq | hq
    · exact List.mem_append_left _ (h.pending q hq ha)
    · rw [List.mem_singleton.mp hq, hr.1]
      simp
  · rcases List.mem_append.mp hk with hk | hk
    · exact h.above k hk
    · exact (List.mem_singleton.mp hk) ▸ hn
  · rcases List.mem_append.mp hq with hq | hq
    · exact h.answered q hq ha
    · rw [List.mem_singleton.mp hq, hr.2] at ha
      exact absurd ha (by simp)

/-- A pending number enters without a record. -/
theorem appendPending (h : x.Ordered high pend) {n : Nat} (hn : high < n) : x.Ordered high (pend ++ [n]) :=
  ⟨h.ascending, fun r hr ha => List.mem_append_left _ (h.pending r hr ha), fun k hk => by
    rcases List.mem_append.mp hk with hk | hk
    · exact h.above k hk
    · exact (List.mem_singleton.mp hk) ▸ hn, h.answered⟩

/-- R34: the oldest pending number is answered and becomes the high take. -/
theorem answer (h : x.Ordered high (n :: pend)) (hp : ∀ k ∈ pend, n < k) :
    (x.modify n fun r => { r with answered := true }).Ordered n pend := by
  have hn : high < n := h.above n List.mem_cons_self
  have hmem (q : Record) (hq : q ∈ (x.modify n fun r => { r with answered := true }).records) :
      q ∈ x.records ∧ q.number ≠ n ∨ q.number = n ∧ q.answered = true := by
    have hasc := h.ascending
    simp only [Store.modify] at hq
    revert hq hasc
    induction x.records with
    | nil => simp [changeRecord]
    | cons r l ih =>
      intro hq hasc
      rw [List.map_cons, Machine.ascending, List.pairwise_cons] at hasc
      obtain ⟨hfirst, hrest⟩ := hasc
      by_cases hr : r.number = n
      · simp only [changeRecord, hr, if_true, List.mem_cons] at hq
        rcases hq with rfl | hq
        · exact .inr (by simp)
        · exact .inl ⟨List.mem_cons_of_mem _ hq, (hr ▸ hfirst _ (List.mem_map_of_mem hq)).ne'⟩
      · simp only [changeRecord, hr, if_false, List.mem_cons] at hq
        rcases hq with rfl | hq
        · exact .inl ⟨List.mem_cons_self, hr⟩
        · rcases ih hq hrest with ⟨hq, hne⟩ | hq
          · exact .inl ⟨List.mem_cons_of_mem _ hq, hne⟩
          · exact .inr hq
  refine ⟨?_, fun q hq ha => ?_, hp, fun q hq ha => ?_⟩
  · have hnumbers := changeRecord_map (·.number) n (fun r => { r with answered := true }) (fun _ => rfl) x.records
    exact hnumbers.symm ▸ h.ascending
  · rcases hmem q hq with ⟨hq, hne⟩ | ⟨-, hans⟩
    · exact (List.mem_cons.mp (h.pending q hq ha)).resolve_left hne
    · exact absurd (hans.symm.trans ha) (by simp)
  · rcases hmem q hq with ⟨hq, hne⟩ | ⟨hqn, -⟩
    · exact (h.answered q hq ha).trans hn.le
    · exact hqn.le

/-- R13, R35: pending records and pending numbers shift together, above every number up to which TAKEs are answered. -/
theorem shift (h : x.Ordered high pend) {oldest n : Nat} (ho : ∀ k ∈ pend, oldest ≤ k) (hn : high < n) (w : Option Nat) :
    ({ window := w, records := x.records.filterMap (Record.shift oldest n) } : Store).Ordered (n - 1)
      (pend.filterMap (shiftNumber oldest n)) := by
  have hshift (q : Record) (hq : q ∈ x.records.filterMap (Record.shift oldest n)) : ∃ r ∈ x.records,
      r.shift oldest n = some q ∧ (r.answered = true ∧ q = r ∨ r.answered = false ∧ q.answered = false
        ∧ r.number ∈ pend ∧ shiftNumber oldest n r.number = some q.number ∧ q.number = r.number + n - oldest) := by
    obtain ⟨r, hr, hq⟩ := List.mem_filterMap.mp hq
    refine ⟨r, hr, hq, ?_⟩
    unfold Record.shift at hq
    split at hq
    · next ha => exact .inl ⟨ha, (Option.some.inj hq).symm⟩
    · next ha =>
      obtain ⟨k, hk, rfl⟩ := Option.map_eq_some_iff.mp hq
      have ha : r.answered = false := by simpa using ha
      exact .inr ⟨ha, ha, h.pending r hr ha, hk, (shiftNumber_eq_some.mp hk).2⟩
  refine ⟨?_, fun q hq ha => ?_, fun k hk => ?_, fun q hq ha => ?_⟩
  · have hasc := h.ascending
    simp only [Machine.ascending, List.pairwise_map, List.pairwise_filterMap] at hasc ⊢
    refine hasc.imp_of_mem fun {a b} ha hb hlt p hp q hq => ?_
    have hside (r s : Record) (hr : r ∈ x.records) (hs : r.shift oldest n = some s) :
        r.answered = true ∧ s = r ∧ r.number ≤ high
          ∨ r.answered = false ∧ high < r.number ∧ oldest ≤ r.number ∧ s.number = r.number + n - oldest := by
      unfold Record.shift at hs
      split at hs
      · next ha => exact .inl ⟨ha, (Option.some.inj hs).symm, h.answered r hr ha⟩
      · next ha =>
        obtain ⟨k, hk, rfl⟩ := Option.map_eq_some_iff.mp hs
        have ha : r.answered = false := by simpa using ha
        have hin := h.pending r hr ha
        exact .inr ⟨ha, h.above _ hin, ho _ hin, (shiftNumber_eq_some.mp hk).2⟩
    rcases hside a p ha hp with ⟨-, rfl, hle⟩ | ⟨-, hlt', hole, hpn⟩
    · rcases hside b q hb hq with ⟨-, rfl, -⟩ | ⟨-, -, hole', hqn⟩
      · exact hlt
      · omega
    · rcases hside b q hb hq with ⟨-, rfl, hle⟩ | ⟨-, -, hole', hqn⟩ <;> omega
  · obtain ⟨r, -, -, ⟨hans, rfl⟩ | ⟨-, -, hin, hk, -⟩⟩ := hshift q hq
    · exact absurd (hans.symm.trans ha) (by simp)
    · exact List.mem_filterMap.mpr ⟨_, hin, hk⟩
  · obtain ⟨j, hj, hk⟩ := List.mem_filterMap.mp hk
    have := ho j hj
    have := (shiftNumber_eq_some.mp hk).2
    omega
  · obtain ⟨r, hr, -, ⟨-, rfl⟩ | ⟨-, hans, -⟩⟩ := hshift q hq
    · exact Nat.le_sub_one_of_lt ((h.answered q hr ha).trans_lt hn)
    · exact absurd (hans.symm.trans ha) (by simp)

end Store.Ordered

/-- The run of the numbering stands: EVN, the pending entries, the high take and exhaustion. -/
structure Agreement.SameRun (x y : Agreement) : Prop where
  evn : y.evn = x.evn
  pendingTakes : y.pendingTakes = x.pendingTakes
  highTake : y.highTake = x.highTake
  exhausted : y.exhausted = x.exhausted

namespace Agreement.SameRun
variable {x y z : Agreement}

theorem refl (x : Agreement) : x.SameRun x := ⟨rfl, rfl, rfl, rfl⟩

theorem of_eq (h : y = x) : x.SameRun y := h ▸ refl x

theorem trans (h : x.SameRun y) (k : y.SameRun z) : x.SameRun z :=
  ⟨k.evn.trans h.evn, k.pendingTakes.trans h.pendingTakes, k.highTake.trans h.highTake, k.exhausted.trans h.exhausted⟩

end Agreement.SameRun

/-- R10, R29, R35, R38: the order of the store, and EVN above the high take while the station numbers. -/
structure State.OrderKept (s : State) : Prop where
  store : s.store.Ordered s.agree.highTake (s.agree.pendingTakes.map (·.number))
  evn : s.numbers → s.agree.exhausted = false → s.agree.highTake < s.agree.evn

theorem State.orderInv_iff {s : State} : s.OrderInv ↔ s.OrderKept := by
  constructor
  · rintro ⟨⟨hasc, -⟩, hpending, habove, hanswered, hevn⟩
    refine ⟨⟨hasc, hpending, fun k hk => ?_, hanswered⟩, fun ⟨ha, hs, hr⟩ he => hevn ⟨ha, hs, he, hr⟩⟩
    obtain ⟨p, hp, rfl⟩ := List.mem_map.mp hk
    exact habove p hp
  · intro ⟨h, hevn⟩
    have habove {r : Record} (hr : r ∈ s.store.records) (ha : r.answered = false) : s.agree.highTake < r.number :=
      h.above _ (h.pending r hr ha)
    exact ⟨⟨h.ascending, fun r hr ha => ⟨habove hr ha, fun q hq hqa => (h.answered q hq hqa).trans_lt (habove hr ha)⟩⟩,
      h.pending, fun p hp => h.above _ (List.mem_map_of_mem hp), h.answered, fun ⟨ha, hs, he, hr⟩ => hevn ⟨ha, hs, hr⟩ he⟩

namespace State
variable {s t : State}

/-! ## What leaves the run as it is -/

theorem reassess_run (s : State) : s.agree.SameRun s.reassess.agree := by constructor <;> simp

theorem settle_run (l : List Addr) (s : State) : s.agree.SameRun (s.settle l).agree := by constructor <;> simp

theorem hearMember_run (m : Addr) (n : Nat) (s : State) : s.agree.SameRun (s.hearMember m n).agree := by
  have h := reassess_run (s.learn m n)
  simpa [hearMember] using h

theorem currentPart_run (f : FragFrame) (s : State) : s.agree.SameRun (s.currentPart f).agree := by
  unfold currentPart
  dsimp only
  split
  · have h := reassess_run ((s.passImplied f.sender f.number.toNat).finishPart f.sender f.number.toNat)
    simpa using h
  · have h := reassess_run (s.passImplied f.sender f.number.toNat)
    simpa using h

/-- What a FRAG part shows of the trunk's count is all that it moves of the run. -/
theorem handleFrag_run (own : Bool) (f : FragFrame) (h : s.tracks = true) :
    (s.hearEvent f.number.toNat).agree.SameRun (s.handleFrag own f).agree := by
  have heard := hearMember_run f.sender f.number.toNat (s.hearEvent f.number.toNat)
  have parts (t : State) (ht : ((s.hearEvent f.number.toNat).hearMember f.sender f.number.toNat).agree.SameRun t.agree) :
      (s.hearEvent f.number.toNat).agree.SameRun (if own then t.storePart f else t).agree := by
    split
    · simpa using heard.trans ht
    · exact heard.trans ht
  unfold handleFrag
  simp only [h, Bool.not_true, Bool.false_eq_true, if_false]
  split
  · rw [(buildFrame_applyPart_frame _ _ _ _).2.2.2.2.2.2.1]
    refine parts _ ?_
    (repeat' split)
    · exact .refl _
    · simpa using Agreement.SameRun.refl _
    · exact currentPart_run f _
  · refine parts _ ?_
    (repeat' split)
    · exact .refl _
    · simpa using Agreement.SameRun.refl _
    · exact currentPart_run f _

theorem skipHeard_run (own : Bool) (f : SkipFrame) (s : State) :
    (s.hearEvent f.number.toNat).agree.SameRun (s.skipHeard own f).agree := by
  have heard := hearMember_run f.subject f.number.toNat (s.hearEvent f.number.toNat)
  unfold skipHeard
  split
  · simpa using heard
  · exact heard

theorem skipTurn_agree (m : Addr) (n : Nat) (s : State) : (s.skipTurn m n).agree = s.agree := by
  unfold skipTurn
  dsimp only
  split
  · split
    · unfold ownSilence
      dsimp only
      split <;> simp [enterSilenced]
    · simp
  · simp

theorem handleSkip_run (own : Bool) (f : SkipFrame) (h : s.tracks = true) :
    (s.hearEvent f.number.toNat).agree.SameRun (s.handleSkip own f).agree := by
  have heard := skipHeard_run own f s
  rw [handleSkip_of_tracks own f h]
  split
  · rw [(buildFrame_applySkip_frame _ _ _ _).2.2.2.2.2.2.1]
    refine heard.trans (.trans (.of_eq ?_) (reassess_run _))
    exact skipTurn_agree _ _ _
  · exact heard

/-- R84: a SKIP moves the station's state to SILENCED alone. -/
theorem handleSkip_start (own : Bool) (f : SkipFrame) (s : State) : (s.handleSkip own f).start = s.start
    ∨ s.start.station = .running ∧ (s.handleSkip own f).start = { s.start with station := .silenced } := by
  have hheard : (s.skipHeard own f).start = s.start := by unfold skipHeard; split <;> simp
  cases ht : s.tracks
  · exact .inl (by simp [handleSkip, ht])
  · rw [handleSkip_of_tracks own f ht]
    split
    · rw [(buildFrame_applySkip_frame _ _ _ _).2.1, (reassess_frame _).2.1, ← hheard]
      unfold skipTurn
      dsimp only
      split
      · split
        · rw [ownSilence_start]
          split
          · next hs => exact .inr ⟨by simpa using hs.2, by simp⟩
          · exact .inl (by simp)
        · exact .inl (by simp)
      · exact .inl (by simp)
    · exact .inl hheard

namespace OrderKept

theorem of_run (h : s.OrderKept) (hs : s.store.Shrinks t.store) (hr : s.agree.SameRun t.agree)
    (hn : t.numbers → s.numbers) : t.OrderKept := by
  refine ⟨?_, fun ht he => ?_⟩
  · rw [hr.highTake, hr.pendingTakes]
    exact h.store.shrinks hs
  · rw [hr.highTake, hr.evn]
    exact h.evn (hn ht) (hr.exhausted ▸ he)

theorem congr (h : s.OrderKept) (hs : t.store = s.store) (ha : t.agree = s.agree) (hp : t.pins = s.pins)
    (hstation : t.start.station = s.start.station) (hr : t.trig.restarting = s.trig.restarting) : t.OrderKept :=
  h.of_run (.of_eq hs) (.of_eq ha) fun hn => by
    simpa only [State.numbers, isAcquirer, hp, hstation, hr] using hn

/-- A station without records or pending entries that does not number. -/
theorem quiet (hs : t.store = Store.empty) (hp : t.agree.pendingTakes = []) (hn : ¬ t.numbers) : t.OrderKept :=
  ⟨by rw [hs, hp]; exact .empty _, fun h => absurd h hn⟩

theorem settle (h : s.OrderKept) (l : List Addr) : (s.settle l).OrderKept :=
  h.of_run (settle_shrinks l s) (settle_run l s) fun hn => by
    simpa only [State.numbers, isAcquirer, settle_frame] using hn

/-! ## TAKE frames -/

end OrderKept

/-- R35: the pending entries shift, the list stands, and EVN shifts with them unless the run is exhausted. -/
theorem renumber_agree (oldest n : Nat) (s : State) :
    (s.renumber oldest n).agree.pendingTakes = shiftPending oldest n s.agree.pendingTakes
      ∧ (s.renumber oldest n).agree.highTake = s.agree.highTake
      ∧ ((s.renumber oldest n).agree.exhausted = false →
        s.agree.exhausted = false ∧ (s.renumber oldest n).agree.evn = s.agree.evn + n - oldest) := by
  unfold renumber shiftEvn
  dsimp only
  split
  · simp [becomeExhausted]
  · split
    · next h =>
      have h : s.agree.exhausted = true := h
      simp [h]
    · split <;> simp_all [becomeExhausted]

theorem renumber_records (oldest n : Nat) (s : State) :
    (s.renumber oldest n).store.records = s.store.records.filterMap (Record.shift oldest n) := by
  simp [renumber]

theorem map_shiftPending (oldest n : Nat) (l : List PendingTake) :
    (shiftPending oldest n l).map (·.number) = (l.map (·.number)).filterMap (shiftNumber oldest n) := by
  simp [shiftPending, List.map_filterMap, List.filterMap_map, Function.comp_def]

/-- R34: the first pending entry goes, and its record is answered. -/
theorem answer_agree {p : PendingTake} {l : List PendingTake} (h : s.agree.pendingTakes = p :: l) (n : Nat) (x : Time) :
    (s.answer n x).agree = { s.agree with pendingTakes := l } := by
  simp [answer, h]

theorem answer_shrinks {p : PendingTake} {l : List PendingTake} (h : s.agree.pendingTakes = p :: l) (n : Nat) (x : Time) :
    (s.store.modify n fun r => { r with answered := true }).Shrinks (s.answer n x).store := by
  unfold answer
  rw [h]
  simpa using takePair_shrinks n x p.edgeTime (State.setStore (s.store.modify n fun r => { r with answered := true })
    ((s.setAgree { s.agree with pendingTakes := l }).withdrawTake n))

/-- R34: what the answering of the oldest pending number leaves in order. -/
theorem answer_order {p : PendingTake} {l : List PendingTake} (hp : s.agree.pendingTakes = p :: l) {high : Nat}
    (hs : s.store.Ordered high (s.agree.pendingTakes.map (·.number)))
    (hasc : ascending (s.agree.pendingTakes.map (·.number))) (ht : s.agree.highTake = p.number)
    (hevn : s.agree.exhausted = false → p.number < s.agree.evn) (x : Time) : (s.answer p.number x).OrderKept := by
  rw [hp, List.map_cons] at hs hasc
  have hagree := answer_agree hp p.number x
  refine ⟨?_, fun _ he => ?_⟩
  · rw [hagree]
    simp only [ht]
    exact (hs.answer (List.pairwise_cons.mp hasc).1).shrinks (answer_shrinks hp p.number x)
  · rw [hagree] at he ⊢
    exact ht ▸ hevn he

/-- R32, R34 to R36: a new number becomes the high take, and the matching brings the pending numbers above it. -/
theorem matchTake_order (ha : s.AgreeKept) {n : Nat} {high : Nat}
    (hs : s.store.Ordered high (s.agree.pendingTakes.map (·.number))) (hn : high < n) (hmax : n ≤ maxEvent)
    (ht : s.agree.highTake = n) (hquiet : s.matches = false → s.agree.pendingTakes = []) (x : Time) :
    (s.matchTake n x).OrderKept := by
  have hraised (hp : s.agree.pendingTakes = []) : s.store.Ordered n (s.agree.pendingTakes.map (·.number)) :=
    hs.raise hn.le (by simp [hp])
  unfold matchTake
  split
  · next hm =>
    have hm : s.matches = false := by simpa using hm
    refine ⟨ht ▸ hraised (hquiet hm), fun hnum _ => absurd hm ?_⟩
    rcases hnum.2.1 with hst | hst <;> simp [State.matches, hnum.1, hst]
  · split
    · next hp =>
      have hkept (t : State) (hst : t.store = s.store) (hagree : t.agree.highTake = s.agree.highTake
          ∧ t.agree.pendingTakes = s.agree.pendingTakes) (hevn : t.agree.exhausted = false → n < t.agree.evn) :
          t.OrderKept :=
        ⟨by rw [hst, hagree.1, hagree.2, ht]; exact hraised hp, fun _ he => by rw [hagree.1, ht]; exact hevn he⟩
      unfold catchUp
      split
      · next hc =>
        refine hkept s rfl ⟨rfl, rfl⟩ fun he => ?_
        simpa [he] using hc
      · split
        · exact hkept _ (by simp) (by simp [becomeExhausted]) (by simp [becomeExhausted])
        · exact hkept _ (by simp) (by simp) (by simp)
    · next p l hp =>
      have holdest := ha.agree.oldest_le hp
      have hevn (he : s.agree.exhausted = false) : p.number < s.agree.evn :=
        (ha.agree.numbers p (hp ▸ List.mem_cons_self)).2.2.resolve_left (by simp [he])
      split
      · next hpn =>
        subst hpn
        exact answer_order hp hs ha.agree.pending ht hevn x
      · obtain ⟨hshifted, hhigh, hrun⟩ := renumber_agree p.number n s
        have hhead : shiftPending p.number n s.agree.pendingTakes
            = { p with number := n } :: shiftPending p.number n l := by
          have hsome : shiftNumber p.number n p.number = some n := shiftNumber_eq_some.mpr (by omega)
          simp [hp, shiftPending, hsome]
        refine answer_order (s := s.renumber p.number n) (hshifted.trans hhead) (high := n - 1) ?_ ?_ (hhigh.trans ht) ?_ x
        · rw [hshifted, map_shiftPending]
          refine (hs.shift (oldest := p.number) (fun k hk => ?_) hn (s.renumber p.number n).store.window).same ?_
          · obtain ⟨q, hq, rfl⟩ := List.mem_map.mp hk
            exact holdest q hq
          · rw [renumber_records]
        · rw [hshifted]
          exact shiftPending_ascending ha.agree.pending holdest
        · intro he
          obtain ⟨he, hv⟩ := hrun he
          have := hevn he
          rw [hv]
          dsimp only
          omega

namespace OrderKept

theorem handleTake (h : s.OrderKept) (ha : s.AgreeKept) (hroom : s.agree.takeList.length < 64)
    (hquiet : s.matches = false → s.agree.pendingTakes = []) {n : Nat} (hmax : n ≤ maxEvent) (x : Time) :
    (s.handleTake n x).OrderKept := by
  unfold State.handleTake
  split
  · exact h.of_run (.of_eq (by simp)) (by unfold fillTake fillBuilds; split <;> exact ⟨rfl, rfl, rfl, rfl⟩) fun hn => by
      simpa only [State.numbers, isAcquirer, fillTake_frame] using hn
  · split
    · exact h.congr (by simp) (by simp) (by simp) (by simp) (by simp)
    · next hn =>
      split
      · next hfull =>
        have : 64 ≤ s.agree.takeList.length := hfull
        omega
      · have hn := not_le.mp hn
        exact matchTake_order (s := s.appendTake n x) (ha.appendTake hn hmax hroom x) h.store hn hmax rfl hquiet x

/-! ## What a FRAG part, a SKIP or a ROLL frame shows -/

/-- A station that neither stores nor numbers may raise its high take. -/
theorem raiseHighTake (h : s.OrderKept) (hfits : s.Fits) (n : Nat) : (s.raiseHighTake n).OrderKept := by
  unfold State.raiseHighTake
  split
  · next hj =>
    refine quiet (hfits.store.resolve_left fun hd => ?_) (hfits.pendingTakes.resolve_left fun hp => ?_) fun hn => ?_
    · exact absurd (hj.symm.trans hd.2.1) (by simp)
    · rcases hp.2 with hr | hr <;> exact absurd (hj.symm.trans hr) (by simp)
    · rcases hn.2.1 with hr | hr <;> exact absurd (hj.symm.trans hr) (by simp)
  · exact h

/-- R38: an implied take stays below the pending numbers, and below EVN but in the case of log 28. -/
theorem impliedTake (h : s.OrderKept) (ha : s.AgreeKept) (hfits : s.Fits) {n : Nat}
    (hsafe : s.numbers → s.agree.exhausted = false → s.agree.pendingTakes = [] → n < s.agree.evn) :
    (s.impliedTake n).OrderKept := by
  unfold State.impliedTake
  split
  · exact h
  · split
    · exact h
    · split
      · exact h.of_run (.of_eq (by simp)) (by unfold refuseTake; split <;> exact ⟨rfl, rfl, rfl, rfl⟩) fun hn => by
          simpa only [State.numbers, isAcquirer, refuseTake_frame] using hn
      · split
        · exact h
        · next hw =>
          have hbelow (p : PendingTake) (hp : p ∈ s.agree.pendingTakes) : n < p.number := by
            have hacq : s.isAcquirer = true := (hfits.pendingTakes.resolve_right (List.ne_nil_of_mem hp)).1
            cases hl : s.agree.pendingTakes with
            | nil => simp [hl] at hp
            | cons q l =>
              have hq : n < q.number := by simpa [awaitsOwnTake, hacq, hl] using hw
              exact hq.trans_le (ha.agree.oldest_le hl p hp)
          refine ⟨h.store.raise (le_max_left _ _) fun k hk => ?_, fun hn he => ?_⟩
          · obtain ⟨p, hp, rfl⟩ := List.mem_map.mp hk
            exact max_lt (h.store.above _ hk) (hbelow p hp)
          · refine max_lt (h.evn hn he) ?_
            cases hl : s.agree.pendingTakes with
            | nil => exact hsafe hn he hl
            | cons q l =>
              have hq : q ∈ s.agree.pendingTakes := hl ▸ List.mem_cons_self
              exact (hbelow q hq).trans ((ha.agree.numbers q hq).2.2.resolve_left (by simp [show s.agree.exhausted = false from he]))

theorem hearEvent (h : s.OrderKept) (ha : s.AgreeKept) (hfits : s.Live) {n : Nat} (hmax : n ≤ maxEvent)
    (hsafe : s.numbers → s.agree.exhausted = false → s.agree.pendingTakes = [] → n < s.agree.evn) :
    (s.hearEvent n).OrderKept := by
  refine impliedTake (h.raiseHighTake hfits.toFits _) (ha.raiseHighTake (by omega)) (hfits.raiseHighTake _).toFits ?_
  have hsame : (s.raiseHighTake (n - 1)).agree.exhausted = s.agree.exhausted
      ∧ (s.raiseHighTake (n - 1)).agree.pendingTakes = s.agree.pendingTakes
      ∧ (s.raiseHighTake (n - 1)).agree.evn = s.agree.evn := by
    unfold State.raiseHighTake
    split <;> simp
  rw [hsame.1, hsame.2.1, hsame.2.2]
  simpa only [State.numbers, isAcquirer, raiseHighTake_frame] using hsafe

theorem handleFrag (h : s.OrderKept) (ha : s.AgreeKept) (hfits : s.Live) (own : Bool) (f : FragFrame)
    (hsafe : s.numbers → s.agree.exhausted = false → s.agree.pendingTakes = [] → f.number.toNat < s.agree.evn) :
    (s.handleFrag own f).OrderKept := by
  have heard := h.hearEvent ha hfits (by unfold maxEvent; omega) hsafe
  refine heard.of_run ?_ (handleFrag_run own f hfits.tracks) fun hn => by
    simpa only [State.numbers, isAcquirer, handleFrag_frame, hearEvent_frame] using hn
  rw [(hearEvent_frame f.number.toNat s).2.2.2.2.2.1]
  exact handleFrag_shrinks own f s

theorem handleSkip (h : s.OrderKept) (ha : s.AgreeKept) (hfits : s.Live) (own : Bool) (f : SkipFrame)
    (hsafe : s.numbers → s.agree.exhausted = false → s.agree.pendingTakes = [] → f.number.toNat < s.agree.evn) :
    (s.handleSkip own f).OrderKept := by
  have heard := h.hearEvent ha hfits (by unfold maxEvent; omega) hsafe
  refine heard.of_run ?_ (handleSkip_run own f hfits.tracks) fun ⟨hacq, hs, hr⟩ => ?_
  · rw [(hearEvent_frame f.number.toNat s).2.2.2.2.2.1]
    exact handleSkip_shrinks own f s
  · have hstart := handleSkip_start own f s
    refine ⟨by simpa [isAcquirer] using hacq, ?_, by simpa using hr⟩
    rw [(hearEvent_frame f.number.toNat s).2.1]
    rcases hstart with he | ⟨hrun, -⟩
    · exact he ▸ hs
    · exact .inl hrun

theorem otherRoll (h : s.OrderKept) (hfits : s.Fits) (f : RollFrame) : (s.otherRoll f).OrderKept := by
  have same {t u : State} (ht : t.OrderKept) (hs : u.store = t.store) (ha : u.agree = t.agree) (hp : u.pins = t.pins)
      (hst : u.start = t.start) (hr : u.trig = t.trig) : u.OrderKept :=
    ht.congr hs ha hp (by rw [hst]) (by rw [hr])
  unfold State.otherRoll
  dsimp only
  split
  · split <;> exact same h (by simp) (by simp) (by simp) (by simp) (by simp)
  · split
    · exact same h (by simp) (by simp) (by simp) (by simp) (by simp)
    all_goals exact same (h.raiseHighTake hfits (joinMark f.field)) (by simp) (by simp) (by simp) (by simp) (by simp)

/-- R28, R74, R78: the own JOIN carries the join point of the moment, above which the station numbers. -/
theorem ownRoll (h : s.OrderKept) (f : RollFrame) (hfield : f.mode = .join → f.field = s.joinPoint) :
    (s.ownRoll f).OrderKept := by
  unfold State.ownRoll
  split
  · exact h
  · next hm =>
    unfold State.ownJoin
    dsimp only
    split
    · unfold State.joinEvn
      split
      · next hn =>
        refine ⟨by simpa using h.store, fun hq he => absurd hn ?_⟩
        rw [hq.1, he]
        simp
      · split
        · exact ⟨by simpa [becomeExhausted] using h.store, fun _ he => absurd he (by simp [becomeExhausted])⟩
        · next h0 =>
          refine ⟨by simpa using h.store, fun _ _ => ?_⟩
          have hpoint : s.agree.highTake < f.field.toNat := by
            rw [hfield hm] at h0 ⊢
            unfold joinPoint at h0 ⊢
            split
            · next hlt =>
              unfold maxEvent at hlt
              rw [BitVec.toNat_ofNat, Nat.mod_eq_of_lt (by omega)]
              omega
            · next hlt => simp [hlt] at h0
          simpa using lt_max_of_lt_right hpoint
    · exact h.congr (by simp) (by simp) (by simp) (by simp) (by simp)
  · exact h.congr (by simp) (by simp) (by simp) (by simp) (by simp)

theorem enterRollcall (s : State) : s.enterRollcall.OrderKept :=
  quiet (enterRollcall_store s) (by simp [State.enterRollcall, Agreement.blank]) fun hn => by
    have hs := hn.2.1
    simp [State.enterRollcall] at hs

theorem enterJoining (hm : s.isAcquirer = true → s.start.muteAttr = false) : s.enterJoining.OrderKept := by
  refine quiet (enterJoining_store s) (by simp [State.enterJoining, Agreement.blank]) fun ⟨ha, hs, _⟩ => ?_
  have ha : s.isAcquirer = true := by simpa [State.isAcquirer] using ha
  simp [State.enterJoining, hm ha] at hs

theorem rollcallRoll (h : s.OrderKept) (hfits : s.Fits) (hrst : s.pins.rst = false) (hs : s.start.station = .rollcall)
    (hr : s.trig.restarting = false) (own : Bool) (f : RollFrame) : (s.rollcallRoll own f).OrderKept := by
  have hm : s.isAcquirer = true → s.start.muteAttr = false := fun ha => hfits.muteAttr (.inr ha)
  exact State.rollcallRoll_cases (P := State.OrderKept) own f s (stays := h)
    (called := fun _ _ => h.congr rfl rfl rfl rfl rfl)
    (marked := fun _ => h.congr (by simp) (by simp) (by simp) (by simp) (by simp))
    (present := fun _ _ => h.congr (by simp) (by simp) (by simp) (by simp) (by simp))
    (joins := fun _ _ => State.OrderKept.enterJoining (by simpa [State.isAcquirer] using hm))
    (echoed := fun _ _ => (State.OrderKept.enterJoining hm).otherRoll (hfits.enterJoining hrst (.inr hs) hr).toFits f)

theorem giveUpSending (h : s.OrderKept) : s.giveUpSending.OrderKept := by
  unfold State.giveUpSending
  split
  · refine quiet (by simp [State.enterMute]) (by simp [State.enterMute]) fun ⟨_, hs, _⟩ => ?_
    simp [State.enterMute] at hs
  · next hc =>
    refine ⟨by simpa using h.store, fun hn => absurd ?_ hc⟩
    simpa [State.isAcquirer] using hn.1

/-! ## Receptions -/

end OrderKept

/-- What log 28 asks of a frame that reaches the owners: a list with room, and no FRAG or SKIP beyond EVN with nothing
pending. -/
structure SafeFor (f : Frame) (s : State) : Prop where
  room : s.agree.takeList.length < 64
  counted : frameKind f = 1 ∨ frameKind f = 2 → s.numbers → s.agree.exhausted = false → s.agree.pendingTakes = [] →
    (frameField f).toNat < s.agree.evn

namespace OrderKept

theorem giveOwners (h : s.OrderKept) (ha : s.AgreeKept) (hfits : s.Fits) (hrst : s.pins.rst = false)
    (hr : s.trig.restarting = false) (own : Bool) (f : Frame)
    (hsafe : s.SafeFor f) (hfield : own = true → ∀ r, f = .roll r → r.mode = .join → r.field = s.joinPoint) :
    (s.giveOwners own f).OrderKept := by
  have hlive (ht : s.tracks = true) : s.Live := { hfits with tracks := ht, still := hr }
  unfold State.giveOwners
  split
  · split
    · next ht =>
      refine h.handleTake ha hsafe.room (fun hm => hfits.pendingTakes.resolve_left fun ⟨hacq, hst⟩ => ?_)
        (by unfold maxEvent; omega) _
      rcases hst with hst | hst <;> simp [State.matches, hacq, hst] at hm
    · exact h
  · by_cases ht : s.tracks = true
    · exact h.handleFrag ha (hlive ht) own _ (hsafe.counted (.inr rfl))
    · simpa [State.handleFrag, ht] using h
  · by_cases ht : s.tracks = true
    · exact h.handleSkip ha (hlive ht) own _ (hsafe.counted (.inl rfl))
    · simpa [State.handleSkip, ht] using h
  · unfold State.handleRoll
    split
    · next hst => exact h.rollcallRoll hfits hrst hst hr own _
    · split
      · exact h
      · split
        · next ho => exact h.ownRoll _ (hfield ho _ rfl)
        · exact h.otherRoll hfits _

theorem clashCheck (h : s.OrderKept) (own : Bool) (f : Frame) : (s.clashCheck own f).OrderKept :=
  State.clashCheck_cases (P := State.OrderKept) own f h fun _ _ _ =>
    (h.congr (t := s.raise .addressClash (frameField f).toNat) (by simp) (by simp) (by simp) (by simp) (by simp)).giveUpSending

theorem leaveListening (h : s.OrderKept) (hm : s.isAcquirer = true → s.start.muteAttr = false) (f : Frame) :
    (s.leaveListening f).OrderKept := by
  unfold State.leaveListening
  split
  · split
    · split
      · exact enterRollcall s
      · exact enterJoining hm
    all_goals exact enterJoining hm
  · exact h

/-- A frame that reaches the owners finds the agreement unit as it was, or blank, or without pending entries. -/
theorem safeFor_owners {f : Frame} (h : s.SafeFor f) (hm : s.isAcquirer = true → s.start.muteAttr = false) (own : Bool) :
    ((s.clashCheck own f).leaveListening f).SafeFor f := by
  have hblank (t : State) (ht : t.agree = Agreement.blank) (hn : ¬ t.numbers) : t.SafeFor f :=
    ⟨by simp [ht, Agreement.blank], fun _ hq => absurd hq hn⟩
  have hchecked : (s.clashCheck own f).SafeFor f := by
    refine State.clashCheck_cases (P := fun t => t.SafeFor f) own f h fun _ _ _ => ?_
    unfold State.giveUpSending
    split
    · refine ⟨by simpa [State.enterMute] using h.room, fun _ hn => ?_⟩
      have hs := hn.2.1
      simp [State.enterMute] at hs
    · next hc => exact ⟨by simpa using h.room, fun _ hn => absurd (by simpa [State.isAcquirer] using hn.1) hc⟩
  have hmute : (s.clashCheck own f).isAcquirer = true → (s.clashCheck own f).start.muteAttr = false := by
    refine State.clashCheck_cases (P := fun t => t.isAcquirer = true → t.start.muteAttr = false) own f hm
      fun _ _ _ ha => ?_
    have ha : s.isAcquirer = true := by simpa [State.isAcquirer] using ha
    have hra : (s.raise .addressClash (frameField f).toNat).isAcquirer = true := ha
    simpa [State.giveUpSending, hra] using hm ha
  unfold State.leaveListening
  split
  · have hjoin := hblank (s.clashCheck own f).enterJoining (by simp [State.enterJoining]) fun ⟨ha, hs, _⟩ => by
      have ha : (s.clashCheck own f).isAcquirer = true := by simpa [State.isAcquirer] using ha
      simp [State.enterJoining, hmute ha] at hs
    split
    · split
      · refine hblank _ (by simp [State.enterRollcall]) fun hn => ?_
        have hs := hn.2.1
        simp [State.enterRollcall] at hs
      · exact hjoin
    all_goals exact hjoin
  · exact hchecked

theorem handleFrame (h : s.OrderKept) (ha : s.AgreeKept) (hfits : s.Fits) (hrst : s.pins.rst = false)
    (hu : s.unloaded = false) (own : Bool) (f : Frame) (hsafe : s.SafeFor f)
    (hfield : own = true → s.start.station ≠ .listening ∧ ∀ r, f = .roll r → r.mode = .join → r.field = s.joinPoint) :
    (s.handleFrame own f).OrderKept := by
  have hm : s.isAcquirer = true → s.start.muteAttr = false := fun hq => hfits.muteAttr (.inr hq)
  have hchecked := hfits.clashCheck hrst own f
  have hm' (hq : (s.clashCheck own f).isAcquirer = true) := hchecked.muteAttr (.inr hq)
  refine hfits.handleFrame_cases hrst hu own f (h.clashCheck own f) fun hr t ht htfits _ =>
    settle (giveOwners ?_ ?_ htfits ?_ ?_ own f ?_ ?_) _
  · exact ht ▸ (h.clashCheck own f).leaveListening hm' f
  · exact ht ▸ (ha.clashCheck own f).leaveListening hm' f
  · simpa [ht] using hrst
  · rw [ht, (leaveListening_frame f _).2.2.1, restarting_clashCheck]
    exact hr
  · exact ht ▸ safeFor_owners hsafe hm own
  · rintro rfl
    obtain ⟨hl, hjoin⟩ := hfield rfl
    have hsame : t = s := by simp [ht, State.clashCheck, State.leaveListening, hl]
    exact hsame ▸ hjoin

theorem received (h : s.OrderKept) (ha : s.AgreeKept) (hfits : s.Fits) (hq : s.RollFresh) (ht : s.takesFrame = true)
    (f : Frame) (hsafe : s.SafeFor f) : (s.received f).OrderKept := by
  refine hfits.received_cases ht f
    (own := fun hown he hrst hu => ?_)
    (other := fun _ he hrst hu =>
      (h.congr (by simp) (by simp) (by simp) (by simp) (by simp)).handleFrame
        (ha.congr (by simp) (by simp) (by simp) (by simp)) he hrst hu false f ?_ (fun h => absurd h (by simp)))
  · refine (h.congr (by simp) (by simp) (by simp) (by simp) (by simp)).handleFrame
      (ha.congr (by simp) (by simp) (by simp) (by simp)) he hrst hu true f ?_ fun _ => ⟨fun hl => ?_, ?_⟩
    · exact ⟨by simpa using hsafe.room, by simpa [State.numbers, isAcquirer] using hsafe.counted⟩
    · have hw : s.frames.queue.onWire = some f := by simpa [isOwn] using hown
      refine hfits.not_quiet_of_onWire (by simp [hw]) (.inl (.inr (.inr ?_)))
      simpa using hl
    · rintro r rfl hm
      obtain ⟨p, hp, -, hpf⟩ := Queue.roll_of_onWire (q := s.frames.queue) (f := r) (by simpa [isOwn] using hown)
      have hfresh := hq p hp p.frame (Place.frame_mem p)
      rw [hpf] at hfresh
      have hfield := congrArg RollFrame.field hfresh
      simpa [rollFrame, hm, joinPoint] using hfield
  · exact ⟨by simpa using hsafe.room, by simpa [State.numbers, isAcquirer] using hsafe.counted⟩

/-! ## The other events -/

theorem offerParts (h : s.OrderKept) : s.offerParts.OrderKept :=
  h.of_run (offerParts_shrinks s) (.of_eq (by simp)) fun hn => by
    simpa only [State.numbers, isAcquirer, offerParts_frame] using hn

theorem storeEdge (h : s.OrderKept) (ha : s.AgreeKept) (hn : s.numbers) (he : s.agree.exhausted = false) (t : Time) :
    (s.storeEdge s.agree.evn t).store.Ordered s.agree.highTake (s.agree.pendingTakes.map (·.number) ++ [s.agree.evn]) := by
  have habove := h.evn hn he
  have hended := h.store.endWindow
  unfold State.storeEdge
  dsimp only
  split
  · refine hended.append habove (fun k hk => ?_) _ ⟨rfl, rfl⟩
    obtain ⟨p, hp, rfl⟩ := List.mem_map.mp hk
    exact (ha.agree.numbers p hp).2.2.resolve_left (by simp [he])
  · simpa using hended.appendPending habove

/-- R25, R11: an accepted edge takes EVN, above every record, for its record and its pending entry. -/
theorem acceptEdge (h : s.OrderKept) (ha : s.AgreeKept) (hn : s.numbers) (he : s.agree.exhausted = false) :
    s.acceptEdge.OrderKept := by
  have hstored := h.storeEdge ha hn he s.time.counter
  have hcount : s.countEdge.agree.highTake = s.agree.highTake ∧ s.countEdge.agree.pendingTakes = s.agree.pendingTakes
      ∧ (s.countEdge.agree.exhausted = false → s.agree.highTake < s.countEdge.agree.evn) := by
    have := h.evn hn he
    unfold countEdge
    split
    · simp [becomeExhausted]
    · exact ⟨rfl, rfl, fun _ => by simp only [setAgree_agree]; omega⟩
  have hstore : (s.countEdge.storeEdge s.agree.evn s.time.counter).store
      = (s.storeEdge s.agree.evn s.time.counter).store := by
    unfold State.storeEdge windowTicks
    simp only [countEdge_frame]
    split <;> simp
  obtain ⟨hhigh, hpend, hevn⟩ := hcount
  have hedge : (((s.countEdge.storeEdge s.agree.evn s.time.counter).appendPending s.agree.evn s.time.counter).offerTake
      s.agree.evn s.time.counter).OrderKept := by
    refine ⟨?_, fun _ hx => ?_⟩
    · simpa [appendPending, hstore, hhigh, hpend] using hstored
    · simpa [appendPending, hhigh] using hevn (by simpa [appendPending] using hx)
  exact hedge.offerParts

theorem takeEdge (h : s.OrderKept) (ha : s.AgreeKept) (hr : s.trig.restarting = false) (b : Bool) :
    (s.takeEdge b).OrderKept := by
  have hrise : (s.setTrig { s.trig with level := true, detector := some Config.detectorTicks }).OrderKept :=
    h.congr rfl rfl rfl rfl rfl
  have harise : (s.setTrig { s.trig with level := true, detector := some Config.detectorTicks }).AgreeKept :=
    ha.congr rfl rfl rfl rfl
  unfold State.takeEdge decideEdge
  split
  · next hs =>
    simp only [Bool.and_eq_true, decide_eq_true_eq] at hs
    split
    · next hacc =>
      simp only [accepts, Bool.and_eq_true, Bool.not_eq_true'] at hacc
      exact hrise.acceptEdge harise ⟨hs.1, .inl hs.2, hr⟩ hacc.1.2
    · exact hrise.congr (by simp) (by simp) (by simp) (by simp) (by simp)
  · exact hrise

theorem filterSample (h : s.OrderKept) (x : Sample) : (s.filterSample x).OrderKept := by
  have hfaces : (s.filterSample x).store.records.map (fun r => (r.number, r.answered))
      = s.store.records.map fun r => (r.number, r.answered) := by
    have hmodify (g : Record → Record) (hg : ∀ r, ((g r).number, (g r).answered) = (r.number, r.answered)) :
        (s.store.modifyCapturing g).records.map (fun r => (r.number, r.answered))
          = s.store.records.map fun r => (r.number, r.answered) := by
      simp only [Store.modifyCapturing, List.map_map]
      refine List.map_congr_left fun r _ => ?_
      simp only [Function.comp_apply]
      split
      · exact hg r
      · rfl
    have hdouble := hmodify Record.double fun _ => rfl
    have htruncate := hmodify Record.truncate fun _ => rfl
    have happend := hmodify (Record.append x) fun _ => rfl
    unfold State.filterSample
    split
    · (repeat' split) <;> simp [hdouble, htruncate, happend]
    · simp
  refine ⟨?_, fun hn he => ?_⟩
  · rw [(filterSample_frame x s).2.2.2.2.2.1]
    exact h.store.same hfaces
  · rw [(filterSample_frame x s).2.2.2.2.2.1] at he ⊢
    exact h.evn (by simpa only [State.numbers, isAcquirer, filterSample_frame] using hn) he

theorem epoch (hs : s.store = Store.empty) : s.epoch.OrderKept := by
  rw [epoch_eq]
  refine settle ⟨?_, fun hn _ => ?_⟩ []
  · have hstore : s.started.store = Store.empty := hs
    rw [hstore]
    exact .empty _
  · have ha : s.isAcquirer = true := hn.1
    simp [started, ha, Agreement.blank]

theorem releaseTrg (h : s.OrderKept) (hfits : s.Fits) : s.releaseTrg.OrderKept := by
  unfold State.releaseTrg
  dsimp only
  split
  · next hr =>
    unfold endRestart
    split
    case h_6 hs | h_7 hs | h_8 hs =>
      have hstation : s.start.station = _ := hs
      refine quiet (hfits.store.resolve_left fun hd => ?_) ?_ fun hn => ?_
      · exact absurd (hr.symm.trans hd.2.2) (by simp)
      · simp [hfits.agree (.inr (.inr hr)), Agreement.blank]
      · have hrun : s.start.station = .running ∨ s.start.station = .silenced := hn.2.1
        simp [hstation] at hrun
    all_goals exact enterRollcall _
  · next hr => exact h.congr rfl rfl rfl rfl (by simpa using hr)

theorem completeRead (h : s.OrderKept) (hl : s.start.station = .loading) (img : List Byte) (trg : Bool) :
    (s.completeRead img trg).OrderKept := by
  refine ⟨by simpa using h.store, fun hn => ?_⟩
  have hs := hn.2.1
  revert hs
  unfold State.completeRead
  dsimp only
  split
  · split
    · rw [loadGood_start]
      split <;> simp
    · simp [halt]
  · split
    · simp [hl]
    · simp [halt]

theorem abandon (h : s.OrderKept) (f : Frame) : (s.abandon f).OrderKept := by
  have hleft : (State.bump .txRetries (s.leaveWire.setFrames { s.leaveWire.frames with
      failures := min Config.failureLimit (s.frames.failures + 1), dat := .abandoned })).OrderKept :=
    h.congr (by simp) (by simp) (by simp) (by simp) (by simp)
  unfold State.abandon
  dsimp only
  split
  · exact (giveUpSending (hleft.congr (t := State.raise .trunkDrive (frameField f).toNat _) (by simp) (by simp) (by simp)
      (by simp) (by simp))).settle _
  · exact hleft

/-- The order outlives every command outside the two cases of log 28. -/
theorem after (h : s.OrderKept) (hfits : s.Fits) (ha : s.AgreeKept) (hq : s.RollFresh) (c : Instr)
    (hsafe : s.OrderIsSafe c) : (s.after c).OrderKept := by
  have kept {t : State} (hs : t.store = s.store) (hagree : t.agree = s.agree) (hp : t.pins = s.pins)
      (hst : t.start.station = s.start.station) (hr : t.trig.restarting = s.trig.restarting) : t.OrderKept :=
    h.congr hs hagree hp hst hr
  have hempty (hs : s.start.station = .rollcall) : s.store = Store.empty :=
    hfits.store.resolve_left fun hd => absurd (hs.symm.trans hd.2.1) (by simp)
  refine State.after_cases c s (idle := h)
    (reset := fun _ => quiet rfl rfl fun hn => by simpa [State.reset] using hn.2.1)
    (release := fun _ _ _ _ => ⟨h.store, fun hn => by simpa using hn.2.1⟩)
    (read := fun _ img trg _ hp => h.completeRead (by_contra fun hl => hp (hfits.imagePort hl)) img trg)
    (sample := fun _ _ _ _ => h.filterSample _)
    (window := fun _ _ => ?_)
    (edge := fun _ b _ _ hl => h.takeEdge ha ?_ b)
    (request := fun _ _ _ _ _ => kept (by simp) (by simp) (by simp) (by simp) ?_)
    (normalPulse := fun _ _ => kept rfl rfl rfl rfl rfl) (restartPulse := fun _ _ => kept rfl rfl rfl rfl rfl)
    (restart := fun _ => kept (by simp) (by simp) (by simp) (by simp) ?_)
    (detection := fun _ _ _ => quiet (by simp [State.detectRestart]) (by simp [State.detectRestart, Agreement.blank])
      fun hn => by
        have hr := hn.2.2
        simp [State.detectRestart] at hr)
    (trgRelease := fun _ _ _ _ => h.releaseTrg hfits)
    (listen := fun _ _ _ _ => enterRollcall s) (roll := fun _ b _ hs _ => ?_)
    (hldFall := fun _ _ hs _ => epoch (hempty hs))
    (turn := fun _ _ => kept (by simp) (by simp) (by simp) (by simp) (by simp))
    (close := fun _ _ _ => kept (by simp) (by simp) (by simp) (by simp) (by simp))
    (datIdle := fun _ _ => kept (by simp) (by simp) (by simp) (by simp) (by simp))
    (contention := fun _ _ => kept (by simp) (by simp) (by simp) (by simp) (by simp))
    (lost := fun _ _ _ => kept (by simp) (by simp) (by simp) (by simp) (by simp))
    (abandoned := fun _ _ f _ => h.abandon f)
    (discard := fun _ _ _ => kept (by simp) (by simp) (by simp) (by simp) (by simp))
    (received := fun _ ht f hf _ => h.received ha hfits hq ht f ⟨hsafe.1, fun hk ⟨hacq, hst, _⟩ he hp =>
      hsafe.2 f hf hk hacq hst he hp⟩)
    (taking := fun _ _ _ => kept (by simp) (by simp) (by simp) (by simp) (by simp))
    (read_window := fun _ _ _ _ => kept rfl rfl rfl rfl rfl)
    (clear := fun _ _ => kept rfl rfl rfl rfl rfl) (ack := fun _ _ => kept rfl rfl rfl rfl rfl)
    (write := fun _ => kept rfl rfl rfl rfl rfl)
    (tick := fun _ _ => h.of_run ⟨List.Sublist.refl _, fun hw => by simpa [tickTimers, tickTimer] using hw⟩ (.of_eq rfl)
      fun hn => hn)
  · unfold State.expireWindow
    split
    · exact offerParts ⟨h.store.endWindow, h.evn⟩
    · exact h
  · rw [← Bool.not_eq_true]
    exact fun hr => by simp [hfits.restarting hr] at hl
  · unfold State.requestTrigger
    (repeat' split) <;> simp
  · unfold State.restartTrunk
    (repeat' split) <;> simp
  · unfold State.meetRoll
    split
    · exact h.congr rfl rfl rfl rfl rfl
    · exact epoch (hempty hs)

end OrderKept
end State

/-- Settles O55: the store's own laws outlive every change of a record, of the window and of the records' number; its
order outlives them with what it rests on, the pending entries and the high take. -/
theorem stepKeepsStore : Obligations.StepKeepsStore := by
  intro s t hs ht
  rcases step_cases ht with rfl | ⟨c, rest, hp, rfl⟩
  · exact ⟨hs, fun _ _ _ ho _ => ho⟩
  · have hkept : State.StoreInv { s with pending := rest } := hs
    refine ⟨State.storeInv_iff.mpr (State.after_kept (State.storeInv_iff.mp hkept) c), fun hc ha hq ho hsafe => ?_⟩
    have hfits : State.Fits { s with pending := rest } := State.Coherent.fits hc
    have hagree : State.AgreeKept { s with pending := rest } := State.agreeInv_iff.mp ha
    have hqueue : State.QueueInv { s with pending := rest } := hq
    have horder : State.OrderKept { s with pending := rest } := State.orderInv_iff.mp ho
    have hsafe : State.OrderIsSafe { s with pending := rest } c := hsafe c (by simp [hp])
    exact State.orderInv_iff.mpr (horder.after hfits hagree (State.queueInv_iff.mp hqueue).2.1 c hsafe)

end Sys2Proof.Machine
end

section
/-! The image (R170 to R175, R205): its checks and its fields from the bytes, and what the completion of a read does. -/

namespace Sys2Proof.Machine

/-! ## Bits of the image -/

/-- A word is its two bytes, most significant first. -/
theorem append_eq_iff (x y : BitVec 8) (w : BitVec 16) :
    x ++ y = w ↔ x = w.extractLsb' 8 8 ∧ y = w.extractLsb' 0 8 := by
  constructor
  · rintro rfl
    exact ⟨BitVec.extractLsb'_append_eq_left.symm, BitVec.extractLsb'_append_eq_right.symm⟩
  · rintro ⟨rfl, rfl⟩
    exact BitVec.extractLsb'_append_extractLsb'

theorem getD_drop (l : List Byte) (n i : Nat) : (l.drop n).getD i 0 = l.getD (n + i) 0 := by
  simp [List.getD_eq_getElem?_getD]

/-- R171: the check word stands in bytes 158 and 159. -/
theorem imageCheck_iff (img : List Byte) : imageCheck img = true ↔
    160 ≤ img.length ∧ img.getD 158 0 ++ img.getD 159 0 = crc16 (img.take 158) := by
  have h0 := getD_drop img 158 0
  have h1 := getD_drop img 158 1
  have hlen : (img.drop 158).length = img.length - 158 := List.length_drop
  rw [append_eq_iff, ← h0, ← h1]
  unfold imageCheck crcBytes
  match img.drop 158, hlen with
  | [], hlen => simp at hlen ⊢; omega
  | [a], hlen => simp at hlen ⊢; omega
  | a :: b :: l, hlen =>
    simp only [List.length_cons] at hlen
    simp
    omega

theorem imageByte_ne_zero (img : List Byte) (i : Nat) : imageByte img i ≠ 0 ↔ img.getD i 0 ≠ 0 := by
  rw [not_iff_not, imageByte, ← BitVec.toNat_inj]
  rfl

theorem imageInRange_iff (img : List Byte) : imageInRange img = true ↔
    1 ≤ 256 * (img.getD 0 0).toNat + (img.getD 1 0).toNat ∧ 256 * (img.getD 0 0).toNat + (img.getD 1 0).toNat ≤ 1023
      ∧ img.getD 2 0 ≠ 0 ∧ img.getD 3 0 ≠ 0 ∧ (img.getD 3 0).toNat ≤ 8
      ∧ img.getD 4 0 ≠ 0 ∧ (img.getD 4 0).toNat ≤ 7 ∧ img.getD 6 0 ≠ 0 ∧ img.getD 7 0 ≠ 0 := by
  have hpair : imagePair img 0 = 256 * (img.getD 0 0).toNat + (img.getD 1 0).toNat := by
    simp only [imagePair, imageByte, Nat.zero_add, Nat.mul_comm]
  unfold imageInRange
  simp only [Bool.and_eq_true, decide_eq_true_eq, imageByte_ne_zero, hpair, and_assoc]
  rw [Nat.ne_zero_iff_zero_lt]
  rfl

theorem State.completeRead_bad {s : State} {img : List Byte} (trg : Bool)
    (h : s.start.imagePort ≠ .firstRead ∧ imageCheck img = false ∨ imageCheck img = true ∧ imageInRange img = false) :
    s.completeRead img trg = (s.setStart { s.start with imageBuffer := img }).halt := by
  unfold State.completeRead
  rcases h with ⟨hp, hc⟩ | ⟨hc, hr⟩
  · simp [hc, hp]
  · simp [hc, hr]

theorem exec_imageReadComplete {s : State} (hrst : s.pins.rst = false) (hp : s.start.imagePort ≠ .idle) (img : List Byte)
    (trg : Bool) : exec (.imageReadComplete img trg) s = .next (s.completeRead img trg) := by
  simp [exec, execImageReadComplete, hrst, hp]

/-- Settles O5: the checks in the bytes' own terms, then the branches of the completion of a read. -/
theorem badImageIsRereadOrHalts : Obligations.BadImageIsRereadOrHalts := by
  intro s img trg hrst
  refine ⟨imageCheck_iff img, imageInRange_iff img, fun ⟨hp, hc⟩ => ?_, fun h => ?_, fun hp => ?_⟩
  · rw [exec_imageReadComplete hrst (by simp [hp])]
    refine ⟨_, rfl, ?_, ?_⟩
    · simp only [State.completeRead, hc, hp, if_true, Bool.false_eq_true, if_false]
      rfl
    · simp [State.completeRead, hc, hp, State.imsoBits, State.imcs, hrst, imageRequest]
      decide
  · have hbad : s.start.imagePort ≠ .idle ∧ (s.start.imagePort ≠ .firstRead ∧ imageCheck img = false
        ∨ imageCheck img = true ∧ imageInRange img = false) := by
      rcases h with ⟨hp, hc⟩ | ⟨hp, hc, hr⟩
      · exact ⟨by simp [hp], .inl ⟨by simp [hp], hc⟩⟩
      · exact ⟨hp, .inr ⟨hc, hr⟩⟩
    rw [exec_imageReadComplete hrst hbad.1, State.completeRead_bad trg hbad.2]
    refine ⟨_, rfl, rfl, rfl, ?_, ?_, rfl, ?_, rfl⟩
    · simp [State.imcs, State.halt]
    · simp [State.imsoBits, State.imcs, State.halt]
    · simp only [State.faultPin, State.halt, State.raise_insp]
      cases hf : s.insp.faults.first with
      | none => simp [FaultRecord.enter, hf]
      | some g => simp [FaultRecord.enter, hf]
  · simp [exec, execImageReadComplete, hrst, hp]

/-! ## A good image (R173 to R175, R205) -/

/-- R152, R205: the personality of a two-bit code in byte 8. -/
theorem personalityOf_lineCode (img : List Byte) (low : Nat) : personalityOf (lineCode img low) =
    match (img.getD 8 0).extractLsb' low 2 with
    | 1#2 => .sink
    | 2#2 => .sinkTerm
    | _ => .listen := by
  have hcode : lineCode img low = ((img.getD 8 0).extractLsb' low 2).toNat := by
    simp [lineCode, imageByte, BitVec.extractLsb'_toNat, Nat.shiftRight_eq_div_pow]
  have hname : ∀ c : BitVec 2, personalityOf c.toNat =
      match c with
      | 1#2 => .sink
      | 2#2 => .sinkTerm
      | _ => .listen := by decide
  rw [hcode]
  exact hname _

theorem lineCode_eq_three (img : List Byte) (low : Nat) :
    lineCode img low = 3 ↔ (img.getD 8 0).extractLsb' low 2 = 3#2 := by
  rw [← BitVec.toNat_inj]
  simp [lineCode, imageByte, BitVec.extractLsb'_toNat, Nat.shiftRight_eq_div_pow]

/-- The bits set by a run of conditional ORs are those whose condition holds. -/
theorem getLsbD_foldl_or (p : Nat → Bool) (l : List Nat) (v : BitVec 64) (i : Nat) (hi : i < 64) :
    (l.foldl (fun v c => if p c then v ||| BitVec.twoPow 64 c else v) v).getLsbD i
      = (v.getLsbD i || (decide (i ∈ l) && p i)) := by
  induction l generalizing v with
  | nil => simp
  | cons c l ih =>
    rw [List.foldl_cons, ih]
    by_cases hc : i = c
    · subst hc
      cases hp : p i <;> simp [hi]
    · have hne : ¬ c = i := fun h => hc h.symm
      cases hp : p c <;> simp [hi, hc]

theorem imageEnables_bit (img : List Byte) (c : Fin 64) :
    (imageEnables img).getLsbD c = (img.getD (10 + c / 8) 0).getLsbD (c % 8) := by
  unfold imageEnables
  rw [getLsbD_foldl_or (fun c => (imageByte img (10 + c / 8)).testBit (c % 8)) _ _ _ c.isLt]
  simp [imageByte, BitVec.getLsbD]

theorem imageThreshold_eq (img : List Byte) (c : Nat) : imageThreshold img c =
    ((img.getD (18 + 2 * c) 0) ++ (img.getD (19 + 2 * c) 0)).extractLsb' 0 14 := by
  have hpair : imagePair img (18 + 2 * c) = ((img.getD (18 + 2 * c) 0) ++ (img.getD (19 + 2 * c) 0)).toNat := by
    rw [BitVec.toNat_append, ← Nat.shiftLeft_add_eq_or_of_lt (BitVec.isLt _), Nat.shiftLeft_eq]
    simp only [imagePair, imageByte, show 18 + 2 * c + 1 = 19 + 2 * c by omega]
  apply BitVec.eq_of_toNat_eq
  simp [imageThreshold, hpair, BitVec.extractLsb'_toNat]

/-- Two states are equal when each block of one is that of the other. -/
theorem State.eq_of_blocks {s t : State} (hpins : t.pins = s.pins) (hstart : t.start = s.start)
    (hconfig : t.config = s.config) (htrig : t.trig = s.trig) (htime : t.time = s.time) (hstore : t.store = s.store)
    (hagree : t.agree = s.agree) (hturn : t.turn = s.turn) (hroster : t.roster = s.roster) (hframes : t.frames = s.frames)
    (hbuild : t.build = s.build) (hport : t.port = s.port) (hinsp : t.insp = s.insp)
    (hfree : t.freeIndex = s.freeIndex) (hpending : t.pending = s.pending) : t = s := by
  cases s
  cases t
  simp only at *
  subst_vars
  rfl

/-- R153, R173: the faults of a loading, in their order. -/
def imageFaults (img : List Byte) : List FaultCode :=
  (if turnTooShort img then [FaultCode.imageAdjusted] else [])
    ++ (if lineCode img 4 = 3 then [FaultCode.lineProhibited] else [])
    ++ (if lineCode img 2 = 3 then [FaultCode.lineProhibited] else [])
    ++ (if lineCode img 0 = 3 then [FaultCode.lineProhibited] else [])

/-- The fault record after these faults, at the time of the loading. -/
def State.enterFaults (s : State) (l : List FaultCode) : FaultRecord :=
  l.foldl (fun r code => r.enter { code := code, context := 0, time := s.time.counter, state := s.time.state })
    s.insp.faults

theorem State.checkLine_insp (img : List Byte) (low : Nat) (s : State) : (s.checkLine img low).insp =
    { s.insp with faults := s.enterFaults (if lineCode img low = 3 then [.lineProhibited] else []) } := by
  unfold State.checkLine State.enterFaults
  split <;> simp

/-- R175: loading writes nothing of the inspection unit but the faults. -/
theorem State.loadGood_insp (img : List Byte) (trg : Bool) (s : State) :
    (s.loadGood img trg).insp = { s.insp with faults := s.enterFaults (imageFaults img) } := by
  have hleave (t : State) : t.leaveLoading.insp = t.insp := by unfold State.leaveLoading; split <;> rfl
  have hadjust : (if turnTooShort img then s.raise .imageAdjusted 0 else s).time = s.time
      ∧ (if turnTooShort img then s.raise .imageAdjusted 0 else s).insp
        = { s.insp with faults := s.enterFaults (if turnTooShort img then [.imageAdjusted] else []) } := by
    unfold State.enterFaults
    split <;> simp
  unfold State.loadGood imageFaults
  dsimp only
  rw [hleave]
  change (((State.setConfig (loadImage img) (if turnTooShort img then s.raise .imageAdjusted 0 else s)).checkLine img 4
    |>.checkLine img 2).checkLine img 0).insp = _
  simp only [State.checkLine_insp, State.enterFaults, List.foldl_append, State.checkLine_frame, State.setConfig_insp,
    State.setConfig_time, hadjust]

theorem exec_goodImage {s : State} {img : List Byte} (trg : Bool) (hrst : s.pins.rst = false)
    (hp : s.start.imagePort ≠ .idle) (hc : imageCheck img = true) (hr : imageInRange img = true) :
    exec (.imageReadComplete img trg) s =
      .next ((s.setStart { s.start with imageBuffer := img }).loadGood img trg) := by
  rw [exec_imageReadComplete hrst hp]
  simp [State.completeRead, hc, hr]

/-- Settles O6: each field of the image in its bytes, and the two ways out of LOADING. -/
theorem goodImageLoads : Obligations.GoodImageLoads := by
  intro s img trg hrst hp hc hr
  rw [exec_goodImage trg hrst hp hc hr]
  have hstart := State.loadGood_start img trg (s.setStart { s.start with imageBuffer := img })
  obtain ⟨hconfig, htrig, hframes, -⟩ := State.loadGood_blocks img trg (s.setStart { s.start with imageBuffer := img })
  have hinsp := State.loadGood_insp img trg (s.setStart { s.start with imageBuffer := img })
  have hblocks := State.loadGood_frame img trg (s.setStart { s.start with imageBuffer := img })
  generalize ht : (s.setStart { s.start with imageBuffer := img }).loadGood img trg = t at *
  refine ⟨t, rfl, ?_, ?_, ?_, ?_, ?_, ?_, ?_, ?_, ?_, ?_, ?_, fun c => ?_, fun c => ?_, htrig, hframes, ?_, ?_⟩
  · simp only [hconfig, loadImage, imagePair, imageByte, Nat.zero_add, Nat.mul_comm]
  · rw [hconfig]; rfl
  · rw [hconfig]; rfl
  · rw [hconfig]; rfl
  · rw [hconfig]; rfl
  · rw [hconfig]; rfl
  · rw [hconfig]; rfl
  · rw [hconfig]; exact personalityOf_lineCode img 4
  · rw [hconfig]; exact personalityOf_lineCode img 2
  · rw [hconfig]; exact personalityOf_lineCode img 0
  · rw [hconfig]; rfl
  · rw [hconfig]; exact imageEnables_bit img c
  · rw [hconfig, ← imageThreshold_eq]
    simp [loadImage]
  · rw [hstart, hconfig]
    rfl
  · obtain ⟨hpins, htime, hst, hag, htu, hro, hbu, hpo, hfi, hpe⟩ := hblocks
    exact State.eq_of_blocks hpins rfl rfl rfl htime hst hag htu hro rfl hbu hpo (by rw [hinsp]; rfl) hfi hpe

/-- Settles O7: TURN after R173 by its arithmetic, and the fault record after the faults of the loading in order. -/
theorem shortTurnIsRaisedAndFaultsComeInOrder : Obligations.ShortTurnIsRaisedAndFaultsComeInOrder := by
  intro s img trg hrst hp hc hr
  rw [exec_goodImage trg hrst hp hc hr]
  obtain ⟨hconfig, -⟩ := State.loadGood_blocks img trg (s.setStart { s.start with imageBuffer := img })
  have hinsp := State.loadGood_insp img trg (s.setStart { s.start with imageBuffer := img })
  generalize (s.setStart { s.start with imageBuffer := img }).loadGood img trg = t at *
  have hcapwin : t.config.capwin = imagePair img 0 := by rw [hconfig]; rfl
  have hturn : t.config.turn = adjustedTurn img := by rw [hconfig]; rfl
  have hrange : imagePair img 0 ≤ 1023 := by
    simp only [imageInRange, Bool.and_eq_true, decide_eq_true_eq] at hr
    omega
  have hbyte : (img.getD 2 0).toNat < 256 := (img.getD 2 0).isLt
  have hraised : turnTooShort img = true ↔ 10 * (img.getD 2 0).toNat ≤ imagePair img 0 + 100 := decide_eq_true_iff
  have hadjusted : adjustedTurn img = if 10 * (img.getD 2 0).toNat ≤ imagePair img 0 + 100
      then ((imagePair img 0 + 100) / 10 + 1) * 10 else 10 * (img.getD 2 0).toNat := by
    simp only [adjustedTurn, hraised]
    rfl
  refine ⟨t, rfl, ?_, ?_, ?_, ?_, ?_, ?_⟩
  · rw [hcapwin, hturn, hadjusted]
    intro h
    rw [if_neg (by omega)]
  · rw [hcapwin, hturn, hadjusted]
    intro h
    rw [if_pos h]
    omega
  · rw [hturn, hadjusted]
    split <;> omega
  · simp only [State.turnTicks, Config.ticksPerMicro, Nat.mul_comm]
  · simp only [State.closeTicks, State.turnTicks, Config.ticksPerMicro, Nat.mul_comm]
  · rw [hinsp]
    simp only [State.enterFaults, imageFaults, hraised, lineCode_eq_three, hcapwin]
    rfl

end Sys2Proof.Machine
end

section
/-! Words of 32 bits, field by field. -/

namespace Sys2Proof.Machine

/-- The fields of a word that share a bit with the `w` bits from `lo` on. -/
def fieldsIn (l : List (Nat × Nat × Nat)) (lo w : Nat) : List (Nat × Nat × Nat) :=
  l.filter fun f => lo < f.1 + f.2.1 && f.1 < lo + w

/-- Bit `i` of a packed word is set where a field sets it. -/
theorem getLsbD_packWord (l : List (Nat × Nat × Nat)) {i : Nat} (hi : i < 32) :
    (packWord l).getLsbD i = l.any fun f => decide (f.1 ≤ i) && decide (i < f.1 + f.2.1) && f.2.2.testBit (i - f.1) := by
  suffices h : ∀ v : Word, (l.foldl (fun w f => w ||| (BitVec.ofNat 32 (f.2.2 % 2 ^ f.2.1) <<< f.1)) v).getLsbD i
      = (v.getLsbD i || l.any fun f => decide (f.1 ≤ i) && decide (i < f.1 + f.2.1) && f.2.2.testBit (i - f.1)) by
    simpa [packWord] using h 0
  induction l with
  | nil => simp
  | cons f l ih =>
    intro v
    obtain ⟨lo, w, x⟩ := f
    rw [List.foldl_cons, ih, List.any_cons, ← Bool.or_assoc]
    congr 1
    simp only [BitVec.getLsbD_or, BitVec.getLsbD_shiftLeft, BitVec.getLsbD_ofNat, Nat.testBit_mod_two_pow, hi, decide_true,
      Bool.true_and]
    by_cases hlo : lo ≤ i
    · have h1 : i - lo < 32 := by omega
      have h2 : (i - lo < w) ↔ (i < lo + w) := by omega
      have h3 : ¬ i < lo := not_lt.mpr hlo
      simp [hlo, h1, h2, h3]
    · simp [hlo, not_le.mp hlo]

/-- A field that shares its bits with no other reads back, modulo its width. -/
theorem packWord_field {l : List (Nat × Nat × Nat)} {lo w v : Nat} (hw : lo + w ≤ 32)
    (hl : fieldsIn l lo w = [(lo, w, v)]) : (packWord l).extractLsb' lo w = BitVec.ofNat w v := by
  have hmem : ∀ f ∈ l, (lo < f.1 + f.2.1 ∧ f.1 < lo + w) → f = (lo, w, v) := fun f hf hin => by
    have : f ∈ fieldsIn l lo w := List.mem_filter.mpr ⟨hf, by simpa using hin⟩
    rw [hl] at this
    simpa using this
  have hself : (lo, w, v) ∈ l := by
    have hin : (lo, w, v) ∈ fieldsIn l lo w := by simp [hl]
    exact (List.mem_filter.mp hin).1
  apply BitVec.eq_of_getLsbD_eq
  intro i hi
  rw [BitVec.getLsbD_extractLsb', getLsbD_packWord l (by omega), BitVec.getLsbD_ofNat, Bool.eq_iff_iff]
  simp only [hi, decide_true, Bool.true_and, List.any_eq_true, Bool.and_eq_true, decide_eq_true_eq]
  constructor
  · rintro ⟨f, hf, ⟨h1, h2⟩, hbit⟩
    obtain rfl := hmem f hf (by omega)
    simpa using hbit
  · intro hbit
    exact ⟨_, hself, ⟨by simp, by simpa using hi⟩, by simpa using hbit⟩

/-- Bits that no field covers are 0. -/
theorem packWord_fill {l : List (Nat × Nat × Nat)} {lo w : Nat} (hl : fieldsIn l lo w = []) :
    (packWord l).extractLsb' lo w = 0#w := by
  ext i hi
  rw [BitVec.getElem_extractLsb', BitVec.getElem_zero]
  by_cases h32 : lo + i < 32
  · rw [getLsbD_packWord l h32, List.any_eq_false]
    intro f hf hin
    simp only [Bool.and_eq_true, decide_eq_true_eq] at hin
    have : f ∈ fieldsIn l lo w := List.mem_filter.mpr ⟨hf, by simp; omega⟩
    simp [hl] at this
  · exact BitVec.getLsbD_of_ge _ _ (not_lt.mp h32)

/-- A one-bit field. -/
theorem packWord_bit {l : List (Nat × Nat × Nat)} {i : Nat} {b : Bool} (hi : i < 32)
    (hl : fieldsIn l i 1 = [(i, 1, b.toNat)]) : (packWord l).getLsbD i = b := by
  have h := congrArg (BitVec.getLsbD · 0) (packWord_field (show i + 1 ≤ 32 by omega) hl)
  have hb : ∀ b : Bool, (BitVec.ofNat 1 b.toNat).getLsbD 0 = b := by decide
  rw [hb] at h
  simpa using h

/-- A bit that no field covers. -/
theorem packWord_bit_fill {l : List (Nat × Nat × Nat)} {i : Nat} (hl : fieldsIn l i 1 = []) :
    (packWord l).getLsbD i = false := by
  have h := congrArg (·.getLsbD 0) (packWord_fill hl)
  simpa using h

/-- The upper 16 bits and the lower 32 of a time. -/
theorem ofNat_high (x : Time) : BitVec.ofNat 16 (x.toNat / 2 ^ 32) = x.extractLsb' 32 16 := by
  apply BitVec.eq_of_toNat_eq
  simp [BitVec.extractLsb'_toNat, Nat.shiftRight_eq_div_pow]

theorem ofNat_low (x : Time) : BitVec.ofNat 32 x.toNat = x.extractLsb' 0 32 := by
  apply BitVec.eq_of_toNat_eq
  simp [BitVec.extractLsb'_toNat]

/-! ## The words of a record (R119, R204) -/

theorem Build.words_length (b : Build) : b.words.length = b.total := by
  simp only [Build.words, Build.total, Build.samples, List.length_append, List.length_cons, List.length_nil,
    List.length_map, List.length_flatMap]
  omega

theorem contributionWord_at {b : Build} {i : Nat} {c : Contribution} (hc : b.contributions[i]? = some c) :
    b.words[4 + i]? = some (contributionWord c) := by
  have hi : i < b.contributions.length := (List.getElem?_eq_some_iff.mp hc).1
  simp only [Build.words, List.append_assoc]
  rw [List.getElem?_append_right (by simp), List.getElem?_append_left (by simpa using hi)]
  simp [hc]

/-- The place of an element of the i-th list in the lists put in a row. -/
theorem getElem?_flatMap {α β : Type} (f : α → List β) {l : List α} {i j : Nat} {a : α} {x : β} (ha : l[i]? = some a)
    (hx : (f a)[j]? = some x) : (l.flatMap f)[((l.take i).map fun d => (f d).length).sum + j]? = some x := by
  obtain ⟨hi, rfl⟩ := List.getElem?_eq_some_iff.mp ha
  have hsplit : l.flatMap f = (l.take i).flatMap f ++ (f l[i] ++ (l.drop (i + 1)).flatMap f) := by
    have happend := List.take_append_drop i l
    rw [List.drop_eq_getElem_cons hi] at happend
    rw [← List.flatMap_cons, ← List.flatMap_append, happend]
  have hlen : ((l.take i).flatMap f).length = ((l.take i).map fun d => (f d).length).sum := by simp [List.length_flatMap]
  rw [hsplit, List.getElem?_append_right (by omega), hlen, Nat.add_sub_cancel_left,
    List.getElem?_append_left (List.getElem?_eq_some_iff.mp hx).1]
  exact hx

theorem sampleWord_at {b : Build} {i j : Nat} {c : Contribution} {x : Sample} (hc : b.contributions[i]? = some c)
    (hx : c.samples[j]? = some x) :
    b.words[4 + b.contributions.length + ((b.contributions.take i).map fun d => d.samples.length).sum + j]?
      = some (sampleWord c.member x) := by
  have hat := getElem?_flatMap (fun c : Contribution => c.samples.map (sampleWord c.member)) hc
    (x := sampleWord c.member x) (j := j) (by simp [hx])
  simp only [List.length_map] at hat
  have hlt := (List.getElem?_eq_some_iff.mp hat).1
  simp only [Build.words]
  rw [List.getElem?_append_left (by simp; simp at hlt; omega), List.getElem?_append_right (by simp; omega)]
  rw [← hat]
  congr 1
  simp
  omega

/-- Settles O38: each word of a record at its place, and its fields from the packing. -/
theorem recordWordsInOrder : Obligations.RecordWordsInOrder := by
  intro b
  have hheader : b.words.getD 0 0 = headerWord b := rfl
  refine ⟨b.words_length, ?_, ?_, ?_, ?_, ?_, rfl, fun ht => ?_, fun x hx => ?_, fun i hi c hc w hw => ?_,
    fun i hi c hc j hj x hx w hw => ?_, fun w hw => ?_⟩
  · exact packWord_field (by omega) rfl
  · exact packWord_fill rfl
  · exact packWord_field (by omega) rfl
  · exact packWord_fill rfl
  · rw [b.words_length]
    exact packWord_field (by omega) rfl
  · have hhigh : b.words.getD 2 0 = timeHighWord b := rfl
    have hlow : b.words.getD 3 0 = timeLowWord b := rfl
    rw [hhigh, hlow, timeHighWord, timeLowWord, ht]
    exact ⟨by decide, rfl⟩
  · have hhigh : b.words.getD 2 0 = timeHighWord b := rfl
    have hlow : b.words.getD 3 0 = timeLowWord b := rfl
    rw [hhigh, hlow, timeHighWord, timeLowWord, show b.time = some x from hx]
    refine ⟨?_, ofNat_low x⟩
    rw [← ofNat_high x]
    apply BitVec.eq_of_toNat_eq
    simp [packWord]
  · rw [contributionWord_at hc] at hw
    obtain rfl := Option.some.inj hw
    refine ⟨packWord_field (by omega) rfl, packWord_fill rfl, packWord_field (by omega) rfl, packWord_bit_fill rfl, ?_,
      packWord_fill rfl, packWord_bit (by omega) rfl, packWord_bit (by omega) rfl, packWord_bit (by omega) rfl,
      packWord_bit (by omega) rfl, packWord_bit (by omega) rfl, packWord_fill rfl, packWord_bit (by omega) rfl,
      packWord_bit_fill rfl, packWord_field (by omega) rfl⟩
    rw [contributionWord, packWord_field (by omega) rfl]
    cases c.state <;> rfl
  · rw [sampleWord_at hc hx] at hw
    obtain rfl := Option.some.inj hw
    refine ⟨packWord_field (by omega) rfl, packWord_fill rfl, packWord_field (by omega) rfl, packWord_fill rfl, ?_,
      packWord_bit_fill rfl, packWord_bit (by omega) rfl, ?_⟩
    · rw [sampleWord, packWord_field (by omega) rfl, BitVec.ofNat_toNat, BitVec.setWidth_eq]
    · rw [sampleWord, packWord_field (by omega) rfl, BitVec.ofNat_toNat, BitVec.setWidth_eq]
  · have hlast : b.words.getLast? = some (endWord b) := List.getLast?_concat
    obtain rfl := Option.some.inj (hlast.symm.trans hw)
    refine ⟨packWord_field (by omega) rfl, packWord_fill rfl, ?_, packWord_bit (by omega) rfl,
      packWord_field (by omega) rfl⟩
    refine packWord_bit (by omega) ?_
    by_cases hc : b.cause = some .timeout <;> simp [hc, fieldsIn]

end Sys2Proof.Machine
end

section
/-! The inspection window (R206 to R208, R213): the words that reads take, the extension words they copy, and the
transactions on the pins. -/

namespace Sys2Proof.Machine
namespace State
variable {s : State}

/-- A read of the row's command: the word and the extension words, and the transaction under way. -/
theorem exec_read (hrst : s.pins.rst = false) (a : Addr) :
    exec .storeRead s = .next (s.readStore.setLine (readLine 0x01))
      ∧ exec .takesRead s = .next (s.readTakes.setLine (readLine 0x03))
      ∧ exec .buildsRead s = .next (s.readBuilds.setLine (readLine 0x07))
      ∧ exec .faultsRead s = .next (s.readFaults.setLine (readLine 0x0A))
      ∧ exec .timeLoRead s = .next (s.readTimeLo.setLine (readLine 0x0E))
      ∧ exec (.rosterRead a) s = .next ((s.readRoster a).setLine (readLine (BitVec.ofNat 7 (0x10 + a.val)))) := by
  simp [exec, execStoreRead, execTakesRead, execBuildsRead, execFaultsRead, execTimeLoRead, execRosterRead, hrst]

theorem isCollector_of_acquirer (h : s.isAcquirer = true) : s.isCollector = false := by
  rw [← Bool.not_eq_true, isCollector_iff, not_not]
  exact h

theorem isAcquirer_of_collector (h : s.isCollector = true) : s.isAcquirer = false := by
  simpa using (isCollector_iff s).mp h

theorem capturing_isSome (st : Store) : st.capturing.isSome = st.records.any fun r => r.state = .capturing := by
  rw [Store.capturing, List.isSome_find?]

/-- R10: the head of the store has the lowest number. -/
theorem head?_number (st : Store) : st.head?.map (·.number) = (st.records.map (·.number)).min? := by
  cases hh : st.head? with
  | some r =>
    obtain ⟨hr, hlow⟩ := Store.head?_lowest hh
    refine (List.min?_eq_some_iff.mpr ⟨List.mem_map_of_mem hr, fun n hn => ?_⟩).symm
    obtain ⟨q, hq, rfl⟩ := List.mem_map.mp hn
    exact hlow q hq
  | none =>
    cases hm : (st.records.map (·.number)).min? with
    | none => rfl
    | some n =>
      obtain ⟨hn, hlow⟩ := List.min?_eq_some_iff.mp hm
      obtain ⟨r, hr, rfl⟩ := List.mem_map.mp hn
      have hnone := List.find?_eq_none.mp hh r hr
      exact absurd (List.all_eq_true.mpr fun q hq => by simpa using hlow _ (List.mem_map_of_mem hq)) hnone

theorem storeWord_of_collector (h : s.isCollector = true) : s.storeWord = 0x10000#32 ∧ s.storeHead = 0 := by
  simp only [storeWord, storeHead, shownStore, h, if_true]
  have hempty : packWord [(0, 6, 0), (6, 11, 1024), (17, 2, 0), (19, 1, 0), (20, 1, 0), (21, 1, 0), (22, 1, 0)]
      = 0x10000#32 := by decide
  exact ⟨hempty, rfl⟩

end State

/-- Settles O43: the packed words field by field, and the copies. -/
theorem listWordsShowTheLists : Obligations.ListWordsShowTheLists := by
  intro s hrst
  obtain ⟨hstore, htakes, hbuilds, -⟩ := State.exec_read hrst 0
  refine ⟨⟨_, hstore, packWord_fill rfl, fun ha => ?_, fun hc => State.storeWord_of_collector hc, rfl⟩,
    ⟨_, htakes, packWord_field (by omega) rfl, packWord_field (by omega) rfl, packWord_bit (by omega) rfl,
      packWord_bit (by omega) rfl, packWord_bit (by omega) rfl, packWord_fill rfl, rfl⟩,
    ⟨_, hbuilds, packWord_fill rfl, fun hc => ?_, fun ha => ?_, rfl⟩⟩
  · have hshown : s.shownStore = s.store := by simp [State.shownStore, State.isCollector_of_acquirer ha]
    have hword : (s.readStore.setLine (readLine 0x01)).insp.taken = s.storeWord := rfl
    rw [hword]
    refine ⟨?_, ?_, ?_, ?_, ?_, ?_, ?_, ?_⟩
    · rw [State.storeWord, packWord_field (by omega) rfl, hshown]
    · rw [State.storeWord, packWord_field (by omega) rfl, hshown]
      rfl
    · rw [State.storeWord, packWord_field (by omega) rfl, hshown]
      have hhead : s.store.records.find? (fun r : Record =>
        s.store.records.all fun q => decide (r.number ≤ q.number)) = s.store.head? := rfl
      rw [hhead]
      cases s.store.head? with
      | none => rfl
      | some r => obtain ⟨_, _ | _ | _⟩ := r <;> rfl
    · rw [State.storeWord, packWord_bit (by omega) rfl, hshown, State.capturing_isSome]
    · rw [State.storeWord, packWord_bit (by omega) rfl, hshown]
      rfl
    · rw [State.storeWord, packWord_bit (by omega) rfl, hshown]
      rfl
    · rw [State.storeWord, packWord_bit (by omega) rfl, hshown]
      rfl
    · have hhead : (s.readStore.setLine (readLine 0x01)).insp.ext.storeHead = s.storeHead := rfl
      rw [hhead, State.storeHead, hshown, State.head?_number]
  · have hshown : s.shownBuild = s.build := by simp [State.shownBuild, State.isAcquirer_of_collector hc]
    have hword : (s.readBuilds.setLine (readLine 0x07)).insp.taken = s.buildsWord := rfl
    rw [hword]
    refine ⟨?_, ?_, ?_, ?_, ?_, ?_, ?_⟩
    · rw [State.buildsWord, packWord_field (by omega) rfl, hshown]
    · rw [State.buildsWord, packWord_field (by omega) rfl, hshown]
      rfl
    · rw [State.buildsWord, packWord_field (by omega) rfl, hshown]
      cases s.build.builds.head? with
      | none => rfl
      | some b => obtain ⟨_, _, _ | _ | _⟩ := b <;> rfl
    · rw [State.buildsWord, packWord_bit (by omega) rfl, hshown]
      rfl
    · rw [State.buildsWord, packWord_bit (by omega) rfl, hshown]
      rfl
    · have hhead : (s.readBuilds.setLine (readLine 0x07)).insp.ext.buildsHead = s.buildsHead := rfl
      rw [hhead, State.buildsHead, hshown]
    · have hlast : (s.readBuilds.setLine (readLine 0x07)).insp.ext.buildsLast
          = BitVec.ofNat 32 s.shownBuild.lastDelivered := rfl
      rw [hlast, hshown]
  · have hshown : s.shownBuild = BuildUnit.empty := by simp [State.shownBuild, ha]
    have hword : (s.readBuilds.setLine (readLine 0x07)).insp.taken = s.buildsWord := rfl
    have hext : (s.readBuilds.setLine (readLine 0x07)).insp.ext = { s.insp.ext with
      buildsHead := s.buildsHead, buildsLast := BitVec.ofNat 32 s.shownBuild.lastDelivered } := rfl
    rw [hword, hext, State.buildsWord, State.buildsHead, hshown]
    have hempty : packWord [(0, 4, 0), (4, 13, 4096), (17, 2, 0), (19, 1, 0), (20, 1, 0)] = 0x10000#32 := by decide
    exact ⟨hempty, rfl, rfl⟩

/-! ## Faults, time, roster and the other words -/

theorem timeHigh_fields (x : Time) (y : TimeState) :
    (timeHigh x y).extractLsb' 0 16 = x.extractLsb' 32 16 ∧ (timeHigh x y).extractLsb' 16 15 = 0#15
      ∧ (timeHigh x y).getLsbD 31 = decide (y = .set) := by
  refine ⟨?_, packWord_fill rfl, packWord_bit (by omega) ?_⟩
  · rw [timeHigh, packWord_field (by omega) rfl, ofNat_high]
  · cases y <;> rfl

theorem ofNat_toNat_self {w : Nat} (x : BitVec w) : BitVec.ofNat w x.toNat = x := by
  rw [BitVec.ofNat_toNat, BitVec.setWidth_eq]

/-- R209: the counters stand in the window in their order. -/
theorem windowWord_counter (s : State) (i : Fin 18) :
    s.windowWord (BitVec.ofNat 7 (0x21 + i.val)) = s.insp.counters[i].setWidth 32 := by
  fin_cases i <;> rfl

theorem counters_toList (s : State) : s.insp.counters.toList = [s.count .straySamples, s.count .suppressed,
    s.count .doubles, s.count .refusedTriggers, s.count .heldEdges, s.count .missedEvents, s.count .missedEdges,
    s.count .numberSlips, s.count .staleTakes, s.count .lateDrops, s.count .skipsSent, s.count .lateFrags,
    s.count .badFrames, s.count .malformed, s.count .txRetries, s.count .buildOverflows,
    s.count .truncatedBuilds, s.count .timeSuspects] := by
  refine List.ext_getElem (by simp) fun i h1 h2 => ?_
  have hi : i < 18 := by simpa using h1
  rw [Vector.getElem_toList]
  interval_cases i <;> rfl

/-- Settles O44: the packed words field by field, the copies, and the words of the other addresses. -/
theorem faultTimeAndRosterWords : Obligations.FaultTimeAndRosterWords := by
  intro s a hrst
  obtain ⟨-, -, -, hfaults, htime, hroster⟩ := State.exec_read hrst a
  have hstatus : s.windowWord 0x00 = s.statusWord := rfl
  refine ⟨?_, ?_, packWord_field (by omega) rfl, ?_, ?_, ?_, packWord_bit (by omega) rfl, packWord_bit (by omega) rfl,
    packWord_fill rfl, windowWord_counter s, counters_toList s, rfl, rfl, rfl, rfl, rfl, rfl, rfl, rfl, rfl, rfl, rfl,
    ⟨_, hfaults, ?_, packWord_bit_fill rfl, packWord_field (by omega) rfl, packWord_field (by omega) rfl,
      packWord_fill rfl, fun f hf => ?_, fun hf => ?_, rfl⟩,
    ⟨_, htime, ofNat_low _, (timeHigh_fields _ _).1, (timeHigh_fields _ _).2.1, (timeHigh_fields _ _).2.2, rfl, rfl⟩,
    ⟨_, hroster, ?_, ?_, ?_, packWord_field (by omega) rfl, packWord_fill rfl, rfl⟩⟩
  · rw [hstatus, State.statusWord, packWord_field (by omega) rfl]
    cases s.start.station <;> rfl
  · rw [hstatus, State.statusWord]
    refine packWord_bit (by omega) ?_
    cases s.pins.role <;> rfl
  · rw [hstatus, State.statusWord]
    refine packWord_bit (by omega) ?_
    cases s.time.state <;> rfl
  · exact packWord_bit (by omega) rfl
  · rw [hstatus, State.statusWord, packWord_field (by omega) rfl]
    cases s.trig.outcome <;> rfl
  · have hword : (s.readFaults.setLine (readLine 0x0A)).insp.taken = s.faultsWord := rfl
    rw [hword, State.faultsWord, packWord_field (by omega) rfl, ofNat_toNat_self]
  · have hext : (s.readFaults.setLine (readLine 0x0A)).insp.ext = { s.insp.ext with
      faultContext := s.faultContext, faultTimeLo := s.faultTimeLo, faultTimeHi := s.faultTimeHi } := rfl
    rw [hext]
    simp only [State.faultContext, State.faultTimeLo, State.faultTimeHi, show s.insp.faults.first = some f from hf,
      Option.map_some, Option.getD_some]
    exact ⟨trivial, ofNat_low _, timeHigh_fields _ _⟩
  · have hext : (s.readFaults.setLine (readLine 0x0A)).insp.ext = { s.insp.ext with
      faultContext := s.faultContext, faultTimeLo := s.faultTimeLo, faultTimeHi := s.faultTimeHi } := rfl
    rw [hext]
    simp [State.faultContext, State.faultTimeLo, State.faultTimeHi, hf]
  · have hword : ((s.readRoster a).setLine (readLine (BitVec.ofNat 7 (0x10 + a.val)))).insp.taken = s.rosterWord a := rfl
    rw [hword, State.rosterWord, packWord_field (by omega) rfl]
    cases (s.entry a).state <;> rfl
  · have hword : ((s.readRoster a).setLine (readLine (BitVec.ofNat 7 (0x10 + a.val)))).insp.taken = s.rosterWord a := rfl
    rw [hword, State.rosterWord]
    refine packWord_bit (by omega) ?_
    by_cases hr : (s.entry a).role = some .collector <;> simp [hr, fieldsIn]
  · have hword : ((s.readRoster a).setLine (readLine (BitVec.ofNat 7 (0x10 + a.val)))).insp.taken = s.rosterWord a := rfl
    rw [hword, State.rosterWord, packWord_field (by omega) rfl, ofNat_toNat_self]

end Sys2Proof.Machine
end

section
/-! The transactions on the inspection port's pins (R206). -/

namespace Sys2Proof.Machine

theorem natOfBits_append (a b : List Bool) : natOfBits (a ++ b) = natOfBits a * 2 ^ b.length + natOfBits b := by
  have h (l : List Bool) (n : Nat) : l.foldl (fun n b => 2 * n + b.toNat) n = n * 2 ^ l.length + natOfBits l := by
    unfold natOfBits
    induction l generalizing n with
    | nil => simp
    | cons x l ih =>
      rw [List.foldl_cons, List.foldl_cons, ih, ih (2 * 0 + x.toNat), List.length_cons, Nat.pow_succ]
      ring
  rw [natOfBits, List.foldl_append, h b]
  rfl

theorem bitsOf_succ (w v : Nat) : bitsOf (w + 1) v = v.testBit w :: bitsOf w v := by
  rw [bitsOf, List.range_succ_eq_map, List.map_cons, List.map_map, bitsOf]
  congr 1
  refine List.map_congr_left fun i _ => ?_
  simp only [Function.comp_apply]
  congr 1
  omega

/-- A number's bits spell it, modulo their count. -/
theorem natOfBits_bitsOf (w v : Nat) : natOfBits (bitsOf w v) = v % 2 ^ w := by
  induction w with
  | zero => simp [bitsOf, natOfBits, Nat.mod_one]
  | succ w ih =>
    rw [bitsOf_succ, ← List.singleton_append, natOfBits_append, ih, bitsOf_length, Nat.pow_succ, Nat.mod_mul,
      ← Nat.toNat_testBit]
    simp [natOfBits, Nat.add_comm, Nat.mul_comm]

namespace State
variable {s : State}

theorem setLine_self (s : State) : s.setLine s.insp.line = s := rfl

@[simp] theorem readTransaction_setLine (x : InspectionLine) (a : BitVec 7) (s : State) :
    (s.setLine x).readTransaction a = (s.readTransaction a).setLine x := by
  unfold readTransaction
  dsimp only
  (repeat' split) <;> rfl

@[simp] theorem restartTrunk_setLine (x : InspectionLine) (s : State) :
    (s.setLine x).restartTrunk = s.restartTrunk.setLine x := by
  have hstart : (s.setLine x).start = s.start ∧ (s.setLine x).config = s.config ∧ (s.setLine x).trig = s.trig :=
    ⟨rfl, rfl, rfl⟩
  unfold restartTrunk
  rw [hstart.1, hstart.2.1, hstart.2.2]
  (repeat' split) <;> rfl

@[simp] theorem writeTransaction_setLine (x : InspectionLine) (a : BitVec 7) (n : Nat) (s : State) :
    (s.setLine x).writeTransaction a n = (s.writeTransaction a n).setLine x := by
  unfold writeTransaction
  split
  · split
    · rfl
    · rfl
    · exact restartTrunk_setLine x s
    · rfl
  · rfl

/-! ## Clocks -/

/-- R206: one clock of a transaction: the rise samples ISDI, and a read takes its word with the eighth bit. -/
theorem clock_selected {l : List Bool} {k : Nat} (hl : s.insp.line = .selected l k) (b : Bool) :
    (s.inspectPin (.isckRise b)).inspectPin .isckFall =
      (if l.length = 7 && !isWrite l then s.readTransaction (transactionAddress (l ++ [b])) else s).setLine
        (.selected (l ++ [b]) (if l.length < 7 then 0 else if l.length < 8 then 1 else k + 1)) := by
  rw [inspectPin_isckFall]
  unfold inspectPin transactionEvent
  rw [hl]
  dsimp only [InspectionLine.next]
  rw [setLine_setLine]
  congr 1
  simp only [setLine_insp, List.length_append, List.length_singleton]
  congr 1
  split_ifs <;> omega

/-- The clocks of a run of bits. -/
def clocks (l : List Bool) : List InspectionPin := l.flatMap fun b => [.isckRise b, .isckFall]

theorem inspectPins_append (a b : List InspectionPin) (s : State) :
    s.inspectPins (a ++ b) = (s.inspectPins a).inspectPins b := List.foldl_append

theorem inspectPins_clock (b : Bool) (l : List Bool) (s : State) :
    s.inspectPins (clocks (b :: l)) = ((s.inspectPin (.isckRise b)).inspectPin .isckFall).inspectPins (clocks l) := rfl

/-- R206: further clocks after the address byte only sample on. -/
theorem clocks_further (m : List Bool) : ∀ {s : State} {l : List Bool} {k : Nat}, s.insp.line = .selected l k →
    8 ≤ l.length → s.inspectPins (clocks m) = s.setLine (.selected (l ++ m) (k + m.length)) := by
  induction m with
  | nil =>
    intro s l k hl _
    simp only [List.append_nil, List.length_nil, Nat.add_zero, ← hl]
    exact (setLine_self s).symm
  | cons b m ih =>
    intro s l k hl h8
    have h7 : ¬ l.length = 7 := by omega
    rw [inspectPins_clock, clock_selected hl]
    simp only [h7, decide_false, Bool.false_and, Bool.false_eq_true, if_false, show ¬ l.length < 7 by omega,
      show ¬ l.length < 8 by omega]
    rw [ih (l := l ++ [b]) (k := k + 1) rfl (by simp; omega), setLine_setLine]
    simp only [List.append_assoc, List.singleton_append, List.length_cons]
    congr 2
    omega

theorem addressByte_length (w : Bool) (a : BitVec 7) : (addressByte w a).length = 8 := by simp [addressByte]

theorem transactionAddress_byte (w : Bool) (a : BitVec 7) (m : List Bool) :
    transactionAddress (addressByte w a ++ m) = a := by
  have hbits : ((List.range 7).map fun i => a.getLsbD (6 - i)) = bitsOf 7 a.toNat := rfl
  have hfield : fieldAt (addressByte w a ++ m) 1 7 = a.toNat % 2 ^ 7 := by
    rw [fieldAt, addressByte, hbits, List.cons_append, List.drop_one, List.tail_cons,
      List.take_append_of_le_length (by simp), List.take_of_length_le (by simp), natOfBits_bitsOf]
  rw [transactionAddress, hfield, Nat.mod_eq_of_lt a.isLt, ofNat_toNat_self]

/-- R206: the address byte on the pins: a read takes its word with its last bit. -/
theorem inspectPins_byte (hl : s.insp.line = .released) (w : Bool) (a : BitVec 7) :
    s.inspectPins ([.iscs false] ++ clocks (addressByte w a)) =
      (if w then s else s.readTransaction a).setLine (.selected (addressByte w a) 1) := by
  have hselect : s.inspectPins [.iscs false] = s.setLine (.selected [] 0) := by
    simp [inspectPins, inspectPin, transactionEvent, hl, InspectionLine.next]
  have haddress := transactionAddress_byte w a []
  obtain ⟨b0, b1, b2, b3, b4, b5, b6, hbyte⟩ : ∃ b0 b1 b2 b3 b4 b5 b6, addressByte w a = [w, b0, b1, b2, b3, b4, b5, b6] :=
    ⟨_, _, _, _, _, _, _, rfl⟩
  rw [inspectPins_append, hselect, hbyte]
  rw [hbyte, List.append_nil] at haddress
  have hearly (t : State) (l : List Bool) (h7 : l.length < 7) (b : Bool) (m : List Bool) :
      (t.setLine (.selected l 0)).inspectPins (clocks (b :: m))
        = (t.setLine (.selected (l ++ [b]) 0)).inspectPins (clocks m) := by
    rw [inspectPins_clock, clock_selected (l := l) (k := 0) rfl]
    simp [h7, h7.ne]
  rw [hearly _ _ (by simp), hearly _ _ (by simp), hearly _ _ (by simp), hearly _ _ (by simp), hearly _ _ (by simp),
    hearly _ _ (by simp), hearly _ _ (by simp), inspectPins_clock, clock_selected (k := 0) rfl]
  simp only [List.nil_append, List.cons_append] at haddress ⊢
  cases w <;> simp [isWrite, haddress, inspectPins, clocks]

theorem windowWord_of_read (a : BitVec 7) (s : State) : (s.readTransaction a).insp.taken = s.windowWord a := by
  unfold readTransaction windowWord
  dsimp only
  split
  case h_6 h1 h3 h7 hA hE =>
    split
    · next hr =>
      split
      case h_17 => exact (if_pos hr.2).symm ▸ rfl
      all_goals omega
    · rfl
  all_goals next h => simp only [h]; rfl

/-- R207: a read of a word that leads no others takes it and copies nothing. -/
theorem readTransaction_of_rest {a : BitVec 7} (hlead : a.toNat ∉ [0x01, 0x03, 0x07, 0x0A, 0x0E])
    (hroster : ¬ (0x10 ≤ a.toNat ∧ a.toNat < 0x20)) (s : State) :
    s.readTransaction a = s.takeRead (s.windowWord a) s.insp.ext := by
  unfold readTransaction
  dsimp only
  split
  case h_6 => rw [if_neg hroster]
  all_goals next h => simp [h] at hlead

theorem windowWord_above {a : BitVec 7} (h : 0x33 ≤ a.toNat) (s : State) : s.windowWord a = 0 := by
  unfold windowWord
  dsimp only
  split
  case h_17 => rw [if_neg (by omega), if_neg (by omega), if_neg (by omega)]
  all_goals omega

/-- R207: the commands of the lead words are the reads of their addresses. -/
theorem exec_lead_read (hrst : s.pins.rst = false) {a : BitVec 7} {c : Instr}
    (h : c = .storeRead ∧ a = 0x01 ∨ c = .takesRead ∧ a = 0x03 ∨ c = .buildsRead ∧ a = 0x07 ∨ c = .faultsRead ∧ a = 0x0A
      ∨ c = .timeLoRead ∧ a = 0x0E ∨ ∃ m : Addr, c = .rosterRead m ∧ a.toNat = 16 + m.val) :
    exec c s = .next ((s.readTransaction a).setLine (.selected (addressByte false a) 0)) := by
  obtain ⟨hstore, htakes, hbuilds, hfaults, htime, -⟩ := exec_read hrst 0
  rcases h with ⟨rfl, rfl⟩ | ⟨rfl, rfl⟩ | ⟨rfl, rfl⟩ | ⟨rfl, rfl⟩ | ⟨rfl, rfl⟩ | ⟨m, rfl, ha⟩
  · exact hstore
  · exact htakes
  · exact hbuilds
  · exact hfaults
  · exact htime
  · obtain ⟨-, -, -, -, -, hroster⟩ := exec_read hrst m
    have haddress : a = BitVec.ofNat 7 (0x10 + m.val) := by
      rw [← ha, ofNat_toNat_self]
    have hmember : (Fin.ofNat 16 (a.toNat - 16) : Addr) = m := by
      rw [ha, Nat.add_sub_cancel_left]
      exact Fin.ofNat_val_eq_self m
    have hread : s.readTransaction a = s.readRoster m := by
      unfold readTransaction
      dsimp only
      split
      case h_6 => rw [if_pos (by omega), hmember]
      all_goals omega
    rw [hroster, hread, haddress]
    rfl

/-- R206: a rise of ISCK leaves ISDO. -/
theorem isdo_rise (b : Bool) (s : State) : (s.inspectPin (.isckRise b)).isdo = s.isdo := by
  cases hl : s.insp.line with
  | held low => simp [isdo, inspectPin, transactionEvent, hl, InspectionLine.next]
  | released => simp [isdo, inspectPin, transactionEvent, hl, InspectionLine.next]
  | selected l k =>
    have hpins : (s.inspectPin (.isckRise b)).pins = s.pins := by simp
    have hline : (s.inspectPin (.isckRise b)).insp.line = .selected (l ++ [b]) (if l.length < 8 then 0 else k) := by
      simp [inspectPin, hl, InspectionLine.next]
    unfold isdo drivesIsdo
    rw [hline, hl, hpins]
    dsimp only
    by_cases h8 : l.length < 8
    · simp [h8, not_le.mpr h8]
    · have hwrite : isWrite (l ++ [b]) = isWrite l := by
        cases l with
        | nil => simp at h8
        | cons x l => rfl
      have htaken : (s.inspectPin (.isckRise b)).insp.taken = s.insp.taken := by
        have h7 : ¬ l.length = 7 := by omega
        simp [inspectPin, transactionEvent, hl, h7]
      simp [hwrite, htaken, h8, InspectionLine.isLow, not_lt.mp h8, Nat.le_succ_of_le (not_lt.mp h8)]

/-- R206: under RST the port stays held. -/
theorem inspectPins_under_rst (pins : List InspectionPin) : ∀ {s : State} {low : Bool}, s.pins.rst = true →
    s.insp.line = .held low → ∃ low, s.inspectPins pins = s.setLine (.held low) := by
  induction pins with
  | nil => exact fun {s low} _ hl => ⟨low, by rw [← hl]; exact (setLine_self s).symm⟩
  | cons p pins ih =>
    intro s low hrst hl
    have hpin : ∃ low, s.inspectPin p = s.setLine (.held low) := by
      unfold inspectPin transactionEvent
      rw [hl]
      match p with
      | .iscs high => exact ⟨!high, by simp [InspectionLine.next, hrst]⟩
      | .isckRise _ | .isckFall => exact ⟨low, rfl⟩
    obtain ⟨low', hpin⟩ := hpin
    obtain ⟨low'', hrest⟩ := ih (s := s.setLine (.held low')) hrst rfl
    exact ⟨low'', by
      rw [show s.inspectPins (p :: pins) = (s.inspectPin p).inspectPins pins from rfl, hpin, hrest, setLine_setLine]⟩

/-- R206: a port held after RST waits for ISCS high. -/
theorem inspectPins_waiting (pins : List InspectionPin) (hl : s.insp.line = .held true)
    (h : ∀ p ∈ pins, p ≠ .iscs true) : s.inspectPins pins = s := by
  induction pins with
  | nil => rfl
  | cons p pins ih =>
    have hpin : s.inspectPin p = s := by
      unfold inspectPin transactionEvent
      rw [hl]
      have hp := h p List.mem_cons_self
      have hself : s.setLine (.held true) = s := by rw [← hl]; exact setLine_self s
      match p, hp with
      | .iscs false, _ => simpa [InspectionLine.next] using hself
      | .iscs true, hp => exact absurd rfl hp
      | .isckRise _, _ => simpa [InspectionLine.next] using hself
      | .isckFall, _ => simpa [InspectionLine.next] using hself
    rw [show s.inspectPins (p :: pins) = (s.inspectPin p).inspectPins pins from rfl, hpin]
    exact ih fun q hq => h q (List.mem_cons_of_mem _ hq)

/-- R206: a write that is no command's leaves everything. -/
theorem writeTransaction_of_none {a : BitVec 7} {n : Nat} (h : n ≠ 40 ∨ a ≠ 0x40 ∧ a ≠ 0x41 ∧ a ≠ 0x42) (s : State) :
    s.writeTransaction a n = s := by
  unfold writeTransaction
  split
  case isFalse => rfl
  case isTrue hn =>
    obtain ⟨h40, h41, h42⟩ := h.resolve_left fun hne => hne hn
    have hval {x : BitVec 7} (hx : a.toNat = x.toNat) : a = x := BitVec.eq_of_toNat_eq hx
    split
    · next ha => exact absurd (hval (x := 0x40) ha) h40
    · next ha => exact absurd (hval (x := 0x41) ha) h41
    · next ha => exact absurd (hval (x := 0x42) ha) h42
    · rfl

/-- R206: a whole transaction on the pins up to its last clock. -/
theorem inspectPins_bits (hl : s.insp.line = .released) (w : Bool) (a : BitVec 7) (m : List Bool) :
    s.inspectPins ([.iscs false] ++ clocks (addressByte w a ++ m)) =
      (if w then s else s.readTransaction a).setLine (.selected (addressByte w a ++ m) (1 + m.length)) := by
  have hsplit : clocks (addressByte w a ++ m) = clocks (addressByte w a) ++ clocks m := List.flatMap_append
  rw [hsplit, ← List.append_assoc, inspectPins_append, inspectPins_byte hl,
    clocks_further m (l := addressByte w a) (k := 1) rfl (addressByte_length w a).ge, setLine_setLine]

/-- R206: the rise of ISCS ends a write with its command. -/
theorem inspectPins_write (hl : s.insp.line = .released) (a : BitVec 7) (m : List Bool) :
    s.inspectPins ([.iscs false] ++ clocks (addressByte true a ++ m) ++ [.iscs true]) =
      (s.writeTransaction a (8 + m.length)).setLine .released := by
  have hlength : (addressByte true a ++ m).length = 8 + m.length := by rw [List.length_append, addressByte_length]
  have hwrite : isWrite (addressByte true a ++ m) = true := rfl
  rw [inspectPins_append, inspectPins_bits hl]
  simp only [if_true, inspectPins, List.foldl_cons, List.foldl_nil, inspectPin, transactionEvent, setLine_insp, hwrite,
    InspectionLine.next, transactionAddress_byte, hlength, writeTransaction_setLine, setLine_setLine]

/-- R206: the rise of ISCS ends a read. -/
theorem inspectPins_read (hl : s.insp.line = .released) (a : BitVec 7) (m : List Bool) :
    s.inspectPins ([.iscs false] ++ clocks (addressByte false a ++ m) ++ [.iscs true]) =
      (s.readTransaction a).setLine .released := by
  have hread : isWrite (addressByte false a ++ m) = false := rfl
  rw [inspectPins_append, inspectPins_bits hl]
  simp only [if_false, Bool.false_eq_true, inspectPins, List.foldl_cons, List.foldl_nil, inspectPin, transactionEvent,
    setLine_insp, hread, InspectionLine.next, if_true, setLine_setLine]

/-- R206: the bit on ISDO after so many falls of a read. -/
theorem isdo_of_read (hrst : s.pins.rst = false) {a : BitVec 7} {m : List Bool} {falls : Nat}
    (hl : s.insp.line = .selected (addressByte false a ++ m) falls) :
    s.isdo = if falls = 0 then none else some (if falls ≤ 32 then s.insp.taken.getLsbD (32 - falls) else false) := by
  have hlength : 8 ≤ (addressByte false a).length + m.length := by rw [addressByte_length]; omega
  have hread : isWrite (addressByte false a ++ m) = false := rfl
  have hlow : s.drivesIsdo = true := by simp [drivesIsdo, hrst, hl, InspectionLine.isLow]
  unfold isdo
  rw [hl]
  dsimp only
  rw [hlow, hread]
  by_cases hzero : falls = 0
  · simp [hzero]
  · have hindex : 31 - (falls - 1) = 32 - falls := by omega
    by_cases h32 : falls ≤ 32
    · simp [hzero, h32, shiftedOut, hindex, hlength, show falls - 1 < 32 by omega]
    · simp [hzero, h32, shiftedOut, hlength, show ¬ falls - 1 < 32 by omega]

theorem drivesIsdo_iff (hrst : s.pins.rst = false) (h : s.LineInPlace) :
    s.drivesIsdo = true ↔ s.insp.line ≠ .released := by
  have hheld := h.2 hrst
  unfold drivesIsdo
  match hl : s.insp.line with
  | .held true | .released | .selected _ _ => simp [hrst, InspectionLine.isLow]
  | .held false => exact absurd hl hheld

end State

/-- Settles O47: the port's transactions clock by clock, and the words and commands they are. -/
theorem transactionsTakeTheirCommands : Obligations.TransactionsTakeTheirCommands := by
  intro s address bits falls further byte clocks hrst hbyte hclocks
  have hb (w : Bool) : byte w = addressByte w address := hbyte w
  have hc : clocks = State.clocks := funext fun l => hclocks l
  subst hc
  have hwrite (a : BitVec 7) (n : Nat) : exec (.inspectionWriteOther a n) s
      = .next ((s.writeTransaction a n).setLine .released) := by simp [exec, execInspectionWriteOther, hrst]
  refine ⟨fun h => ?_, ?_, ?_, ?_, fun hl => ?_, fun c h => ?_, State.windowWord_of_read address s,
    fun h => State.windowWord_above h s, fun h1 h2 => State.readTransaction_of_rest h1 h2 s, fun hl => ?_,
    fun b => State.isdo_rise b s, ?_, fun hline => ?_, ?_, fun hl => ⟨fun pins h => State.inspectPins_waiting pins hl h, ?_⟩⟩
  · rw [hwrite, State.writeTransaction_of_none h]
  · rw [hwrite, exec_clearCounters hrst]
    rfl
  · rw [hwrite, exec_ackFault hrst]
    rfl
  · rw [hwrite]
    simp only [exec, execRestartTrunk, hrst]
    rfl
  · rw [hwrite, hb, hb, State.inspectPins_write hl, State.inspectPins_bits hl, State.inspectPins_read hl]
    exact ⟨rfl, rfl, rfl⟩
  · rw [hb]
    exact State.exec_lead_read hrst h
  · rw [hb] at hl
    exact State.isdo_of_read hrst hl
  · rw [State.inspectPin_isckFall]
    match s.insp.line with
    | .held _ | .released | .selected _ _ => rfl
  · exact State.drivesIsdo_iff hrst hline
  · exact ⟨_, rfl, rfl, rfl, fun pins => State.inspectPins_under_rst pins rfl rfl⟩
  · simp [State.inspectPins, State.inspectPin, State.transactionEvent, hl, InspectionLine.next, hrst]

end Sys2Proof.Machine
end

section
/-! The end of the capture window, trigger edges and the trunk restart (R12, R24, R25, R163, R164). -/

namespace Sys2Proof.Machine

theorem mem_changeRecord {n : Nat} {f : Record → Record} {l : List Record} {r : Record} (h : r ∈ changeRecord n f l) :
    r ∈ l ∨ ∃ q ∈ l, r = f q := by
  induction l with
  | nil => exact absurd h List.not_mem_nil
  | cons q l ih =>
    unfold changeRecord at h
    split at h
    · rcases List.mem_cons.mp h with rfl | h
      · exact .inr ⟨q, List.mem_cons_self, rfl⟩
      · exact .inl (List.mem_cons_of_mem _ h)
    · rcases List.mem_cons.mp h with rfl | h
      · exact .inl List.mem_cons_self
      · exact (ih h).imp (List.mem_cons_of_mem _) fun ⟨p, hp, hr⟩ => ⟨p, List.mem_cons_of_mem _ hp, hr⟩

theorem Store.endWindow_content (x : Store) :
    x.endWindow.records.map Record.content = x.records.map Record.content := by
  rw [Store.endWindow, List.map_map]
  refine List.map_congr_left fun r _ => ?_
  simp only [Function.comp_apply, Record.endWindow]
  split <;> rfl

namespace State
variable {s : State}

/-! ## Offering parts -/

/-- R49 to R53: the own parts move the store and the FRAG place alone. -/
theorem offerParts_eq (s : State) : s.offerParts = { s with
    store := s.offerParts.store
    frames := { s.frames with queue := { s.frames.queue with frag := s.offerParts.frames.queue.frag } } } := by
  unfold offerParts
  (repeat' split) <;> rfl

theorem offerParts_of_no_turn (h : s.ownTurn = none) : s.offerParts = s.withdrawFrag := by
  unfold offerParts
  rw [h]

/-- R50: an offered part only ever makes a record SENDING. -/
theorem offerParts_record {r : Record} (h : r ∈ s.offerParts.store.records) :
    r ∈ s.store.records ∨ r.state = .sending := by
  unfold offerParts at h
  split at h
  · exact .inl h
  · split at h
    · exact .inl h
    · split at h
      · exact .inl h
      · exact (mem_changeRecord h).imp_right fun ⟨q, _, hr⟩ => hr ▸ rfl

/-- R51: the part that is due stands where it is offered already. -/
theorem offerParts_of_offered {n : Nat} (h : s.ownTurn = some n) {f : FragFrame} (hd : s.duePart n = some f)
    (ho : s.alreadyOffered f = true) : s.offerParts = s := by
  unfold offerParts
  rw [h]
  dsimp only
  rw [hd]
  simp [ho]

theorem offerParts_of_due {n : Nat} (h : s.ownTurn = some n) {f : FragFrame} (hd : s.duePart n = some f)
    (ho : s.offeredPart = none) : s.offerParts = (s.offerFrag f).markSending n := by
  unfold offerParts
  rw [h]
  dsimp only
  rw [hd]
  simp [alreadyOffered, ho]

theorem duePart_of_record {n : Nat} {r : Record} (h : s.record? n = some r) (hr : r.state ≠ .capturing) :
    s.duePart n = some (s.recordPart r) := by
  unfold duePart
  rw [h]
  simp [hr]

theorem alreadyOffered_of_offerInv (h : s.OfferInv) {n : Nat} (hn : s.ownTurn = some n) {f : FragFrame}
    (hd : s.duePart n = some f) : s.alreadyOffered f = true := by
  rw [OfferInv, hn, Option.bind_some, hd, Option.map_some] at h
  obtain ⟨g, hg, hgf⟩ := Option.map_eq_some_iff.mp h
  unfold alreadyOffered
  rw [hg]
  simpa using Prod.mk.inj hgf

/-! ## The end of the window -/

theorem record?_endWindow (n : Nat) (s : State) :
    (s.setStore s.store.endWindow).record? n = (s.record? n).map Record.endWindow := by
  have hnumber : (fun r : Record => decide ((Record.endWindow r).number = n)) = fun r => decide (r.number = n) := by
    funext r
    unfold Record.endWindow
    split <;> rfl
  exact List.find?_map.trans (by rw [Function.comp_def, hnumber]; rfl)

theorem endWindow_sameView (s : State) : s.SameView (s.setStore s.store.endWindow) where
  pins := rfl
  config := rfl
  station := rfl
  roster := rfl
  list := rfl

theorem expireWindow_eq (h : s.store.window.isSome = true) : s.expireWindow = (s.setStore s.store.endWindow).offerParts := by
  obtain ⟨k, hk⟩ := Option.isSome_iff_exists.mp h
  unfold expireWindow
  rw [hk]

/-- R50: the end of the window leaves the part due of a record that does not capture. -/
theorem duePart_endWindow {n : Nat} (h : ∀ r ∈ s.record? n, r.state ≠ .capturing) :
    (s.setStore s.store.endWindow).duePart n = s.duePart n := by
  cases hr : s.record? n with
  | none => simp only [duePart, record?_endWindow, hr, Option.map_none]; rfl
  | some r =>
    have hstate : r.state ≠ .capturing := h r hr
    have hend : r.endWindow = r := if_neg hstate
    simp only [duePart, record?_endWindow, hr, Option.map_some, hend]
    rfl

end State

/-- Settles O11: with the window's end the turns stay, so only the record that was captured can be newly due. -/
theorem windowExpiryEndsCapture : Obligations.WindowExpiryEndsCapture := by
  intro s hrst hopen
  have hview := s.endWindow_sameView
  have hexec : exec .captureWindowExpiry s = .next (s.setStore s.store.endWindow).offerParts := by
    simp [exec, execCaptureWindowExpiry, hrst, State.expireWindow_eq hopen]
  refine ⟨_, hexec, ?_, ?_, fun r hr => ?_, fun hturn => ?_, fun hoffer n hn hstate => ?_, fun n hn r hr hcap hfrag => ?_,
    ?_⟩
  · simp [Store.endWindow]
  · rw [(State.offerParts_store _).2]
    exact s.store.endWindow_content
  · rcases State.offerParts_record hr with hr | hr
    · exact s.store.endWindow_spec.2.1 r hr
    · simp [hr]
  · rw [State.offerParts_of_no_turn (hview.ownTurn.trans hturn)]
    rfl
  · have hdue := State.duePart_endWindow hstate
    cases hd : s.duePart n with
    | none =>
      exfalso
      unfold State.duePart at hd
      split at hd
      · exact absurd hd (by simp)
      · next r hr => exact absurd hd (by simp [hstate r hr])
    | some f =>
      have hoffered := State.alreadyOffered_of_offerInv hoffer hn hd
      rw [State.offerParts_of_offered (hview.ownTurn.trans hn) (hdue.trans hd) hoffered]
      exact ⟨rfl, rfl⟩
  · have hready : r.endWindow = { r with state := .ready } := if_pos hcap
    have hrecord : (s.setStore s.store.endWindow).record? n = some { r with state := .ready } := by
      rw [State.record?_endWindow, Option.mem_def.mp hr, Option.map_some, hready]
    have hnone : (s.setStore s.store.endWindow).offeredPart = none := by simp [State.offeredPart, hfrag]
    rw [State.offerParts_of_due (hview.ownTurn.trans hn) (State.duePart_of_record hrecord (by simp)) hnone]
    refine ⟨?_, ?_⟩
    · rw [State.record?_markSending]
      exact congrArg (Option.map _) hrecord
    · simp [State.markSending, State.offerFrag, hfrag, Place.offer, Place.fresh, State.recordPart, Record.parts]
  · exact (State.offerParts_eq _).trans rfl

/-! ## Trigger edges -/

namespace State
variable {s : State}

/-- R25: the five effects, before the own parts are offered. -/
def edgeEffects (s : State) : State :=
  ((s.countEdge.storeEdge s.agree.evn s.time.counter).appendPending s.agree.evn s.time.counter).offerTake
    s.agree.evn s.time.counter

theorem acceptEdge_eq (s : State) : s.acceptEdge = s.edgeEffects.offerParts := rfl

theorem exec_triggerEdge (b : Bool) (hrst : s.pins.rst = false) (hu : s.unloaded = false) (hl : s.trig.level = false) :
    exec (.triggerEdge b) s = .next (s.takeEdge b) := by simp [exec, execTriggerEdge, hrst, hu, hl]

theorem accepts_iff (b : Bool) (s : State) : s.accepts b = true ↔
    s.readsHld b = false ∧ s.agree.exhausted = false ∧ s.agree.pendingTakes.length < 4 := by
  simp only [accepts, Bool.and_eq_true, Bool.not_eq_true', decide_eq_true_eq, and_assoc]
  rfl

theorem countEdge_agree (s : State) : s.countEdge.agree = { s.agree with
    evn := if s.agree.evn = maxEvent then 0 else s.agree.evn + 1
    exhausted := s.agree.exhausted || decide (s.agree.evn = maxEvent) } := by
  unfold countEdge
  split
  · next h => simp [becomeExhausted, h]
  · next h => simp [h]

theorem storeEdge_of_room (h : s.store.records.length < 32) (n : Nat) (t : Time) :
    s.storeEdge n t = s.setStore { window := some (s.config.capwin * 50), records := s.store.endWindow.records ++ [newRecord n t] } :=
  if_pos h

theorem storeEdge_of_full (h : 32 ≤ s.store.records.length) (n : Nat) (t : Time) :
    s.storeEdge n t = ((s.setStore s.store.endWindow).bump .missedEvents).raise .storeOverrun n :=
  if_neg (Nat.not_lt.mpr h)

theorem edgeEffects_agree (he : s.agree.exhausted = false) : s.edgeEffects.agree = { s.agree with
    evn := if s.agree.evn = maxEvent then 0 else s.agree.evn + 1
    exhausted := decide (s.agree.evn = maxEvent)
    pendingTakes := s.agree.pendingTakes ++ [{ number := s.agree.evn, edgeTime := s.time.counter }] } := by
  simp [edgeEffects, offerTake, appendPending, countEdge_agree, he]

theorem edgeEffects_frames (s : State) : s.edgeEffects.frames = { s.frames with queue := { s.frames.queue with
    takes := s.frames.queue.takes ++ [{
      frame := { number := BitVec.ofNat 32 s.agree.evn, sender := s.pins.address, time := s.time.counter }
      onWire := false, kept := .nothing }] } } := by
  simp [edgeEffects, offerTake, appendPending, takeFrame, Place.fresh]

theorem edgeEffects_store (s : State) :
    s.edgeEffects.store = (s.countEdge.storeEdge s.agree.evn s.time.counter).store
      ∧ s.edgeEffects.insp = (s.countEdge.storeEdge s.agree.evn s.time.counter).insp := ⟨rfl, rfl⟩

theorem countEdge_counters (s : State) : s.countEdge.insp.counters = s.insp.counters := by
  unfold countEdge
  split
  · rfl
  · rfl

/-- R25: what a full store counts is no held edge. -/
theorem edgeEffects_count {c : Counter} (hc : c ≠ .missedEvents) (s : State) : s.edgeEffects.count c = s.count c := by
  have hstore (t : State) (n : Nat) (x : Time) : (t.storeEdge n x).count c = t.count c := by
    unfold storeEdge
    dsimp only
    split
    · rfl
    · exact count_bump_of_ne hc _
  exact (hstore s.countEdge _ _).trans (by unfold count; rw [countEdge_counters])

/-- R49: with nothing on the take list no turn is open. -/
theorem ownTurn_of_no_take (h : s.agree.takeList = []) : s.ownTurn = none := by
  cases hn : s.ownTurn with
  | none => rfl
  | some n =>
    obtain ⟨e, he, -⟩ := ownTurn_mem hn
    simp [h] at he

end State

/-- Settles O12: the edge is decided on the state with the detector started, which no condition of acceptance reads. -/
theorem triggerEdgeIsDecided : Obligations.TriggerEdgeIsDecided := by
  intro s othersHold e hrst hu he
  have hstart : e = s.setTrig { s.trig with level := true, detector := some Config.detectorTicks } := he
  have hdecided (hl : s.trig.level = false) : exec (.triggerEdge othersHold) s = .next (e.decideEdge othersHold) := by
    rw [State.exec_triggerEdge othersHold hrst hu hl, State.takeEdge, hstart]
  have haccepts : e.accepts othersHold = s.accepts othersHold := by rw [hstart]; rfl
  have hrun (hr : s.pins.role = .acquirer) (hs : s.start.station = .running) :
      (e.isAcquirer && e.start.station = .running) = true := by simp [hstart, State.isAcquirer, hr, hs]
  refine ⟨fun hl => ?_, fun hl hout => ?_, fun hl hr hs hno => ?_, fun hl hr hs hhld hex hroom => ?_⟩
  · simp [exec, execTriggerEdge, hl]
  · have houtside : (e.isAcquirer && e.start.station = .running) = false := by
      simpa [hstart, State.isAcquirer] using hout
    rw [hdecided hl, State.decideEdge, houtside]
    rfl
  · have hno : ¬ s.accepts othersHold = true := (State.accepts_iff othersHold s).not.mpr hno
    rw [hdecided hl, State.decideEdge, if_pos (hrun hr hs), haccepts, if_neg hno]
  · have hyes : s.accepts othersHold = true := (State.accepts_iff othersHold s).mpr ⟨hhld, hex, hroom⟩
    refine ⟨e.acceptEdge, ?_, by simp, ?_, ?_⟩
    · rw [hdecided hl, State.decideEdge, if_pos (hrun hr hs), haccepts, if_pos hyes]
    · rw [← (show e.count .heldEdges = s.count .heldEdges by rw [hstart]; rfl), ← State.edgeEffects_count (by decide) e,
        State.acceptEdge_eq, State.count, State.count, (State.offerParts_frame _).2.2.2.2.2.2.2.2.2.2.1]
    · rw [State.acceptEdge_eq, (State.offerParts_frame _).2.2.2.2.2.1, State.edgeEffects_agree (by rw [hstart]; exact hex), hstart]
      rfl

namespace State
variable {s : State}

theorem countEdge_store (s : State) : s.countEdge.store = s.store ∧ s.countEdge.config = s.config
    ∧ s.countEdge.time = s.time := by
  unfold countEdge
  split <;> exact ⟨rfl, rfl, rfl⟩

/-- R11, R12: with a free descriptor the edge opens its record. -/
theorem edgeEffects_of_room (h : s.store.records.length < 32) : s.edgeEffects.store =
      { window := some (s.config.capwin * 50), records := s.store.endWindow.records ++ [newRecord s.agree.evn s.time.counter] }
    ∧ s.edgeEffects.insp = s.countEdge.insp := by
  obtain ⟨hstore, hconfig, -⟩ := s.countEdge_store
  rw [s.edgeEffects_store.1, s.edgeEffects_store.2, storeEdge_of_room (by rw [hstore]; exact h), setStore_store, hstore,
    hconfig]
  exact ⟨rfl, rfl⟩

/-- R18: with none the edge is missed. -/
theorem edgeEffects_of_full (h : 32 ≤ s.store.records.length) : s.edgeEffects.store = s.store.endWindow
    ∧ s.edgeEffects.insp = ((s.countEdge.bump .missedEvents).raise .storeOverrun s.agree.evn).insp := by
  obtain ⟨hstore, -, -⟩ := s.countEdge_store
  rw [s.edgeEffects_store.1, s.edgeEffects_store.2, storeEdge_of_full (by rw [hstore]; exact h), hstore]
  exact ⟨rfl, rfl⟩

theorem countEdge_raised (h : s.agree.evn = maxEvent) : s.Raised s.countEdge .runExhausted maxEvent := by
  unfold countEdge
  rw [if_pos h]
  rfl

theorem countEdge_insp (h : s.agree.evn ≠ maxEvent) : s.countEdge.insp = s.insp := by
  unfold countEdge
  rw [if_neg h]
  rfl

end State

/-- Settles O13: the effects are those of `edgeEffects`, and the parts then offered move no record's content. -/
theorem acceptedEdgeHasFiveEffects : Obligations.AcceptedEdgeHasFiveEffects := by
  intro s othersHold hrst hl ha hs hhld hex hpend
  have hr : s.pins.role = .acquirer := by simpa [State.isAcquirer] using ha
  have hu : s.unloaded = false := by simp [State.unloaded, hs]
  obtain ⟨e, he⟩ : ∃ e, e = s.setTrig { s.trig with level := true, detector := some Config.detectorTicks } := ⟨_, rfl⟩
  have hexec : exec (.triggerEdge othersHold) s = .next e.edgeEffects.offerParts := by
    have haccepts : e.accepts othersHold = true := by
      rw [he]
      exact (State.accepts_iff othersHold s).mpr ⟨hhld, hex, hpend⟩
    have hrun : (e.isAcquirer && e.start.station = .running) = true := by simp [he, State.isAcquirer, hr, hs]
    rw [State.exec_triggerEdge othersHold hrst hu hl, State.takeEdge, ← he, State.decideEdge, if_pos hrun,
      if_pos haccepts, State.acceptEdge_eq]
  have hagree := State.edgeEffects_agree (s := e) (by rw [he]; exact hex)
  have hframes := e.edgeEffects_frames
  have hroom := State.edgeEffects_of_room (s := e)
  have hfull := State.edgeEffects_of_full (s := e)
  have hraised := State.countEdge_raised (s := e)
  have hinsp := State.countEdge_insp (s := e)
  obtain ⟨-, -, -, -, -, hagree', -, -, -, -, hinsp', -, -⟩ := e.edgeEffects.offerParts_frame
  obtain ⟨hpins, hstart, hconfig, -, htime, hturn, hroster, hbuild, hport, hfree, -⟩ := e.acceptEdge_frame
  obtain ⟨hwindow, hcontent⟩ := e.edgeEffects.offerParts_store
  have hframes' := congrArg State.frames e.edgeEffects.offerParts_eq
  subst he
  refine ⟨_, hexec, ?_, ?_, fun h => ⟨?_, fun hlist => ?_, ?_⟩, fun h => ⟨?_, ?_, ?_, fun hmax => ?_⟩, fun h hmax => ?_,
    fun h hmax => ?_, ?_, ?_, ?_, ?_, ?_, ?_, ?_, ?_⟩
  · exact hagree'.trans hagree
  · exact (State.offerParts_queue _).1.trans (congrArg (·.queue.takes) hframes)
  · exact hwindow.trans (congrArg (·.window) (hroom h).1)
  · rw [State.offerParts_of_no_turn (State.ownTurn_of_no_take (by rw [hagree]; exact hlist))]
    exact congrArg (·.records) (hroom h).1
  · rw [hcontent, (hroom h).1, List.map_append]
    exact congrArg (· ++ _) s.store.endWindow_content
  · exact hwindow.trans (congrArg (·.window) (hfull h).1)
  · rw [State.count, hinsp', (hfull h).2, State.raise_insp]
    exact (State.count_bump_self _ _).trans (by rw [State.count, State.countEdge_counters]; rfl)
  · rw [hcontent, (hfull h).1]
    exact s.store.endWindow_content
  · rw [State.Raised, hinsp', (hfull h).2, State.raise_insp]
    simp [hinsp hmax]
  · rw [State.Raised, hinsp', (hroom h).2]
    exact hraised hmax
  · exact hinsp'.trans ((hroom h).2.trans (hinsp hmax))
  · refine hframes'.trans ?_
    dsimp only
    rw [(State.offerParts_queue _).1, hframes]
    rfl
  · exact hstart
  · exact htime
  · exact hroster
  · exact hturn
  · exact hbuild
  · exact hport
  · exact ⟨hpins, hconfig, hfree⟩

end Sys2Proof.Machine
end

section
/-! The trunk restart (R163, R164). -/

namespace Sys2Proof.Machine
namespace State
variable {s : State}

/-- R163: the blocks at the detection, but for the delivery port's abort word. -/
def atDetection (s : State) : State := { s with
  trig := { s.trig with detector := none, restarting := true, normalPulse := none }
  start := { s.start with listenTimer := none, rollTimer := none, rollCallReason := false, rollMet := false }
  store := Store.empty, agree := Agreement.blank, turn := Turn.blank, roster := Roster.blank, build := BuildUnit.empty
  frames := { queue := Queue.empty, failures := 0, dat := s.frames.dat.atRestart }
  time := { s.time with state := .unset } }

theorem detectRestart_eq (s : State) : s.detectRestart = s.atDetection.abortRecord := rfl

theorem abortRecord_of_no_record (h : s.port.state.cursor = none) : s.abortRecord = s := by
  unfold abortRecord
  match hp : s.port.state with
  | .record k total => exact absurd h (by simp [hp, PortState.cursor])
  | .idle | .abort _ => rfl

theorem abortRecord_of_record {k : Nat} (h : s.port.state.cursor = some k) :
    s.abortRecord = s.offerWord (.abort k) (abortWord k) := by
  unfold abortRecord
  match hp : s.port.state with
  | .record j total =>
    obtain rfl : j = k := by simpa [hp, PortState.cursor] using h
    rfl
  | .idle | .abort _ => exact absurd h (by simp [hp, PortState.cursor])

theorem abortRecord_blocks (s : State) : s.abortRecord = s.setPort s.abortRecord.port := by
  unfold abortRecord
  split <;> rfl

/-- R179: what the entry to ROLLCALL leaves. -/
theorem enterRollcall_callsRoll (s : State) : s.CallsRoll s.enterRollcall := by
  have hframes : s.enterRollcall.frames = { s.frames with queue := { s.frames.queue with
      roll := if s.start.muteAttr then s.frames.queue.roll
        else Place.offer (s.rollFrame .call) s.frames.queue.roll } } := by
    unfold enterRollcall offerRoll
    cases hm : s.start.muteAttr <;> simp [hm, rollFrame, channelCount]
  have hempty : s.enterRollcall.Emptied := by simp [Emptied, enterRollcall]
  have hstart : s.enterRollcall.start = { s.start with
      station := .rollcall, listenTimer := none, rollCallReason := true, rollMet := false
      rollTimer := if s.start.muteAttr then some (Config.msTicks s.config.rolltime) else none } := by
    simp [enterRollcall]
  have hrest : s.enterRollcall.roster = Roster.blank ∧ s.enterRollcall.time = { counter := s.time.counter, state := .unset }
      ∧ s.enterRollcall.port = s.port ∧ s.enterRollcall.insp = s.insp ∧ s.SameSetting s.enterRollcall := by
    simp [SameSetting, enterRollcall]
  obtain ⟨hroster, htime, hport, hinsp, hsetting⟩ := hrest
  refine ⟨?_, ?_, ?_, ?_, ?_, hempty, entry_of_blank hroster, htime, hframes, hport, hinsp, ?_, hsetting⟩
  all_goals rw [hstart]

/-- R163: at the detection no hold reason stands. -/
theorem atDetection_drivesHld (s : State) (x : DeliveryPort) : (s.atDetection.setPort x).drivesHld = false := by
  have hholds : (s.atDetection.setPort x).holds = false := by rfl
  rw [drivesHld, hholds, Bool.and_false]

end State

/-- Settles O16. -/
theorem detectionEmptiesEveryBlock : Obligations.DetectionEmptiesEveryBlock := by
  intro s hrst
  refine ⟨fun h => by simp [exec, execTrunkRestartDetection, h], fun h => ⟨s.atDetection.abortRecord, ?_, ?_⟩⟩
  · obtain ⟨k, hk⟩ := Option.isSome_iff_exists.mp h
    simp [exec, execTrunkRestartDetection, hrst, hk, State.detectRestart_eq]
  · have hquiet := s.atDetection_drivesHld s.atDetection.abortRecord.port
    rw [State.abortRecord_blocks]
    refine ⟨rfl, rfl, rfl, rfl, rfl, rfl, rfl, State.entry_of_blank rfl, rfl, rfl, ?_, rfl, rfl, fun k hk => ?_, fun hp => ?_, rfl, rfl, ⟨rfl, rfl, rfl⟩, hquiet⟩
    · match hd : s.frames.dat with
      | .stopped | .idle | .busy | .inFrame | .abandoned => simp [State.atDetection, DatState.atRestart, hd]
    · rw [State.abortRecord_of_record (s := s.atDetection) hk]
      exact ⟨rfl, rfl, packWord_field (by omega) rfl, packWord_field (by omega) rfl, packWord_fill rfl⟩
    · rw [State.abortRecord_of_no_record (s := s.atDetection) hp]
      rfl

/-- Settles O17: the entry to ROLLCALL from every state but MUTE. -/
theorem trgReleaseEndsRestart : Obligations.TrgReleaseEndsRestart := by
  intro s r hrst hu hd hr
  have hexec : exec .trgRelease s = .next (if s.trig.restarting then r.endRestart else r) := by
    simp [exec, execTrgRelease, hrst, hu, hd, hr, State.releaseTrg, State.setTrig]
  have hstation : r.start.station = s.start.station := by rw [hr]
  refine ⟨fun h => ?_, fun h hm => ⟨r.enterRollcall, ?_, ?_, by simp⟩⟩
  · rw [hexec]
    rcases h with h | h
    · rw [h]
      rfl
    · have hmute : r.endRestart = r := by simp [State.endRestart, hstation, h]
      rw [hmute, ite_self]
  · have henter : r.endRestart = r.enterRollcall := by
      unfold State.endRestart
      rw [hstation]
      match hs : s.start.station with
      | .loading | .halted => exact absurd hu (by simp [State.unloaded, hs])
      | .mute => exact absurd hs hm
      | .listening | .rollcall | .joining | .running | .silenced => rfl
    rw [hexec, if_pos h, henter]
  · have hcalls := r.enterRollcall_callsRoll
    subst hr
    exact hcalls

end Sys2Proof.Machine
end

section
/-! The close timer and the delivery port (R107, R109, R117, R118, R121, R124). -/

namespace Sys2Proof.Machine
namespace State
variable {s : State}

theorem startDelivery_blocks (s : State) :
    s.startDelivery = { s with build := s.startDelivery.build, port := s.startDelivery.port } := by
  unfold startDelivery
  split
  · split <;> rfl
  · rfl

/-- R109, R118: an idle port takes up a closed head. -/
theorem startDelivery_of_closed (hp : s.port.state = .idle) {b : Build} {rest : List Build} (hl : s.build.builds = b :: rest)
    (hc : b.state = .closed) : s.startDelivery = { s with
      build := { s.build with builds := { b with state := .delivering } :: rest }
      port := { state := .record 0 b.total, lp := headerWord b, offers := s.port.offers + 1 } } := by
  unfold startDelivery
  rw [hp, hl]
  dsimp only
  rw [if_pos hc]
  rfl

theorem startDelivery_of_busy (hp : s.port.state ≠ .idle) : s.startDelivery = s := by
  unfold startDelivery
  split
  · next h _ => exact absurd h hp
  · rfl

theorem startDelivery_of_not_closed (hc : ∀ b ∈ s.build.builds.head?, b.state ≠ .closed) : s.startDelivery = s := by
  unfold startDelivery
  split
  · next b rest _ hl => exact if_neg (hc b (by simp [hl]))
  · rfl

end State

/-- What the close timer makes of a build. -/
def Build.timedOut (b : Build) : Build := { b with
  state := .closed, cause := some .timeout, timer := none
  contributions := b.contributions.map fun c => if c.state = .waiting then { c with state := .unheard } else c }

theorem State.timeoutBuild_of_opened {s : State} (h : s.build.Kept) {n : Nat} {b : Build} (hb : b ∈ s.build.builds)
    (hn : b.number = n) (ho : b.state = .opened) : s.timeoutBuild n = s.setBuild { s.build with
      builds := s.build.builds.map fun x => if x.number = n then b.timedOut else x } := by
  unfold State.timeoutBuild
  refine congrArg (fun l => s.setBuild { s.build with builds := l }) (List.map_congr_left fun x hx => ?_)
  by_cases hxn : x.number = n
  · obtain rfl : x = b := h.eq_of_number hx hb (hxn.trans hn.symm)
    have htimer := (h.builds x hx).timer.mp ho
    rw [if_pos ⟨hxn, ho, htimer⟩, if_pos hxn]
    rfl
  · rw [if_neg fun h => hxn h.1, if_neg hxn]

theorem State.timeoutBuild_of_none {s : State} (h : s.build.Kept) {n : Nat}
    (hn : ∀ b ∈ s.build.builds.find? fun y => y.number = n, b.state ≠ .opened) : s.timeoutBuild n = s := by
  have hmap : (s.build.builds.map fun b =>
      if b.number = n ∧ b.state = .opened ∧ b.timer.isSome then b.close .timeout else b) = s.build.builds := by
    refine (List.map_congr_left fun x hx => if_neg ?_).trans (List.map_id _)
    rintro ⟨hxn, ho, -⟩
    cases hf : s.build.builds.find? fun y => y.number = n with
    | none => exact absurd hxn (by simpa using List.find?_eq_none.mp hf x hx)
    | some y =>
      have hy : y.number = n := by simpa using List.find?_some hf
      have hxy := h.eq_of_number (List.mem_of_find?_eq_some hf) hx (hy.trans hxn.symm)
      exact hn y hf (hxy ▸ ho)
  unfold State.timeoutBuild
  rw [hmap]
  rfl

/-- R109: with the port handed over nothing more is. -/
theorem State.HandedOver.startDelivery_eq {s : State} (h : s.HandedOver) : s.startDelivery = s := by
  by_cases hp : s.port.state = .idle
  · exact State.startDelivery_of_not_closed (h hp)
  · exact State.startDelivery_of_busy hp

/-- Settles O36: the build of the number closes, and a head that closes at an idle port is handed over. -/
theorem closeTimerClosesByTimeout : Obligations.CloseTimerClosesByTimeout := by
  intro s number hrst hinv
  obtain ⟨hkept, hhanded⟩ := State.buildInv_iff.mp hinv
  have hexec : exec (.closeTimerExpiry number) s = .next (s.timeoutBuild number.toNat).startDelivery := by
    simp [exec, execCloseTimerExpiry, hrst]
  constructor
  · intro b hb ho
    have hmem : b ∈ s.build.builds := List.mem_of_find?_eq_some hb
    have hnumber : b.number = number.toNat := by simpa using List.find?_some hb
    rw [State.timeoutBuild_of_opened hkept.unit hmem hnumber ho] at hexec
    by_cases hhead : s.port.state = .idle ∧ s.build.builds.head? = some b
    · obtain ⟨hidle, hhead'⟩ := hhead
      obtain ⟨rest, hl⟩ : ∃ rest, s.build.builds = b :: rest := by
        cases hl : s.build.builds with
        | nil => simp [hl] at hhead'
        | cons d rest => exact ⟨rest, by simpa [hl] using hhead'⟩
      have hrest : ∀ x ∈ rest, x.number ≠ number.toNat := by
        intro x hx hxn
        have hnodup := hkept.unit.nodup
        rw [hl, List.map_cons, List.nodup_cons] at hnodup
        exact hnodup.1 (List.mem_map.mpr ⟨x, hx, hxn.trans hnumber.symm⟩)
      have hmap (y : Build) : (s.build.builds.map fun x => if x.number = number.toNat then y else x) = y :: rest := by
        rw [hl, List.map_cons, if_pos hnumber]
        exact congrArg _ ((List.map_congr_left fun x hx => if_neg (hrest x hx)).trans (List.map_id rest))
      have hhandover := State.startDelivery_of_closed (rest := rest) (b := b.timedOut) (s := s.setBuild { s.build with
        builds := s.build.builds.map fun x => if x.number = number.toNat then b.timedOut else x }) hidle (hmap _) rfl
      rw [hhandover] at hexec
      have htotal : b.timedOut.total = b.total := by
        simp [Build.total, Build.timedOut, Build.samples, Function.comp_def, apply_ite Contribution.samples]
      refine ⟨_, hexec, ?_, rfl, ?_, rfl⟩
      · rw [if_pos ⟨hidle, hhead'⟩]
        exact (hmap _).symm
      · rw [if_pos ⟨hidle, hhead'⟩, htotal]
        exact ⟨rfl, rfl, packWord_field (by omega) rfl, by rw [← htotal]; exact packWord_field (by omega) rfl⟩
    · rw [State.HandedOver.startDelivery_eq] at hexec
      · refine ⟨_, hexec, ?_, rfl, ?_, rfl⟩
        · rw [if_neg hhead]
          rfl
        · rw [if_neg hhead]
          rfl
      · intro hidle d hd
        rw [State.setBuild_build, List.head?_map] at hd
        obtain ⟨x, hx, rfl⟩ := Option.map_eq_some_iff.mp hd
        have hxn : x.number ≠ number.toNat := fun hxn => hhead ⟨hidle, by
          rw [hx, hkept.unit.eq_of_number (List.mem_of_head? hx) hmem (hxn.trans hnumber.symm)]⟩
        rw [if_neg hxn]
        exact hhanded hidle x hx
  · intro h
    rw [hexec, State.timeoutBuild_of_none hkept.unit h, hhanded.startDelivery_eq]

/-! ## Taking events -/

namespace State
variable {s : State}

theorem exec_takingEvent (h : s.drivesPort = true) : exec .takingEvent s = .next s.takeWord := by
  simp [exec, execTakingEvent, h]

/-- R115: the record in delivery is that of the head. -/
theorem BuildKept.delivering_head (h : s.BuildKept) {b : Build} (hb : s.build.builds.head? = some b) {k : Nat}
    (hk : s.port.state.cursor = some k) : s.port.state = .record k b.total ∧ s.build.delivering = some b := by
  match hp : s.port.state with
  | .idle | .abort _ => exact absurd hk (by simp [hp, PortState.cursor])
  | .record j total =>
    obtain rfl : j = k := by simpa [hp, PortState.cursor] using hk
    have htotal := h.total
    rw [hp] at htotal
    obtain ⟨d, hd, hdt⟩ := Option.map_eq_some_iff.mp htotal
    obtain rfl : d = b := Option.some.inj ((h.unit.delivering_eq hd).2.symm.trans hb)
    exact ⟨by rw [← hdt], hd⟩

/-- R121: the end of the record takes its build off the head. -/
theorem BuildKept.endRecord_eq (h : s.BuildKept) {b : Build} (hb : s.build.delivering = some b) :
    s.endRecord = { s with
      port := { s.port with state := .idle }, build := { builds := s.build.builds.tail, lastDelivered := b.number } } := by
  obtain ⟨hstate, hhead⟩ := h.unit.delivering_eq hb
  have hfilter : (s.build.builds.filter fun x => x.state ≠ .delivering) = s.build.builds.tail := by
    have htail := h.unit.tail
    cases hl : s.build.builds with
    | nil => rfl
    | cons d rest =>
      obtain rfl : d = b := by simpa [hl] using hhead
      rw [hl] at htail
      rw [List.filter_cons_of_neg (by simp [hstate])]
      exact List.filter_eq_self.mpr fun x hx => by simpa using htail x hx
  unfold State.endRecord
  rw [hb, ← hfilter]
  rfl

/-- R109, R118: what an idle port makes of the head. -/
theorem startDelivery_idle (hp : s.port.state = .idle) :
    s.startDelivery.build.lastDelivered = s.build.lastDelivered
      ∧ (∀ d ∈ s.build.builds.head?, d.state = .closed →
        s.startDelivery.build.builds = { d with state := .delivering } :: s.build.builds.tail
          ∧ s.startDelivery.port = { state := .record 0 d.total, lp := d.words.getD 0 0, offers := s.port.offers + 1 })
      ∧ ((∀ d ∈ s.build.builds.head?, d.state ≠ .closed) → s.startDelivery = s) := by
  refine ⟨?_, fun d hd hc => ?_, fun h => startDelivery_of_not_closed h⟩
  · unfold startDelivery
    split
    · split <;> rfl
    · rfl
  · cases hl : s.build.builds with
    | nil => simp [hl] at hd
    | cons x rest =>
      obtain rfl : x = d := by simpa [hl] using hd
      rw [startDelivery_of_closed hp hl hc]
      exact ⟨rfl, rfl⟩

end State

/-- Settles O37: the next word of the head's record, and after its last one, or an abort word, the next head. -/
theorem takingEventHandsOutWords : Obligations.TakingEventHandsOutWords := by
  intro s hinv
  obtain ⟨hkept, hhanded⟩ := State.buildInv_iff.mp hinv
  refine ⟨fun h => ?_, fun h b hb k hk => ?_, fun h hk => ?_⟩
  · by_cases hd : s.drivesPort = true
    · have hidle : s.port.state = .idle := by simpa [State.wordValid, hd] using h
      rw [State.exec_takingEvent hd, State.takeWord, hidle]
    · simp [exec, execTakingEvent, hd]
  · obtain ⟨hport, hdel⟩ := hkept.delivering_head hb hk
    rw [State.exec_takingEvent h]
    refine ⟨fun hlt => ?_, fun heq => ?_⟩
    · have hword : s.takeWord = s.offerWord (.record (k + 1) b.total) (b.words.getD (k + 1) 0) := by
        unfold State.takeWord
        rw [hport]
        dsimp only
        rw [if_pos hlt, hdel]
      rw [hword]
      rfl
    · have hword : s.takeWord = s.endRecord.startDelivery := by
        unfold State.takeWord
        rw [hport]
        exact if_neg (by omega)
      rw [hkept.endRecord_eq hdel] at hword
      obtain ⟨hlast, hclosed, hopen⟩ := State.startDelivery_idle (s := { s with
        port := { s.port with state := .idle }, build := { builds := s.build.builds.tail, lastDelivered := b.number } }) rfl
      rw [hword]
      exact ⟨_, rfl, hlast, hclosed, fun hd => by rw [hopen hd]; exact ⟨rfl, rfl⟩, State.startDelivery_blocks _⟩
  · obtain ⟨hd, hbusy⟩ : s.drivesPort = true ∧ s.port.state ≠ .idle := by simpa [State.wordValid] using h
    have hword : s.takeWord = (s.setPort { s.port with state := .idle }).startDelivery := by
      match hp : s.port.state with
      | .idle => exact absurd hp hbusy
      | .record _ _ => exact absurd hk (by simp [hp, PortState.cursor])
      | .abort _ =>
        unfold State.takeWord
        rw [hp]
    obtain ⟨hlast, hclosed, hopen⟩ := State.startDelivery_idle (s := s.setPort { s.port with state := .idle }) rfl
    rw [State.exec_takingEvent hd, hword]
    exact ⟨_, rfl, hlast, hclosed, fun hd => by rw [hopen hd]; exact ⟨rfl, rfl⟩, State.startDelivery_blocks _⟩

end Sys2Proof.Machine
end

section
/-! The epoch (R182, R183). -/

namespace Sys2Proof.Machine
namespace State

variable {s : State}

theorem settle_turn (l : List Addr) (s : State) : (s.settle l).turn = s.reassess.turn := by simp [settle]

theorem settle_skip (l : List Addr) (s : State) :
    (s.settle l).frames.queue.skip = s.reassess.frames.queue.skip := by simp [settle]

theorem settle_records (l : List Addr) (s : State) : (s.settle l).store = s.reassess.offerParts.store := by simp [settle]

theorem watchedNow_of_no_take (h : s.agree.takeList = []) : s.watchedNow = none := by
  have hnext (m : Addr) : s.nextEvent m = none := by simp [nextEvent, h]
  unfold watchedNow
  split
  · simp [hnext]
  · rfl

/-- R59: with nothing on the take list a stopped timer stays so. -/
theorem evalTimer_of_no_take (h : s.agree.takeList = []) (ht : s.turn.timer = .stopped) :
    s.evalTimer = s.setTurn { s.turn with watched := none, heard := s.heardNow } := by
  have hwatched := watchedNow_of_no_take h
  simp [evalTimer, timerStands, dropSkip, freshTimer, ht, hwatched]

/-- R183: at the epoch there is nothing to settle. -/
theorem started_reassess (s : State) : s.started.reassess = s.started := by
  have hdrained : s.started.removeDrained = s.started := rfl
  have hwatched : s.started.watchedNow = none := watchedNow_of_no_take rfl
  have hheard : s.started.heardNow = 0 := by
    rw [heardNow, hwatched]
    exact ite_self 0
  rw [reassess, hdrained, evalTimer_of_no_take rfl rfl, hheard]
  rfl

/-- R183: with no build nothing closes and nothing is handed over. -/
theorem settle_of_no_build (h : s.build.builds = []) (l : List Addr) :
    (s.settle l).build = s.build ∧ (s.settle l).port = s.port := by
  have hbuilds : ((s.reassess.offerParts.refreshRoll).settleBuilds l).build = s.build := by
    have hkeep : s.reassess.offerParts.refreshRoll.build = s.build := by simp
    rw [settleBuilds, setBuild_build, hkeep, h, List.map_nil, ← h]
  have hidle : (s.settle l) = (s.reassess.offerParts.refreshRoll).settleBuilds l :=
    startDelivery_of_not_closed (by rw [hbuilds, h]; simp)
  rw [hidle]
  exact ⟨hbuilds, by simp⟩

end State

/-- Settles O9: the epoch starts a blank station, in which the settling moves the FRAG and ROLL places alone. -/
theorem epochStartsNumbering : Obligations.EpochStartsNumbering := by
  intro s c othersHold hrst
  refine ⟨fun ⟨hs, ht, hh⟩ => ?_, fun h => ?_, fun hs hc => ⟨s.epoch, ?_, ?_⟩⟩
  · have hruns : s.start.rollTimer.isNone = false := by simpa using ht
    simp [exec, execRollTimerExpiry, hrst, hs, hruns, State.meetRoll, hh, State.setStart]
  · rcases h with h | h <;> simp [exec, execHldFall, h]
  · rcases hc with ⟨rfl, hmet⟩ | ⟨rfl, ht, hh⟩
    · simp [exec, execHldFall, hrst, hs, hmet]
    · have hruns : s.start.rollTimer.isNone = false := by simpa using ht
      simp [exec, execRollTimerExpiry, hrst, hs, hruns, State.meetRoll, hh]
  · rw [State.epoch_eq]
    obtain ⟨hpins, hstart, hconfig, htrig, htime, hroster, hinsp, hfree, -⟩ := s.started.settle_frame []
    obtain ⟨htakes, hfailures, hdat⟩ := s.started.settle_queue []
    obtain ⟨hbuild, hport⟩ := State.settle_of_no_build (s := s.started) rfl []
    have hturn : (s.started.settle []).turn = Turn.blank := by rw [State.settle_turn, State.started_reassess]; rfl
    have hskip : (s.started.settle []).frames.queue.skip = s.frames.queue.skip := by
      rw [State.settle_skip, State.started_reassess]
      rfl
    have hstore : (s.started.settle []).store = s.store := by
      rw [State.settle_records, State.started_reassess, State.offerParts_of_no_turn (State.ownTurn_of_no_take rfl)]
      rfl
    refine ⟨hstart, htime, ?_, fun a => ?_, by rw [hturn]; rfl, by rw [hturn]; rfl, by rw [hbuild]; rfl,
      by rw [hbuild]; rfl, htrig, hstore, hport, hinsp, ⟨hpins, hconfig, hfree⟩, htakes, hskip, hfailures, hdat⟩
    · rw [State.settle_agree]
      rfl
    · rw [State.entry, hroster]
      exact Roster.each_get RosterEntry.atEpoch s.roster a

end Sys2Proof.Machine
end

section
/-! Frames as bytes (R145, R146, R200 to R202). -/

namespace Sys2Proof.Machine

theorem natOfBits_lt (l : List Bool) : natOfBits l < 2 ^ l.length := by
  induction l with
  | nil => simp [natOfBits]
  | cons b l ih =>
    rw [← List.singleton_append, natOfBits_append, List.length_append, Nat.pow_add]
    have hb : natOfBits [b] ≤ 1 := by cases b <;> simp [natOfBits]
    have := Nat.mul_le_mul_right (2 ^ l.length) hb
    simp only [List.length_singleton] at this ⊢
    omega

theorem bitsOf_mod (w v : Nat) : bitsOf w (v % 2 ^ w) = bitsOf w v := by
  refine List.map_congr_left fun i hi => ?_
  have hlt : w - 1 - i < w := by
    have := List.mem_range.mp hi
    omega
  rw [Nat.testBit_mod_two_pow, decide_eq_true hlt, Bool.true_and]

/-- A run of bits is the number it spells. -/
theorem bitsOf_natOfBits (l : List Bool) : bitsOf l.length (natOfBits l) = l := by
  induction l with
  | nil => rfl
  | cons b l ih =>
    have hlt := natOfBits_lt l
    have hnat : natOfBits (b :: l) = b.toNat * 2 ^ l.length + natOfBits l := by
      rw [← List.singleton_append, natOfBits_append]
      simp [natOfBits]
    have htop : (natOfBits (b :: l)).testBit l.length = b := by
      rw [hnat]
      cases b
      · simpa using Nat.testBit_lt_two_pow hlt
      · simpa [Nat.testBit_two_pow_add_eq] using Nat.testBit_lt_two_pow hlt
    rw [List.length_cons, bitsOf_succ, htop, ← bitsOf_mod, hnat, Nat.mul_comm, Nat.mul_add_mod, bitsOf_mod, ih]

/-- Eight bits packed into a byte and read back. -/
theorem bitsOf_packed {l : List Bool} (h : l.length = 8) : bitsOf 8 (BitVec.ofNat 8 (natOfBits l)).toNat = l := by
  rw [BitVec.toNat_ofNat, bitsOf_mod, ← h, bitsOf_natOfBits]

/-- The bits of packed bytes: the bits packed, and fill bits of 0. -/
theorem bitsOfBytes_packBytes (l : List Bool) :
    ∃ fill, bitsOfBytes (packBytes l) = l ++ fill ∧ (packBytes l).length = (l.length + 7) / 8 := by
  induction l using packBytes.induct with
  | case1 => exact ⟨[], rfl, rfl⟩
  | case2 a b c d e f g h l ih =>
    obtain ⟨fill, hbits, hlength⟩ := ih
    refine ⟨fill, ?_, ?_⟩
    · have hbyte : bitsOfBytes (packBytes (a :: b :: c :: d :: e :: f :: g :: h :: l))
          = bitsOf 8 (BitVec.ofNat 8 (natOfBits [a, b, c, d, e, f, g, h])).toNat ++ bitsOfBytes (packBytes l) := by
        simp [packBytes, bitsOfBytes]
      rw [hbyte, hbits, bitsOf_packed rfl]
      rfl
    · rw [packBytes, List.length_cons, hlength]
      simp only [List.length_cons]
      omega
  | case3 l hnil hshort =>
    have hlength : l.length < 8 := by
      match l, hshort with
      | [], _ | [_], _ | [_, _], _ | [_, _, _], _ | [_, _, _, _], _ | [_, _, _, _, _], _ | [_, _, _, _, _, _], _
      | [_, _, _, _, _, _, _], _ => simp
      | _ :: _ :: _ :: _ :: _ :: _ :: _ :: _ :: _, h => exact (h _ _ _ _ _ _ _ _ _ rfl).elim
    have hpack : packBytes l = [BitVec.ofNat 8 (natOfBits (l ++ List.replicate (8 - l.length) false))] := by
      unfold packBytes
      split
      · exact absurd rfl hnil
      · exact (hshort _ _ _ _ _ _ _ _ _ rfl).elim
      · rfl
    have hpos : 0 < l.length := List.length_pos_iff.mpr hnil
    refine ⟨List.replicate (8 - l.length) false, ?_, ?_⟩
    · rw [hpack, bitsOfBytes, List.flatMap_singleton, bitsOf_packed (by simp; omega)]
    · rw [hpack, List.length_singleton]
      omega

/-! ## Fields -/

theorem fieldAt_bitsOf (w v : Nat) (l : List Bool) : fieldAt (bitsOf w v ++ l) 0 w = v % 2 ^ w := by
  rw [fieldAt, List.drop_zero, List.take_left' (bitsOf_length w v), natOfBits_bitsOf]

theorem fieldAt_bit (b : Bool) (l : List Bool) : fieldAt (b :: l) 0 1 = b.toNat := by
  simp [fieldAt, natOfBits]

theorem fieldAt_drop (l : List Bool) (n k w : Nat) : fieldAt (l.drop n) k w = fieldAt l (n + k) w := by
  rw [fieldAt, fieldAt, List.drop_drop]

theorem fieldAt_append {a l : List Bool} {n w : Nat} (h : a.length ≤ n) :
    fieldAt (a ++ l) n w = fieldAt l (n - a.length) w := by
  conv_lhs => rw [← Nat.add_sub_cancel' h]
  rw [← fieldAt_drop, List.drop_left]

/-- R200: a frame's bits are its arbitration field, its payload, and what follows. -/
theorem bitsOfBytes_frameBytes (f : Frame) :
    ∃ rest, bitsOfBytes (frameBytes f) = arbitrationBits f ++ (payloadBits f ++ rest) := by
  obtain ⟨fill, hbits, -⟩ := bitsOfBytes_packBytes (arbitrationBits f ++ payloadBits f)
  refine ⟨fill ++ bitsOfBytes (crcBytes (frameBody f)), ?_⟩
  have happend (a b : List Byte) : bitsOfBytes (a ++ b) = bitsOfBytes a ++ bitsOfBytes b := List.flatMap_append
  rw [frameBytes, happend, frameBody, hbits]
  simp only [List.append_assoc]

theorem arbitrationBits_length (f : Frame) : (arbitrationBits f).length = 39 := by simp [arbitrationBits]

/-- R200: the fields of the arbitration field, whatever follows it. -/
theorem arbitration_fields (f : Frame) (l : List Bool) :
    fieldAt (arbitrationBits f ++ l) 0 3 = frameKind f
      ∧ BitVec.ofNat 32 (fieldAt (arbitrationBits f ++ l) 3 32) = frameField f
      ∧ addrAt (arbitrationBits f ++ l) 35 = frameSender f := by
  have hkind : frameKind f < 8 := by cases f <;> simp [frameKind]
  have hfield := (frameField f).isLt
  refine ⟨?_, ?_, ?_⟩ <;>
    simp [arbitrationBits, addrAt, fieldAt_bitsOf, fieldAt_append, Nat.mod_eq_of_lt, hkind, hfield]

theorem fieldAt_payload (f : Frame) (l : List Bool) {n w : Nat} (h : 39 ≤ n) :
    fieldAt (arbitrationBits f ++ l) n w = fieldAt l (n - 39) w := by
  rw [fieldAt_append (by rw [arbitrationBits_length]; exact h), arbitrationBits_length]

theorem ofNat_toNat_mod {w : Nat} (x : BitVec w) : BitVec.ofNat w (x.toNat % 2 ^ w) = x := by
  rw [Nat.mod_eq_of_lt x.isLt, ofNat_toNat_self]

theorem addr_of_field (a : Addr) (l : List Bool) : (Fin.ofNat 16 (fieldAt (bitsOf 4 a.val ++ l) 0 4) : Addr) = a := by
  rw [fieldAt_bitsOf, Nat.mod_eq_of_lt (b := 2 ^ 4) a.isLt, Fin.ofNat_val_eq_self]

theorem bits_of_field {w : Nat} (x : BitVec w) (l : List Bool) : BitVec.ofNat w (fieldAt (bitsOf w x.toNat ++ l) 0 w) = x := by
  rw [fieldAt_bitsOf, ofNat_toNat_mod]

theorem flag_of_bit (b : Bool) (l : List Bool) : decide (fieldAt (b :: l) 0 1 = 1) = b := by
  rw [fieldAt_bit]
  cases b <;> rfl

theorem flag_of_field (v : Nat) (l : List Bool) : decide (fieldAt (bitsOf 1 v ++ l) 0 1 = 1) = decide (v % 2 = 1) := by
  rw [fieldAt_bitsOf, Nat.pow_one]

theorem readFrame_take (f : TakeFrame) (l : List Bool) :
    readFrame (arbitrationBits (.take f) ++ (payloadBits (.take f) ++ l)) 0 = some (.take f) := by
  obtain ⟨-, hnumber, hsender⟩ := arbitration_fields (.take f) (payloadBits (.take f) ++ l)
  have htime : BitVec.ofNat 48 (fieldAt (arbitrationBits (.take f) ++ (payloadBits (.take f) ++ l)) 39 48) = f.time := by
    rw [fieldAt_payload _ _ le_rfl]
    exact bits_of_field f.time l
  simp only [readFrame, hnumber, hsender, htime]
  rfl

theorem readFrame_skip (f : SkipFrame) (l : List Bool) :
    readFrame (arbitrationBits (.skip f) ++ (payloadBits (.skip f) ++ l)) 1 = some (.skip f) := by
  obtain ⟨-, hnumber, hsender⟩ := arbitration_fields (.skip f) (payloadBits (.skip f) ++ l)
  have hpayload := fun n w => fieldAt_payload (.skip f) (payloadBits (.skip f) ++ l) (n := n) (w := w)
  have hbits : payloadBits (.skip f) ++ l
      = bitsOf 4 f.subject.val ++ (bitsOf 1 (reasonCode f.reason) ++ (bitsOf 3 f.heard.toNat ++ l)) := by
    simp [payloadBits]
  generalize arbitrationBits (.skip f) ++ (payloadBits (.skip f) ++ l) = bits at *
  rw [hbits] at hpayload
  have hsubject : addrAt bits 39 = f.subject := by
    rw [addrAt, hpayload _ _ (by decide)]
    exact addr_of_field f.subject _
  have hreason : (if flagAt bits 43 then SkipReason.stalled else .noStart) = f.reason := by
    rw [flagAt, hpayload _ _ (by decide), fieldAt_append (by simp), bitsOf_length, flag_of_field]
    cases f.reason <;> rfl
  have hheard : BitVec.ofNat 3 (fieldAt bits 44 3) = f.heard := by
    rw [hpayload _ _ (by decide), fieldAt_append (by simp), fieldAt_append (by simp), bitsOf_length, bitsOf_length]
    exact bits_of_field f.heard l
  simp only [readFrame, hnumber, hsender, hsubject, hreason, hheard]
  rfl

theorem readFrame_roll (f : RollFrame) (l : List Bool) :
    readFrame (arbitrationBits (.roll f) ++ (payloadBits (.roll f) ++ l)) 3 = some (.roll f) := by
  obtain ⟨-, hnumber, hsender⟩ := arbitration_fields (.roll f) (payloadBits (.roll f) ++ l)
  have hpayload := fun n w => fieldAt_payload (.roll f) (payloadBits (.roll f) ++ l) (n := n) (w := w)
  have hbits : payloadBits (.roll f) ++ l = bitsOf 2 (modeCode f.mode) ++ (bitsOf 1 (roleCode f.role)
      ++ (bitsOf 7 f.count.toNat ++ (bitsOf 16 f.signature.toNat ++ l))) := by
    simp [payloadBits]
  generalize arbitrationBits (.roll f) ++ (payloadBits (.roll f) ++ l) = bits at *
  rw [hbits] at hpayload
  have hmode : modeAt bits = some f.mode := by
    rw [modeAt, hpayload _ _ (by decide), fieldAt_bitsOf]
    cases f.mode <;> rfl
  have hrole : (if flagAt bits 41 then Role.collector else .acquirer) = f.role := by
    rw [flagAt, hpayload _ _ (by decide), fieldAt_append (by simp), bitsOf_length, flag_of_field]
    cases f.role <;> rfl
  have hcount : BitVec.ofNat 7 (fieldAt bits 42 7) = f.count := by
    rw [hpayload _ _ (by decide), fieldAt_append (by simp), fieldAt_append (by simp), bitsOf_length, bitsOf_length]
    exact bits_of_field f.count _
  have hsignature : BitVec.ofNat 16 (fieldAt bits 49 16) = f.signature := by
    rw [hpayload _ _ (by decide), fieldAt_append (by simp), fieldAt_append (by simp), fieldAt_append (by simp),
      bitsOf_length, bitsOf_length, bitsOf_length]
    exact bits_of_field f.signature l
  simp only [readFrame, hnumber, hsender, hmode, hrole, hcount, hsignature]
  rfl

theorem sampleBits_length (x : Sample) : (sampleBits x).length = 21 := by simp [sampleBits]

theorem samples_length (l : List Sample) : (l.flatMap sampleBits).length = 21 * l.length := by
  simp [List.length_flatMap, sampleBits_length, Nat.mul_comm]

/-- R202: sample k of a part, from its bits. -/
theorem sampleAt_of_bits {bits rest : List Bool} {x : Sample} {k : Nat}
    (h : bits.drop (54 + 21 * k) = sampleBits x ++ rest) : sampleAt bits k = x := by
  have hfield (j w : Nat) : fieldAt bits (54 + 21 * k + j) w = fieldAt (sampleBits x ++ rest) j w := by
    rw [← fieldAt_drop, h]
  have hbits : sampleBits x ++ rest = bitsOf 6 x.channel.toNat ++ (bitsOf 14 x.value.toNat ++ x.overrange :: rest) := by
    simp [sampleBits]
  rw [hbits] at hfield
  have hchannel : BitVec.ofNat 6 (fieldAt bits (54 + 21 * k) 6) = x.channel :=
    (congrArg _ (hfield 0 6)).trans (bits_of_field x.channel _)
  have hvalue : BitVec.ofNat 14 (fieldAt bits (60 + 21 * k) 14) = x.value := by
    rw [show 60 + 21 * k = 54 + 21 * k + 6 by omega, hfield, fieldAt_append (by simp), bitsOf_length]
    exact bits_of_field x.value _
  have hover : flagAt bits (74 + 21 * k) = x.overrange := by
    rw [flagAt, show 74 + 21 * k = 54 + 21 * k + 20 by omega, hfield, fieldAt_append (by simp),
      fieldAt_append (by simp), bitsOf_length, bitsOf_length]
    exact flag_of_bit x.overrange rest
  rw [sampleAt, hchannel, hvalue, hover]

theorem samples_of_bits {bits rest : List Bool} {l : List Sample} (h : bits.drop 54 = l.flatMap sampleBits ++ rest) :
    (List.range l.length).map (sampleAt bits) = l := by
  refine List.ext_getElem (by simp) fun k hk _ => ?_
  have hk : k < l.length := by simpa using hk
  rw [List.getElem_map, List.getElem_range]
  refine sampleAt_of_bits (rest := (l.drop (k + 1)).flatMap sampleBits ++ rest) ?_
  have hsplit : l.flatMap sampleBits = (l.take k).flatMap sampleBits ++ (sampleBits l[k] ++ (l.drop (k + 1)).flatMap sampleBits) := by
    conv_lhs => rw [← List.take_append_drop k l, List.drop_eq_getElem_cons hk]
    rw [List.flatMap_append, List.flatMap_cons]
  rw [← List.drop_drop, h, hsplit, List.append_assoc, List.drop_left' (by rw [samples_length, List.length_take_of_le hk.le]),
    List.append_assoc]

theorem readFrame_frag (f : FragFrame) (hsamples : f.samples.length ≤ 16) (l : List Bool) :
    fieldAt (arbitrationBits (.frag f) ++ (payloadBits (.frag f) ++ l)) 49 5 = f.samples.length
      ∧ readFrame (arbitrationBits (.frag f) ++ (payloadBits (.frag f) ++ l)) 2 = some (.frag f) := by
  obtain ⟨-, hnumber, hsender⟩ := arbitration_fields (.frag f) (payloadBits (.frag f) ++ l)
  have hpayload := fun n w => fieldAt_payload (.frag f) (payloadBits (.frag f) ++ l) (n := n) (w := w)
  have hbits : payloadBits (.frag f) ++ l = bitsOf 3 f.index.toNat ++ f.last :: f.lost :: f.flags.ovr :: f.flags.dbl ::
      f.flags.tsus :: f.flags.renum :: f.flags.trunc :: (bitsOf 5 f.samples.length ++ (f.samples.flatMap sampleBits ++ l)) := by
    simp [payloadBits]
  have hdrop : (arbitrationBits (.frag f) ++ (payloadBits (.frag f) ++ l)).drop 54 = f.samples.flatMap sampleBits ++ l := by
    rw [← List.append_assoc]
    have hlength : (arbitrationBits (.frag f) ++ (payloadBits (.frag f) ++ l)).drop 39 = payloadBits (.frag f) ++ l :=
      List.drop_left' (arbitrationBits_length _)
    rw [List.append_assoc, show 54 = 39 + 15 from rfl, ← List.drop_drop, hlength, hbits]
    simp [List.drop_append]
  generalize arbitrationBits (.frag f) ++ (payloadBits (.frag f) ++ l) = bits at *
  rw [hbits] at hpayload
  have hindex : BitVec.ofNat 3 (fieldAt bits 39 3) = f.index := by
    rw [hpayload _ _ (by decide)]
    exact bits_of_field f.index _
  have hflag (k : Nat) (hk : k < 7) (b : Bool) (rest : List Bool)
      (h : (f.last :: f.lost :: f.flags.ovr :: f.flags.dbl :: f.flags.tsus :: f.flags.renum :: f.flags.trunc ::
        (bitsOf 5 f.samples.length ++ (f.samples.flatMap sampleBits ++ l))).drop k = b :: rest) : flagAt bits (42 + k) = b := by
    rw [flagAt, hpayload _ _ (by omega), fieldAt_append (by simp; omega), bitsOf_length,
      show 42 + k - 39 - 3 = k + 0 by omega, ← fieldAt_drop, h]
    exact flag_of_bit b rest
  have hlast := hflag 0 (by decide) _ _ rfl
  have hlost := hflag 1 (by decide) _ _ rfl
  have hovr := hflag 2 (by decide) _ _ rfl
  have hdbl := hflag 3 (by decide) _ _ rfl
  have htsus := hflag 4 (by decide) _ _ rfl
  have hrenum := hflag 5 (by decide) _ _ rfl
  have htrunc := hflag 6 (by decide) _ _ rfl
  have hcount : fieldAt bits 49 5 = f.samples.length := by
    rw [hpayload _ _ (by decide), fieldAt_append (by simp), bitsOf_length]
    exact (fieldAt_bitsOf 5 f.samples.length _).trans (Nat.mod_eq_of_lt (by omega))
  refine ⟨hcount, ?_⟩
  simp only [readFrame, hnumber, hsender, hindex, hlast, hlost, hovr, hdbl, htsus, hrenum, htrunc, hcount,
    samples_of_bits hdrop]
  rfl

/-! ## The round trip -/

theorem payloadBits_length (f : Frame) : (payloadBits f).length = match f with
    | .take _ => 48
    | .skip _ => 8
    | .frag g => 15 + 21 * g.samples.length
    | .roll _ => 26 := by
  cases f with
  | take _ => simp [payloadBits]
  | skip _ => simp [payloadBits]
  | roll _ => simp [payloadBits]
  | frag g =>
    simp only [payloadBits, List.length_append, bitsOf_length, samples_length]
    simp

theorem frameBody_length (f : Frame) : (frameBody f).length = (39 + (payloadBits f).length + 7) / 8 := by
  obtain ⟨-, -, hlength⟩ := bitsOfBytes_packBytes (arbitrationBits f ++ payloadBits f)
  rw [frameBody, hlength, List.length_append, arbitrationBits_length]

theorem frameBytes_take (f : TakeFrame) : (frameBytes (.take f)).length = 13 := by
  rw [frameBytes_length, frameBody_length, payloadBits_length]
  dsimp only

theorem frameBytes_skip (f : SkipFrame) : (frameBytes (.skip f)).length = 8 := by
  rw [frameBytes_length, frameBody_length, payloadBits_length]
  dsimp only

theorem frameBytes_roll (f : RollFrame) : (frameBytes (.roll f)).length = 11 := by
  rw [frameBytes_length, frameBody_length, payloadBits_length]
  dsimp only

theorem frameBytes_frag (f : FragFrame) :
    (frameBytes (.frag f)).length = (54 + 21 * f.samples.length + 7) / 8 + 2 := by
  rw [frameBytes_length, frameBody_length, payloadBits_length]
  dsimp only
  omega

/-- R145, R202: the bits of a valid frame read as the frame, of just the length that its kind requires. -/
theorem readFrame_frameBytes {f : Frame} (h : frameValid f = true) :
    readFrame (bitsOfBytes (frameBytes f)) (frameKind f) = some f
      ∧ requiredBytes (bitsOfBytes (frameBytes f)) (frameKind f) = (frameBytes f).length := by
  obtain ⟨rest, hbits⟩ := bitsOfBytes_frameBytes f
  rw [hbits]
  cases f with
  | take f => exact ⟨readFrame_take f rest, (frameBytes_take f).symm⟩
  | skip f => exact ⟨readFrame_skip f rest, (frameBytes_skip f).symm⟩
  | roll f => exact ⟨readFrame_roll f rest, (frameBytes_roll f).symm⟩
  | frag f =>
    have hsamples : f.samples.length ≤ 16 := by
      simp only [frameValid, Bool.and_eq_true, decide_eq_true_eq] at h
      omega
    obtain ⟨hcount, hread⟩ := readFrame_frag f hsamples rest
    refine ⟨hread, ?_⟩
    rw [frameBytes_frag, ← hcount]
    rfl

theorem lineBits_length (l : List Byte) : (lineBits l).length = 9 * l.length := by
  simp [lineBits, List.length_flatMap, Nat.mul_comm]

/-- R145: the checks find nothing wrong with a valid frame. -/
theorem checkFrame_frameBytes {f : Frame} (h : frameValid f = true) : checkFrame (frameBytes f) = .good f := by
  obtain ⟨hread, hrequired⟩ := readFrame_frameBytes h
  obtain ⟨rest, hbits⟩ := bitsOfBytes_frameBytes f
  have hkind : fieldAt (bitsOfBytes (frameBytes f)) 0 3 = frameKind f := by
    rw [hbits]
    exact (arbitration_fields f _).1
  have hknown : frameKind f < 4 := by cases f <;> simp [frameKind]
  have hlong : 7 ≤ (frameBytes f).length := by
    rw [frameBytes_length, frameBody_length]
    omega
  have hbody : (frameBytes f).length - 2 = (frameBody f).length := by simp
  have hcheck : (frameBytes f).drop (frameBody f).length = crcBytes ((frameBytes f).take (frameBody f).length) := by
    rw [frameBytes, List.drop_left, List.take_left]
  unfold checkFrame
  simp only [hkind, hrequired, hread, hbody, h]
  rw [if_neg (by omega), if_neg (by omega), if_neg (not_not.mpr hcheck), if_neg (by omega), if_neg (by omega), if_pos trivial]

/-- Settles O42: the bits that a frame packs are the bits that the checks read. -/
theorem frameRoundTrip : Obligations.FrameRoundTrip := by
  intro f h
  refine ⟨checkFrame_frameBytes h, lineBits_length _, ?_⟩
  cases f with
  | take f => exact frameBytes_take f
  | skip f => exact frameBytes_skip f
  | roll f => exact frameBytes_roll f
  | frag f => exact frameBytes_frag f

end Sys2Proof.Machine
end

section
/-! DAT between frames: bad frames, lost contentions, abandoned frames and contentions (R133 to R142, R145). -/

namespace Sys2Proof.Machine

theorem Place.leaveUnsent_due {φ : Type} {p : Place φ} (h : p.onWire = false → p.kept = .nothing) :
    p.leaveUnsent.map (·.frame) = p.due := by
  cases hw : p.onWire with
  | true => exact p.leaveUnsent_frame hw
  | false => simp [Place.leaveUnsent, Place.due, hw, h hw]

/-- R74: what a refresh makes of a ROLL place. -/
def State.refreshed (s : State) (p : Place RollFrame) : Place RollFrame :=
  if p.onWire || p.frame.mode = .call then p else { p with frame := { p.frame with field := s.joinPoint } }

theorem State.refreshed_onWire (s : State) (p : Place RollFrame) : (s.refreshed p).onWire = p.onWire := by
  unfold State.refreshed
  split <;> rfl

namespace State
variable {s : State}

theorem refreshRoll_eq (s : State) :
    s.refreshRoll = s.setQueue { s.frames.queue with roll := s.frames.queue.roll.map s.refreshed } := by
  unfold refreshRoll
  split
  · next p hp =>
    unfold refreshed
    split
    · next h =>
      rw [hp, Option.map_some, if_pos h, ← hp]
      rfl
    · next h => rw [hp, Option.map_some, if_neg h]
  · next hp =>
    rw [hp, Option.map_none, ← hp]
    rfl

theorem leaveWire_eq (s : State) : s.leaveWire = s.setQueue { s.frames.queue.leaveUnsent with
    roll := (s.frames.queue.roll.bind Place.leaveUnsent).map s.refreshed } := refreshRoll_eq _

/-- R136: nothing of the queue is left on the wire. -/
theorem leaveWire_wires (s : State) : s.leaveWire.frames.queue.wires = 0 := by
  have hunsent : ∀ {φ : Type} (o : Option (Place φ)), Place.wires (o.bind Place.leaveUnsent) = 0 :=
    fun o => Place.wires_leave (fun _ _ h => Place.leaveUnsent_onWire h) o
  have htakes : (s.frames.queue.takes.filterMap Place.leaveUnsent).countP (·.onWire) = 0 := by
    rw [List.countP_eq_zero]
    intro p hp
    obtain ⟨q, -, hq⟩ := List.mem_filterMap.mp hp
    simp [Place.leaveUnsent_onWire hq]
  have hroll (o : Option (Place RollFrame)) : Place.wires (o.map s.refreshed) = Place.wires o := by
    cases o <;> simp [Place.wires, refreshed_onWire]
  rw [leaveWire_eq, Queue.wires_eq]
  simp only [setQueue_frames, Queue.leaveUnsent, htakes, hunsent, hroll]

/-- R136: what the queue holds once the frame has left the wire. -/
theorem leaveWire_frames (h : s.QueueInv) : s.leaveWire.frames.queue.takes.map (·.frame) = s.frames.queue.takes.map (·.frame)
    ∧ s.leaveWire.frames.queue.skip.map (·.frame) = s.frames.queue.skip.bind Place.due
    ∧ s.leaveWire.frames.queue.frag.map (·.frame) = s.frames.queue.frag.bind Place.due
    ∧ s.leaveWire.frames.queue.roll.map (·.frame) = (s.frames.queue.roll.bind Place.due).map (fun r =>
      if r.mode = .call then r else { r with field := s.joinPoint }) := by
  obtain ⟨-, htakes, hskip, hfrag, hroll, -⟩ := h
  have hdue {φ : Type} {o : Option (Place φ)} (ho : ∀ p ∈ o, p.onWire = false → p.kept = .nothing) :
      (o.bind Place.leaveUnsent).map (·.frame) = o.bind Place.due := by
    cases o with
    | none => rfl
    | some p => exact Place.leaveUnsent_due (ho p rfl)
  rw [leaveWire_eq]
  refine ⟨?_, hdue hskip, hdue hfrag, ?_⟩
  · have hframe : ∀ p ∈ s.frames.queue.takes, p.leaveUnsent.map (·.frame) = some p.frame := fun p hp => by
      rw [Place.leaveUnsent_due fun _ => htakes p hp, Place.due, htakes p hp]
    have hcongr : s.frames.queue.takes.filterMap (fun p => p.leaveUnsent.map (·.frame))
        = s.frames.queue.takes.filterMap (fun p => some p.frame) := List.filterMap_congr hframe
    exact (List.map_filterMap ..).trans (hcongr.trans (congrFun List.filterMap_eq_map' _))
  · have hdue' := hdue hroll
    simp only [setQueue_frames]
    rw [← hdue', Option.map_map, Option.map_map]
    refine Option.map_congr fun q hq => ?_
    obtain ⟨p, -, hp⟩ := Option.bind_eq_some_iff.mp hq
    simp only [Function.comp_apply, refreshed, Place.leaveUnsent_onWire hp, Bool.false_or, decide_eq_true_eq]
    split <;> rfl

/-! ## Bad frames -/

theorem endOther_eq (s : State) :
    s.endOther = { s with frames := { s.frames with queue := s.leaveWire.frames.queue, dat := .busy } } := by
  unfold endOther
  rw [leaveWire_eq]
  rfl

/-- R141, R145: what a frame that fails the checks leaves. -/
theorem discardFrame_effects (c : Counter) (s : State) :
    (s.discardFrame c).insp = (if s.frames.dat = .abandoned then s.insp else (s.bump c).insp)
      ∧ (s.discardFrame c).frames.dat = .busy ∧ (s.discardFrame c).frames.failures = s.frames.failures
      ∧ (s.discardFrame c).frames.queue.wires = 0
      ∧ s.discardFrame c = { s with frames := (s.discardFrame c).frames, insp := (s.discardFrame c).insp } := by
  unfold discardFrame
  rw [endOther_eq]
  split
  · exact ⟨rfl, rfl, rfl, s.leaveWire_wires, rfl⟩
  · exact ⟨rfl, rfl, rfl, s.leaveWire_wires, rfl⟩

theorem exec_badFrame (bytes : List Byte) (s : State) : exec (.badFrame bytes) s = .next (s.receiveBytes bytes) := rfl

theorem receiveBytes_bad (h : s.takesFrame = true) {bytes : List Byte} (hc : checkFrame bytes = .bad) :
    s.receiveBytes bytes = s.discardFrame .badFrames := by simp [receiveBytes, h, hc]

theorem receiveBytes_malformed (h : s.takesFrame = true) {bytes : List Byte} (hc : checkFrame bytes = .malformed) :
    s.receiveBytes bytes = s.discardFrame .malformed := by simp [receiveBytes, h, hc]

theorem receiveBytes_good (h : s.takesFrame = true) {bytes : List Byte} {f : Frame} (hc : checkFrame bytes = .good f) :
    s.receiveBytes bytes = s.receive f := by simp [receiveBytes, h, hc]

end State

theorem fieldAt_lt (bits : List Bool) (n w : Nat) : fieldAt bits n w < 2 ^ w :=
  (natOfBits_lt _).trans_le (Nat.pow_le_pow_right (by decide) (List.length_take_le ..))

theorem toNat_field (bits : List Bool) (n w : Nat) : (BitVec.ofNat w (fieldAt bits n w)).toNat = fieldAt bits n w := by
  rw [BitVec.toNat_ofNat, Nat.mod_eq_of_lt (fieldAt_lt bits n w)]

theorem addrAt_val (bits : List Bool) (n : Nat) : (addrAt bits n).val = fieldAt bits n 4 :=
  Nat.mod_eq_of_lt (fieldAt_lt bits n 4)

/-- R145: the first three checks. -/
theorem checkFrame_bad {bytes : List Byte} (h : bytes.length < 7
      ∨ fieldAt (bitsOfBytes bytes) 0 3 < 4
        ∧ bytes.length < requiredBytes (bitsOfBytes bytes) (fieldAt (bitsOfBytes bytes) 0 3)
      ∨ bytes.drop (bytes.length - 2) ≠ crcBytes (bytes.take (bytes.length - 2))) : checkFrame bytes = .bad := by
  unfold checkFrame
  dsimp only
  by_cases h1 : bytes.length < 7
  · rw [if_pos h1]
  · by_cases h2 : fieldAt (bitsOfBytes bytes) 0 3 < 4
        ∧ bytes.length < requiredBytes (bitsOfBytes bytes) (fieldAt (bitsOfBytes bytes) 0 3)
    · rw [if_neg h1, if_pos h2]
    · rw [if_neg h1, if_neg h2, if_pos ((h.resolve_left h1).resolve_left h2)]

/-- R145: the last three checks. -/
theorem checkFrame_checked {bytes : List Byte} (hlong : 7 ≤ bytes.length)
    (hknown : fieldAt (bitsOfBytes bytes) 0 3 < 4 →
      requiredBytes (bitsOfBytes bytes) (fieldAt (bitsOfBytes bytes) 0 3) ≤ bytes.length)
    (hcrc : bytes.drop (bytes.length - 2) = crcBytes (bytes.take (bytes.length - 2)))
    (h : 4 ≤ fieldAt (bitsOfBytes bytes) 0 3
      ∨ requiredBytes (bitsOfBytes bytes) (fieldAt (bitsOfBytes bytes) 0 3) < bytes.length
      ∨ ∀ f, readFrame (bitsOfBytes bytes) (fieldAt (bitsOfBytes bytes) 0 3) = some f → frameValid f = false) :
    checkFrame bytes = .malformed := by
  unfold checkFrame
  dsimp only
  rw [if_neg (by omega), if_neg fun h => absurd (hknown h.1) (by omega), if_neg (not_not.mpr hcrc)]
  by_cases h4 : 4 ≤ fieldAt (bitsOfBytes bytes) 0 3
  · rw [if_pos h4]
  · by_cases h5 : requiredBytes (bitsOfBytes bytes) (fieldAt (bitsOfBytes bytes) 0 3) < bytes.length
    · rw [if_neg h4, if_pos h5]
    · rw [if_neg h4, if_neg h5]
      split
      · rfl
      · next f hf => simp [(h.resolve_left h4).resolve_left h5 f hf]

/-- R146: the fields that are invalid, by kind. -/
theorem frameValid_of_fields {bits : List Bool} {kind : Nat}
    (h : kind = 0 ∧ fieldAt bits 3 32 = 0
      ∨ kind = 1 ∧ (fieldAt bits 3 32 = 0 ∨ fieldAt bits 39 4 = fieldAt bits 35 4 ∨ 4 < fieldAt bits 44 3)
      ∨ kind = 2 ∧ (fieldAt bits 3 32 = 0 ∨ 16 < fieldAt bits 49 5 ∨ 3 < fieldAt bits 39 3
        ∨ fieldAt bits 39 3 = 3 ∧ fieldAt bits 42 1 = 0
        ∨ fieldAt bits 43 1 = 1 ∧ (fieldAt bits 42 1 = 0 ∨ fieldAt bits 39 3 ≠ 0 ∨ fieldAt bits 49 5 ≠ 0))
      ∨ kind = 3 ∧ (fieldAt bits 39 2 = 3 ∨ 64 < fieldAt bits 42 7)) {f : Frame} (hf : readFrame bits kind = some f) :
    frameValid f = false := by
  have hzero (h : fieldAt bits 3 32 = 0) : BitVec.ofNat 32 (fieldAt bits 3 32) = 0 := by rw [h]; rfl
  rcases h with ⟨rfl, h⟩ | ⟨rfl, h⟩ | ⟨rfl, h⟩ | ⟨rfl, h⟩
  · obtain rfl := (Option.some.inj hf).symm
    simp [frameValid, hzero h]
  · obtain rfl := (Option.some.inj hf).symm
    rcases h with h | h | h
    · simp [frameValid, hzero h]
    · have haddr : addrAt bits 39 = addrAt bits 35 := Fin.ext (by rw [addrAt_val, addrAt_val, h])
      simp [frameValid, haddr]
    · have hheard : ¬ fieldAt bits 44 3 ≤ 4 := by omega
      simp only [frameValid, toNat_field, decide_eq_false hheard, Bool.and_false]
  · obtain rfl := (Option.some.inj hf).symm
    have hlast : flagAt bits 42 = decide (fieldAt bits 42 1 = 1) := rfl
    have hlost : flagAt bits 43 = decide (fieldAt bits 43 1 = 1) := rfl
    refine Bool.eq_false_iff.mpr fun hvalid => ?_
    simp only [frameValid, hlast, hlost, toNat_field, List.length_map, List.length_range, Bool.and_eq_true,
      decide_eq_true_eq, Bool.not_eq_true', Bool.and_eq_false_imp, Bool.or_eq_false_iff, decide_eq_false_iff_not, ne_eq,
      not_not, Bool.not_eq_false'] at hvalid
    obtain ⟨⟨⟨⟨hnumber, hsamples⟩, hindex⟩, hthird⟩, hlostpart⟩ := hvalid
    rcases h with h | h | h | ⟨h, hl⟩ | ⟨h, hl⟩
    · exact hnumber (hzero h)
    · omega
    · omega
    · have := hthird h
      omega
    · obtain ⟨⟨h1, h2⟩, h3⟩ := hlostpart h
      omega
  · rcases h with h | h
    · simp [readFrame, modeAt, h] at hf
    · obtain ⟨mode, -, rfl⟩ := Option.map_eq_some_iff.mp hf
      simp only [frameValid, toNat_field]
      exact decide_eq_false (by omega)

/-- Settles O41: bytes that fail a check are discarded with their counter, and the others are received. -/
theorem badFramesAreCounted : Obligations.BadFramesAreCounted := by
  intro s bytes kind required field hfield hkind hrequired
  obtain rfl : field = fun n w => fieldAt (bitsOfBytes bytes) n w := funext fun n => funext fun w => hfield n w
  have hrequired' : required = requiredBytes (bitsOfBytes bytes) kind := by
    rw [hrequired]
    rfl
  subst hrequired'
  subst hkind
  refine ⟨fun h => ?_, fun ht h => ?_, fun ht hlong hknown hcrc => ⟨fun h => ?_, fun f hf => ?_⟩⟩
  · simp [exec, execBadFrame, State.receiveBytes, h]
  · rw [State.exec_badFrame, State.receiveBytes_bad ht (checkFrame_bad h)]
    exact ⟨_, rfl, s.discardFrame_effects .badFrames⟩
  · have hmalformed := checkFrame_checked hlong hknown hcrc (h.imp_right fun h => h.imp_right fun h _ => frameValid_of_fields h)
    rw [State.exec_badFrame, State.receiveBytes_malformed ht hmalformed]
    exact ⟨_, rfl, s.discardFrame_effects .malformed⟩
  · rw [State.exec_badFrame, State.receiveBytes_good ht hf]
    cases f <;> rfl

end Sys2Proof.Machine
end

section
/-! Lost contentions, abandoned frames and the contention (R133, R136 to R142, R159). -/

namespace Sys2Proof.Machine
namespace State
variable {s : State}

/-! ## Settling an idle station -/

theorem dropSkip_of_none (h : s.frames.queue.skip = none) : s.dropSkip = s := by
  have hkeep : Place.withdraw s.frames.queue.skip = s.frames.queue.skip := by rw [h]; rfl
  unfold dropSkip
  split
  · unfold withdrawSkip
    rw [hkeep]
    rfl
  · rfl

/-- R58, R59: outside the turns no timer runs. -/
theorem evalTimer_of_outside (h : s.takesTurns = false) (hq : s.frames.queue.skip = none) :
    s.evalTimer = s.setTurn { timer := .stopped, watched := none, heard := s.heardNow } := by
  have hwatched := watchedNow_of_outside h
  have hstands : s.timerStands = false := by
    unfold timerStands
    rw [hwatched]
    split <;> rfl
  have hfresh : s.freshTimer = .stopped := by simp [freshTimer, hwatched]
  unfold evalTimer
  rw [hwatched, hstands, hfresh, dropSkip_of_none hq]
  rfl

theorem withdrawFrag_of_none (h : s.frames.queue.frag = none) : s.withdrawFrag = s := by
  have hkeep : Place.withdraw s.frames.queue.frag = s.frames.queue.frag := by rw [h]; rfl
  unfold withdrawFrag
  rw [hkeep]
  rfl

theorem refreshRoll_of_none (h : s.frames.queue.roll = none) : s.refreshRoll = s := by
  unfold refreshRoll
  rw [h]

/-- R88: where no turns are taken and nothing is queued, settling leaves frames and store, and no timer runs. -/
theorem settle_of_outside (h : s.takesTurns = false) (hq : s.frames.queue = Queue.empty) (l : List Addr) :
    (s.settle l).turn.timer = .stopped ∧ (s.settle l).frames = s.frames ∧ (s.settle l).store = s.store := by
  obtain ⟨x, hx, ht⟩ : ∃ x, s.reassess = s.removeDrained.setTurn x ∧ x.timer = .stopped :=
    ⟨_, evalTimer_of_outside (s := s.removeDrained) h (congrArg (·.skip) hq), rfl⟩
  have hparts : (s.removeDrained.setTurn x).offerParts = s.removeDrained.setTurn x :=
    (offerParts_of_no_turn (ownTurn_of_outside (s := s.removeDrained.setTurn x) h)).trans
      (withdrawFrag_of_none (congrArg (·.frag) hq))
  have hroll : (s.removeDrained.setTurn x).refreshRoll = s.removeDrained.setTurn x :=
    refreshRoll_of_none (congrArg (·.roll) hq)
  have hsettle : s.settle l = ((s.removeDrained.setTurn x).settleBuilds l).startDelivery := by
    rw [settle, hx, hparts, hroll]
  rw [hsettle]
  exact ⟨by simpa using ht, by simp, by simp⟩

/-! ## Frames that leave the wire -/

theorem exec_lostContention (hrst : s.pins.rst = false) (hw : s.frames.queue.onWire.isSome = true) :
    exec .lostContention s = .next s.leaveWire := by
  have hsome : s.frames.queue.onWire.isNone = false := by simpa using hw
  simp [exec, execLostContention, hrst, hsome]

theorem exec_frameAbandoned (hrst : s.pins.rst = false) {f : Frame} (hw : s.frames.queue.onWire = some f) :
    exec .frameAbandoned s = .next (s.abandon f) := by
  simp [exec, execFrameAbandoned, hrst, hw]

/-- R141: an abandonment, before the limit is looked at. -/
def afterFailure (s : State) : State :=
  (s.leaveWire.setFrames { s.leaveWire.frames with
    failures := min Config.failureLimit (s.frames.failures + 1), dat := .abandoned }).bump .txRetries

theorem afterFailure_eq (s : State) : s.afterFailure = { s with
    frames := { queue := s.leaveWire.frames.queue, failures := min 8 (s.frames.failures + 1), dat := .abandoned }
    insp := (s.bump .txRetries).insp } := by
  unfold afterFailure
  rw [leaveWire_eq]
  rfl

theorem abandon_eq (f : Frame) (s : State) :
    s.abandon f = if min 8 (s.frames.failures + 1) = 8 then s.afterFailure.failLimit f else s.afterFailure := rfl

theorem failLimit_eq (f : Frame) (s : State) :
    s.failLimit f = ((s.raise .trunkDrive (frameField f).toNat).giveUpSending).settle s.order := rfl

theorem takesTurns_giveUpSending (s : State) : s.giveUpSending.takesTurns = false := by
  unfold giveUpSending
  split
  · exact takesTurns_of_station (by simp)
  · next h =>
    have hacquirer : s.takeMuteAttr.isAcquirer = s.isAcquirer := by simp [isAcquirer]
    simp [takesTurns, hacquirer, h]

/-- R142, R86: a station that gives up sending queues nothing, and once it has settled no timer of its runs. -/
theorem giveUpSending_settle (l : List Addr) (s : State) :
    (s.giveUpSending.settle l).frames = { s.frames with queue := Queue.empty }
      ∧ (s.giveUpSending.settle l).turn.timer = .stopped ∧ (s.giveUpSending.settle l).store = s.giveUpSending.store := by
  have hframes := State.Queued.giveUpSending_frames s
  obtain ⟨hturn, hsame, hstore⟩ :=
    settle_of_outside (takesTurns_giveUpSending s) (congrArg (·.queue) hframes) l
  exact ⟨hsame.trans hframes, hturn, hstore⟩

theorem sending_giveUpSending (l : List Addr) (s : State) : (s.giveUpSending.settle l).sending = false := by
  have hlimit := QueueStep.giveUpSending_limit s
  have hstart : (s.giveUpSending.settle l).start = s.giveUpSending.start := by simp
  unfold sending mayDrive
  rw [hstart]
  rcases hlimit with h | h <;> simp [h]

theorem takeMuteAttr_start (s : State) : s.takeMuteAttr.start.muteAttr = true
    ∧ s.takeMuteAttr.start.rollTimer = (if s.start.station = .rollcall ∧ s.start.rollTimer = none ∧ s.start.rollMet = false
      then some (Config.msTicks s.config.rolltime) else s.start.rollTimer) := by
  unfold takeMuteAttr
  dsimp only
  split
  · next hs =>
    rw [hs]
    by_cases h : s.start.rollTimer = none ∧ s.start.rollMet = false
    · simp [h]
    · have hno : (s.start.rollTimer.isNone && !s.start.rollMet) = false := by simpa using h
      simp [hno, h]
  · next hs => simp [hs]
  · next hs _ => exact ⟨rfl, (if_neg fun h => hs h.1).symm⟩

end State

/-- Settles O40. -/
theorem unsentFramesStayPending : Obligations.UnsentFramesStayPending := by
  intro s hrst hinv
  have hframes := State.leaveWire_frames hinv
  obtain ⟨htakes, hskip, hfrag, hroll⟩ := hframes
  have hwires := s.leaveWire_wires
  refine ⟨fun hw => ⟨?_, ?_⟩, fun f hf => ⟨?_, fun hfail => ?_, fun hfail => ?_⟩⟩
  · simp [exec, execLostContention, hw]
  · simp [exec, execFrameAbandoned, hw]
  · refine ⟨_, State.exec_lostContention hrst (by rw [hf]; rfl), htakes, hwires, hskip, hfrag, hroll, ?_⟩
    rw [State.leaveWire_eq]
    rfl
  · have hbelow : ¬ min 8 (s.frames.failures + 1) = 8 := by omega
    rw [State.exec_frameAbandoned hrst hf, State.abandon_eq, if_neg hbelow, State.afterFailure_eq]
    exact ⟨_, rfl, htakes, hwires, hskip, hfrag, hroll, by dsimp only; omega, rfl, rfl, rfl⟩
  · have hlimit : min 8 (s.frames.failures + 1) = 8 := by omega
    rw [State.exec_frameAbandoned hrst hf, State.abandon_eq, if_pos hlimit, State.failLimit_eq, State.afterFailure_eq]
    obtain ⟨u, hu⟩ : ∃ u : State, u = ({ s with
      frames := { queue := s.leaveWire.frames.queue, failures := min 8 (s.frames.failures + 1), dat := .abandoned }
      insp := (s.bump .txRetries).insp } : State).raise .trunkDrive (frameField f).toNat := ⟨_, rfl⟩
    rw [← hu]
    generalize ({ s with
      frames := { queue := s.leaveWire.frames.queue, failures := min 8 (s.frames.failures + 1), dat := .abandoned }
      insp := (s.bump .txRetries).insp } : State).order = l
    obtain ⟨hframes, hturn, hstore⟩ := u.giveUpSending_settle l
    obtain ⟨hpins, hstart, hconfig, -, htime, hroster, hinsp, hfree, -⟩ := u.giveUpSending.settle_frame l
    obtain ⟨gpins, gconfig, gtime, groster, -, -, ginsp, gfree, -⟩ := u.giveUpSending_frame
    have hagree := u.giveUpSending.settle_agree l
    refine ⟨_, rfl, ?_, ?_, u.sending_giveUpSending l, ?_, ?_, fun ha => ?_, fun hc => ?_, ?_, ?_, ?_, ?_⟩
    · rw [hframes, hu]
      exact hlimit
    · rw [hframes]
    · rw [hinsp, ginsp, hu]
      rfl
    · rw [State.Raised, hinsp, ginsp, hu]
      rfl
    · have hmute : u.giveUpSending = u.enterMute := if_pos (by rw [hu]; exact ha)
      rw [hmute] at hstart hstore hturn hagree ⊢
      refine ⟨?_, ?_, ?_, hturn, ?_⟩
      · rw [hstart, State.enterMute_start]
      · rw [hstore]
        simp [State.enterMute]
      · rw [hagree]
        simp [State.enterMute, State.removeDrained]
      · simp [State.drivesHld, State.mayDrive]
    · have hacquirer : u.isAcquirer = false := by
        rw [hu]
        exact State.isAcquirer_of_collector hc
      have hattr : u.giveUpSending = u.takeMuteAttr := if_neg (by rw [hacquirer]; simp)
      obtain ⟨hmute, hroll⟩ := u.takeMuteAttr_start
      rw [hattr] at hstart ⊢
      rw [hstart, State.takeMuteAttr_station, hroll]
      subst hu
      exact ⟨hmute, fun h => if_pos h, fun h => if_neg h, rfl⟩
    · exact hroster.trans (groster.trans (by rw [hu]; rfl))
    · exact htime.trans (gtime.trans (by rw [hu]; rfl))
    · have hhigh : u.giveUpSending.agree.highTake = u.agree.highTake := by
        unfold State.giveUpSending
        split <;> simp [State.enterMute]
      rw [hagree]
      exact hhigh.trans (by rw [hu]; rfl)
    · exact ⟨hpins.trans (gpins.trans (by rw [hu]; rfl)), hconfig.trans (gconfig.trans (by rw [hu]; rfl)),
        hfree.trans (gfree.trans (by rw [hu]; rfl))⟩

/-! ## The contention -/

theorem Queue.mem_frames {q : Queue} {f : Frame} : f ∈ q.frames ↔ (∃ p ∈ q.takes, Frame.take p.frame = f)
    ∨ (∃ p ∈ q.skip, Frame.skip p.frame = f) ∨ (∃ p ∈ q.frag, Frame.frag p.frame = f)
    ∨ ∃ p ∈ q.roll, Frame.roll p.frame = f := by
  simp only [Queue.frames, List.mem_append, List.mem_map, Option.mem_toList, or_assoc]
  rfl

/-- R139: the order in which frames are selected. -/
def goesBefore (g h : Frame) : Prop :=
  frameKind g < frameKind h ∨ frameKind g = frameKind h ∧ (frameField g).toNat ≤ (frameField h).toNat

/-- R137: what a contention makes of a queue that holds a frame. -/
structure Queue.Selects (q r : Queue) (g : Frame) : Prop where
  mem : g ∈ q.frames
  onWire : r.onWire = some g
  lowest : ∀ h ∈ q.frames, goesBefore g h
  frames : r.frames = q.frames
  wires : r.wires = 1

theorem driveTake_split {n : Nat} {l : List (Place TakeFrame)} (h : n ∈ l.map fun p => p.frame.number.toNat) :
    ∃ a p b, l = a ++ p :: b ∧ p.frame.number.toNat = n ∧ driveTake n l = a ++ p.drive :: b := by
  induction l with
  | nil => exact absurd h List.not_mem_nil
  | cons q l ih =>
    unfold driveTake
    by_cases hq : q.frame.number.toNat = n
    · exact ⟨[], q, l, rfl, hq, if_pos hq⟩
    · obtain ⟨a, p, b, rfl, hp, hdrive⟩ := ih ((List.mem_cons.mp h).resolve_left fun h => hq h.symm)
      exact ⟨q :: a, p, b, rfl, hp, (if_neg hq).trans (by rw [hdrive]; rfl)⟩

theorem lowestTake_eq_some {l : List (Place TakeFrame)} {n : Nat} (h : lowestTake l = some n) :
    (n ∈ l.map fun p => p.frame.number.toNat) ∧ ∀ p ∈ l, n ≤ p.frame.number.toNat := by
  obtain ⟨hmem, hmin⟩ := List.min?_eq_some_iff.mp h
  exact ⟨hmem, fun p hp => hmin _ (List.mem_map_of_mem hp)⟩

theorem lowestTake_eq_none {l : List (Place TakeFrame)} (h : lowestTake l = none) : l = [] := by
  simpa [lowestTake, List.min?_eq_none_iff] using h

theorem driven_of_off {φ : Type} {p : Place φ} (h : p.onWire = false) : p.driven = none := by simp [Place.driven, h]

/-- R137: the lowest TAKE frame goes first. -/
theorem Queue.selects_take {q : Queue} (hw : q.wires = 0) {n : Nat} (hn : lowestTake q.takes = some n) :
    ∃ g, q.Selects q.driveSelected g := by
  obtain ⟨hmem, hmin⟩ := lowestTake_eq_some hn
  obtain ⟨a, p, b, hl, hp, hdrive⟩ := driveTake_split hmem
  have hdriven : q.driveSelected = { q with takes := a ++ p.drive :: b } := by
    unfold Queue.driveSelected
    rw [hn]
    dsimp only
    rw [hdrive]
  rw [Queue.wires_eq, hl] at hw
  simp only [List.countP_append, List.countP_cons] at hw
  have hoff : ∀ x ∈ a, x.driven = none := fun x hx => by
    have hcount : a.countP (·.onWire) = 0 := by omega
    exact driven_of_off (by simpa using List.countP_eq_zero.mp hcount x hx)
  refine ⟨.take p.frame, ⟨?_, ?_, fun h hh => ?_, ?_, ?_⟩⟩
  · exact Queue.mem_frames.mpr (.inl ⟨p, by simp [hl], rfl⟩)
  · rw [hdriven, Queue.onWire]
    have hfind : (a ++ p.drive :: b).findSome? Place.driven = some p.frame := by
      rw [List.findSome?_append, List.findSome?_eq_none_iff.mpr hoff]
      rfl
    simp only [hfind]
    rfl
  · rcases Queue.mem_frames.mp hh with ⟨x, hx, rfl⟩ | ⟨x, -, rfl⟩ | ⟨x, -, rfl⟩ | ⟨x, -, rfl⟩
    · exact .inr ⟨rfl, by simpa [frameField, hp] using hmin x hx⟩
    · exact .inl (by simp [frameKind])
    · exact .inl (by simp [frameKind])
    · exact .inl (by simp [frameKind])
  · rw [hdriven]
    simp [Queue.frames, hl, Place.drive]
  · rw [hdriven, Queue.wires_eq]
    simp only [List.countP_append, List.countP_cons]
    simp only [Place.drive, if_true]
    omega

theorem Place.wires_driven {φ : Type} (p : Place φ) : Place.wires (some p.drive) = 1 := rfl

/-- R137: with no TAKE frame the lowest kind goes. -/
theorem Queue.selects_place {q : Queue} (hw : q.wires = 0) (hn : lowestTake q.takes = none) (hne : q.frames ≠ []) :
    ∃ g, q.Selects q.driveSelected g := by
  have htakes := lowestTake_eq_none hn
  obtain ⟨takes, skip, frag, roll⟩ := q
  obtain rfl : takes = [] := htakes
  rw [Queue.wires_eq] at hw
  dsimp only [List.countP_nil] at hw
  match skip, frag, roll with
  | some p, frag, roll =>
    refine ⟨.skip p.frame, ⟨Queue.mem_frames.mpr (.inr (.inl ⟨p, rfl, rfl⟩)), rfl, fun h hh => ?_, rfl, ?_⟩⟩
    · rcases Queue.mem_frames.mp hh with ⟨x, hx, rfl⟩ | ⟨x, hx, rfl⟩ | ⟨x, -, rfl⟩ | ⟨x, -, rfl⟩
      · exact absurd hx List.not_mem_nil
      · obtain rfl := Option.some.inj hx
        exact .inr ⟨rfl, le_rfl⟩
      · exact .inl (by simp [frameKind])
      · exact .inl (by simp [frameKind])
    · have hdriven : Queue.wires ⟨[], some p.drive, frag, roll⟩ = 1 := by
        rw [Queue.wires_eq, Place.wires_driven]
        dsimp only [List.countP_nil]
        omega
      exact hdriven
  | none, some p, roll =>
    refine ⟨.frag p.frame, ⟨Queue.mem_frames.mpr (.inr (.inr (.inl ⟨p, rfl, rfl⟩))), rfl, fun h hh => ?_, rfl, ?_⟩⟩
    · rcases Queue.mem_frames.mp hh with ⟨x, hx, rfl⟩ | ⟨x, hx, rfl⟩ | ⟨x, hx, rfl⟩ | ⟨x, -, rfl⟩
      · exact absurd hx List.not_mem_nil
      · exact absurd hx (by simp)
      · obtain rfl := Option.some.inj hx
        exact .inr ⟨rfl, le_rfl⟩
      · exact .inl (by simp [frameKind])
    · have hdriven : Queue.wires ⟨[], none, some p.drive, roll⟩ = 1 := by
        rw [Queue.wires_eq, Place.wires_driven]
        dsimp only [List.countP_nil]
        omega
      exact hdriven
  | none, none, some p =>
    refine ⟨.roll p.frame, ⟨Queue.mem_frames.mpr (.inr (.inr (.inr ⟨p, rfl, rfl⟩))), rfl, fun h hh => ?_, rfl, ?_⟩⟩
    · rcases Queue.mem_frames.mp hh with ⟨x, hx, rfl⟩ | ⟨x, hx, rfl⟩ | ⟨x, hx, rfl⟩ | ⟨x, hx, rfl⟩
      · exact absurd hx List.not_mem_nil
      · exact absurd hx (by simp)
      · exact absurd hx (by simp)
      · obtain rfl := Option.some.inj hx
        exact .inr ⟨rfl, le_rfl⟩
    · have hdriven : Queue.wires ⟨[], none, none, some p.drive⟩ = 1 := by
        rw [Queue.wires_eq, Place.wires_driven]
        dsimp only [List.countP_nil]
        omega
      exact hdriven
  | none, none, none => exact absurd rfl hne

theorem Queue.selects {q : Queue} (hw : q.wires = 0) (hne : q.frames ≠ []) : ∃ g, q.Selects q.driveSelected g := by
  cases hn : lowestTake q.takes with
  | none => exact Queue.selects_place hw hn hne
  | some n => exact Queue.selects_take hw hn

theorem Queue.isEmpty_iff (q : Queue) : q.isEmpty = true ↔ q.frames = [] := by
  simp [Queue.isEmpty, Queue.frames, and_assoc]

/-- Settles O39: a station that may send and has a frame takes part with the one it selects. -/
theorem contentionSelectsLowestFrame : Obligations.ContentionSelectsLowestFrame := by
  intro s hrst hinv
  obtain ⟨-, -, -, -, -, -, hinFrame, -⟩ := hinv
  have hexec : exec .contentionStart s = .next s.startFrame := by simp [exec, execContentionStart, hrst]
  have hidle : exec .datIdle s = .next s.idleDat := by simp [exec, execDatIdle, hrst]
  have hparts (hs : s.sending = false ∨ s.frames.queue.frames = []) :
      (s.sending && !s.frames.queue.isEmpty) = false := by
    rcases hs with h | h
    · simp [h]
    · simp [(Queue.isEmpty_iff _).mpr h]
  refine ⟨fun hd hw => ?_, fun h => ?_, fun hd hs hq => ?_, fun hd hs => ?_, fun h => ?_, fun hd hs => ?_, fun h => ?_⟩
  · rw [hidle, State.idleDat, hw]
    simp [hd]
    rfl
  · rw [hidle, State.idleDat]
    rcases h with h | h <;> simp [h]
  · have hoff : s.frames.queue.wires = 0 := hinFrame (by rcases hd with h | h <;> simp [h])
    obtain ⟨g, hg⟩ := Queue.selects hoff hq
    have hsome : s.frames.queue.isEmpty = false := by
      rw [Bool.eq_false_iff]
      exact fun h => hq ((Queue.isEmpty_iff _).mp h)
    have htake : s.startFrame = s.takePart := by
      unfold State.startFrame
      rcases hd with h | h <;> simp [h, hs, hsome]
    have hsending : s.takePart.sending = true := hs
    rw [hexec, htake]
    refine ⟨_, rfl, ⟨g, hg.mem, hg.onWire, ?_, hg.lowest⟩, hg.frames, hg.wires, rfl, rfl, rfl⟩
    rw [State.datBits, if_pos hsending]
    exact congrArg (Option.map fun f => lineBits (frameBytes f)) hg.onWire
  · rw [hexec, State.startFrame, hd]
    dsimp only
    rw [hparts hs]
    rfl
  · unfold State.datBits
    rcases h with h | h
    · rw [h]
      rfl
    · rw [h]
      exact ite_self none
  · rw [hexec, State.startFrame, hd]
    dsimp only
    rw [hparts hs]
    rfl
  · rw [hexec, State.startFrame]
    rcases h with h | h | h <;> rw [h]

end Sys2Proof.Machine
end

section
/-! What no command takes back: the counters and the fault record (R209, R211). -/

namespace Sys2Proof.Machine

/-- R211: the fault record stands: a fault that came first stays first, flags stay set, and the count rises. -/
structure FaultRecord.Stands (x y : FaultRecord) : Prop where
  first : ∀ f ∈ x.first, y.first = some f
  further : x.further ≤ 255 → x.further ≤ y.further ∧ y.further ≤ 255
  flags : x.flags &&& y.flags = x.flags
  empty : x.first = none → y.first = none → y = x

namespace FaultRecord.Stands
variable {x y z : FaultRecord}

theorem refl (x : FaultRecord) : x.Stands x where
  first _ hf := hf
  further h := ⟨le_rfl, h⟩
  flags := BitVec.and_self
  empty _ _ := rfl

theorem trans (h : x.Stands y) (k : y.Stands z) : x.Stands z where
  first f hf := k.first f (h.first f hf)
  further hx := by
    obtain ⟨h1, h2⟩ := h.further hx
    obtain ⟨k1, k2⟩ := k.further h2
    exact ⟨h1.trans k1, k2⟩
  flags := by rw [← h.flags, BitVec.and_assoc, k.flags]
  empty hx hz := by
    have hy : y.first = none := by
      cases hf : y.first with
      | none => rfl
      | some f => exact absurd (k.first f hf) (by rw [hz]; simp)
    rw [k.empty hy hz, h.empty hx hy]

theorem enter (f : FirstFault) (x : FaultRecord) : x.Stands (x.enter f) where
  first g hg := FaultRecord.enter_first_of_some hg f
  further h := by
    cases hx : x.first with
    | none => rw [FaultRecord.enter_of_empty hx]; exact ⟨le_rfl, h⟩
    | some g => rw [FaultRecord.enter_of_some hx]; dsimp only; omega
  flags := by
    rw [FaultRecord.enter_flags]
    ext i hi
    simp only [BitVec.getElem_and, BitVec.getElem_or]
    cases x.flags[i] <;> rfl
  empty hx hy := by
    rw [FaultRecord.enter_of_empty hx] at hy
    exact absurd hy (by simp)

end FaultRecord.Stands

/-- R209, R211: nothing of the port's counts and faults is taken back. -/
structure Inspection.Grows (x y : Inspection) : Prop where
  counters : ∀ i : Fin 18, x.counters[i] ≤ y.counters[i]
  faults : x.faults.Stands y.faults

namespace Inspection.Grows
variable {x y z : Inspection}

theorem of_eq (h : y = x) : x.Grows y := h ▸ ⟨fun _ => BitVec.le_refl _, .refl _⟩

theorem trans (h : x.Grows y) (k : y.Grows z) : x.Grows z :=
  ⟨fun i => BitVec.le_trans (h.counters i) (k.counters i), h.faults.trans k.faults⟩

end Inspection.Grows

namespace State
variable {s t : State}

theorem bump_grows (c : Counter) (s : State) : s.insp.Grows (s.bump c).insp :=
  ⟨s.counters_le_bump c, (s.bump_insp_rest c).1 ▸ .refl _⟩

theorem raise_grows (code : FaultCode) (x : Nat) (s : State) : s.insp.Grows (s.raise code x).insp :=
  ⟨fun _ => BitVec.le_refl _, .enter _ _⟩

theorem grows_of_bump {c : Counter} (h : t.insp = s.insp) : s.insp.Grows (t.bump c).insp :=
  (Inspection.Grows.of_eq h).trans (t.bump_grows c)

theorem grows_of_raise {code : FaultCode} {x : Nat} (h : t.insp = s.insp) : s.insp.Grows (t.raise code x).insp :=
  (Inspection.Grows.of_eq h).trans (t.raise_grows code x)

theorem becomeExhausted_grows (k : Nat) (s : State) : s.insp.Grows (s.becomeExhausted k).insp := grows_of_raise rfl

theorem refuseTake_grows (n : Nat) (s : State) : s.insp.Grows (s.refuseTake n).insp := by
  unfold refuseTake
  split
  · exact .of_eq rfl
  · exact grows_of_raise rfl

/-! ## TAKE frames -/

theorem takePair_grows (n : Nat) (t e : Time) (s : State) : s.insp.Grows (s.takePair n t e).insp := by
  unfold takePair
  split
  · exact .of_eq rfl
  · split
    · exact grows_of_bump rfl
    · exact .of_eq rfl

theorem answer_grows (n : Nat) (t : Time) (s : State) : s.insp.Grows (s.answer n t).insp := by
  unfold answer
  split
  · exact .of_eq rfl
  · next p rest _ =>
    have hstart := takePair_grows n t p.edgeTime (((s.setAgree { s.agree with pendingTakes := rest }).withdrawTake n).setStore
      (((s.setAgree { s.agree with pendingTakes := rest }).withdrawTake n).store.modify n fun r => { r with answered := true }))
    exact hstart

theorem shiftEvn_grows (k n : Nat) (l : List PendingTake) (s : State) : s.insp.Grows (s.shiftEvn k n l).insp := by
  unfold shiftEvn
  split
  · exact becomeExhausted_grows _ s
  · split
    · exact .of_eq rfl
    · split
      · exact becomeExhausted_grows _ s
      · exact .of_eq rfl

theorem renumber_grows (k n : Nat) (s : State) : s.insp.Grows (s.renumber k n).insp := by
  unfold renumber
  dsimp only
  refine Inspection.Grows.trans ?_ (bump_grows _ _)
  exact (Inspection.Grows.of_eq (by simp)).trans (shiftEvn_grows k n _ _)

theorem catchUp_grows (n : Nat) (s : State) : s.insp.Grows (s.catchUp n).insp := by
  unfold catchUp
  split
  · exact .of_eq rfl
  · split
    · exact (bump_grows _ s).trans (becomeExhausted_grows _ _)
    · exact bump_grows _ s

theorem matchTake_grows (n : Nat) (t : Time) (s : State) : s.insp.Grows (s.matchTake n t).insp := by
  unfold matchTake
  split
  · exact .of_eq rfl
  · split
    · exact catchUp_grows n s
    · split
      · exact answer_grows n t s
      · exact (renumber_grows _ n s).trans (answer_grows n t _)

theorem handleTake_grows (n : Nat) (t : Time) (s : State) : s.insp.Grows (s.handleTake n t).insp := by
  unfold handleTake
  split
  · unfold fillTake
    split <;> exact .of_eq rfl
  · split
    · exact bump_grows _ s
    · split
      · exact (refuseTake_grows n s).trans (matchTake_grows n t _)
      · exact matchTake_grows n t (s.appendTake n t)

/-! ## FRAG parts and SKIPs -/

theorem hearEvent_grows (n : Nat) (s : State) : s.insp.Grows (s.hearEvent n).insp := by
  have hraise : (s.raiseHighTake (n - 1)).insp = s.insp := by simp
  refine (Inspection.Grows.of_eq hraise).trans ?_
  unfold hearEvent impliedTake
  split
  · exact .of_eq rfl
  · split
    · exact .of_eq rfl
    · split
      · exact refuseTake_grows n _
      · split <;> exact .of_eq rfl

theorem hearMember_insp (m : Addr) (n : Nat) (s : State) : (s.hearMember m n).insp = s.insp := by
  simp [hearMember]

theorem buildFrame_grows (n : Nat) (stamp : Option Time) {apply : Build → State → State}
    (h : ∀ (b : Build) (t : State), t.insp.Grows (apply b t).insp) (s : State) : s.insp.Grows (s.buildFrame n stamp apply).insp := by
  unfold buildFrame
  split
  · exact .of_eq rfl
  · split
    · exact bump_grows _ s
    · split
      · split
        · exact h _ s
        · exact bump_grows _ s
      · split
        · exact (bump_grows _ s).trans (raise_grows _ _ _)
        · exact h _ (s.setBuild { s.build with builds := insertBuild (s.newBuild n stamp) s.build.builds })

theorem applyPart_grows (f : FragFrame) (b : Build) (s : State) : s.insp.Grows (s.applyPart f b).insp := by
  unfold applyPart
  dsimp only
  split
  · exact .of_eq rfl
  · have hcut (t : State) (c : Bool) : t.insp.Grows (if c then t.bump .truncatedBuilds else t).insp := by
      cases c
      · exact .of_eq rfl
      · exact bump_grows _ t
    split
    · exact hcut (s.putBuild _) _
    · exact hcut (s.putBuild _) _

theorem applySkip_grows (f : SkipFrame) (b : Build) (s : State) : s.insp.Grows (s.applySkip f b).insp := by
  unfold applySkip
  dsimp only
  split <;> exact .of_eq rfl

theorem handleFrag_grows (own : Bool) (f : FragFrame) (s : State) : s.insp.Grows (s.handleFrag own f).insp := by
  unfold handleFrag
  dsimp only
  split
  · exact .of_eq rfl
  · refine (hearEvent_grows f.number.toNat s).trans ?_
    generalize s.hearEvent f.number.toNat = u
    have hbuild (t : State) (b : Bool) : t.insp.Grows
        (if b then t.buildFrame f.number.toNat (u.takeTime f.number.toNat) (applyPart f) else t).insp := by
      cases b
      · exact .of_eq rfl
      · exact buildFrame_grows _ _ (applyPart_grows f) t
    have hstore (t : State) : t.insp.Grows (if own then t.storePart f else t).insp := by
      cases own <;> exact .of_eq (by simp)
    have hmarks (t : State) (b c : Bool) : t.insp.Grows
        (if !b then t else if c then t.bump .lateFrags else t.currentPart f).insp := by
      cases b
      · exact .of_eq rfl
      · cases c
        · exact .of_eq (by simp)
        · exact bump_grows _ t
    exact (Inspection.Grows.of_eq (hearMember_insp _ _ u)).trans ((hmarks _ _ _).trans ((hstore _).trans (hbuild _ _)))

theorem dropRecord_grows (n : Nat) (s : State) : s.insp.Grows (s.dropRecord n).insp := by
  unfold dropRecord
  split
  · exact grows_of_bump rfl
  · exact .of_eq rfl

theorem ownSilence_grows (n : Nat) (s : State) : s.insp.Grows (s.ownSilence n).insp := by
  have hinsp : (s.ownSilence n).insp = (s.raise .silenced n).insp := by
    unfold ownSilence
    dsimp only
    split <;> simp
  rw [hinsp]
  exact raise_grows _ _ s

theorem skipTurn_grows (m : Addr) (n : Nat) (s : State) : s.insp.Grows (s.skipTurn m n).insp := by
  have hstart : ((s.missTurn m n).withdrawSkipFor m).insp = s.insp := by simp
  refine (Inspection.Grows.of_eq hstart).trans ?_
  unfold skipTurn
  dsimp only
  split
  · split
    · exact (dropRecord_grows n _).trans (ownSilence_grows n _)
    · exact dropRecord_grows n _
  · exact .of_eq rfl

theorem ownSkip_grows (s : State) : s.insp.Grows s.ownSkip.insp := by
  unfold ownSkip
  split <;> exact bump_grows _ s

theorem handleSkip_grows (own : Bool) (f : SkipFrame) (s : State) : s.insp.Grows (s.handleSkip own f).insp := by
  unfold handleSkip
  dsimp only
  split
  · exact .of_eq rfl
  · refine (hearEvent_grows f.number.toNat s).trans ?_
    generalize s.hearEvent f.number.toNat = u
    have hown (t : State) : t.insp.Grows (if own then t.ownSkip else t).insp := by
      cases own
      · exact .of_eq rfl
      · exact ownSkip_grows t
    refine (Inspection.Grows.of_eq (hearMember_insp f.subject f.number.toNat u)).trans
      ((hown (u.hearMember f.subject f.number.toNat)).trans ?_)
    generalize (if own then (u.hearMember f.subject f.number.toNat).ownSkip
      else u.hearMember f.subject f.number.toNat) = v
    split
    · have hsettle (t : State) : t.insp.Grows t.reassess.insp := .of_eq (by simp)
      exact (skipTurn_grows _ _ _).trans ((hsettle _).trans (buildFrame_grows _ _ (applySkip_grows f) _))
    · exact .of_eq rfl

/-! ## ROLL frames -/

theorem joinEvn_grows (x : BitVec 32) (s : State) : s.insp.Grows (s.joinEvn x).insp := by
  unfold joinEvn
  split
  · exact .of_eq rfl
  · split
    · exact becomeExhausted_grows _ s
    · exact .of_eq rfl

theorem mismatch_grows (f : RollFrame) (s : State) : s.insp.Grows (s.mismatch f).insp := by
  unfold mismatch
  dsimp only
  split
  · exact .of_eq (by simp)
  · exact grows_of_raise (by simp)

theorem otherRoll_grows (f : RollFrame) (s : State) : s.insp.Grows (s.otherRoll f).insp := by
  unfold otherRoll
  dsimp only
  split
  · split
    · exact (mismatch_grows f s).trans (.of_eq (by simp))
    · exact mismatch_grows f s
  · split <;> exact .of_eq (by simp)

theorem ownRoll_grows (f : RollFrame) (s : State) : s.insp.Grows (s.ownRoll f).insp := by
  unfold ownRoll
  split
  · exact .of_eq rfl
  · unfold ownJoin
    dsimp only
    split
    · exact (Inspection.Grows.of_eq (by simp)).trans (joinEvn_grows f.field _)
    · exact .of_eq (by simp)
  · exact .of_eq (by simp)

theorem enterJoining_insp (s : State) : s.enterJoining.insp = s.insp := by simp

theorem rollcallRoll_grows (own : Bool) (f : RollFrame) (s : State) : s.insp.Grows (s.rollcallRoll own f).insp := by
  have hjoin (t : State) : t.insp.Grows t.enterJoining.insp := .of_eq (enterJoining_insp t)
  have hmark (b : Bool) : s.insp.Grows (if b then s.mismatch f else s).insp := by
    cases b
    · exact .of_eq rfl
    · exact mismatch_grows f s
  unfold rollcallRoll
  dsimp only
  split
  · split <;> exact .of_eq (by simp)
  · refine (hmark (f.signature ≠ s.config.signature)).trans ?_
    generalize (if decide (f.signature ≠ s.config.signature) then s.mismatch f else s) = u
    cases f.mode with
    | call => exact .of_eq (by dsimp only; split <;> simp)
    | join => exact .of_eq rfl
    | echo =>
      dsimp only
      split
      · exact hjoin u
      · exact (hjoin u).trans (otherRoll_grows f _)

theorem handleRoll_grows (own : Bool) (f : RollFrame) (s : State) : s.insp.Grows (s.handleRoll own f).insp := by
  unfold handleRoll
  split
  · exact rollcallRoll_grows own f s
  · split
    · exact .of_eq rfl
    · split
      · exact ownRoll_grows f s
      · exact otherRoll_grows f s

/-! ## Receptions -/

theorem clashCheck_grows (own : Bool) (f : Frame) (s : State) : s.insp.Grows (s.clashCheck own f).insp := by
  refine clashCheck_cases (P := fun t => s.insp.Grows t.insp) own f (.of_eq rfl) fun _ _ _ => ?_
  exact (raise_grows .addressClash (frameField f).toNat s).trans (.of_eq (by simp))

theorem giveOwners_grows (own : Bool) (f : Frame) (s : State) : s.insp.Grows (s.giveOwners own f).insp := by
  unfold giveOwners
  split
  · split
    · exact handleTake_grows _ _ s
    · exact .of_eq rfl
  · exact handleFrag_grows own _ s
  · exact handleSkip_grows own _ s
  · exact handleRoll_grows own _ s

theorem handleFrame_grows (own : Bool) (f : Frame) (s : State) : s.insp.Grows (s.handleFrame own f).insp := by
  refine (clashCheck_grows own f s).trans ?_
  unfold handleFrame
  dsimp only
  split
  · exact .of_eq rfl
  · have hleave : ((s.clashCheck own f).leaveListening f).insp = (s.clashCheck own f).insp := by simp
    have hsettle (t : State) (l : List Addr) : t.insp.Grows (t.settle l).insp := .of_eq (by simp)
    exact (Inspection.Grows.of_eq hleave).trans ((giveOwners_grows own f _).trans (hsettle _ _))

theorem received_grows (f : Frame) (s : State) : s.insp.Grows (s.received f).insp := by
  have hend (b : Bool) : s.insp.Grows (if b then s.endOwn else s.endOther).insp := by
    cases b <;> exact .of_eq (by simp)
  exact (hend _).trans (handleFrame_grows _ f _)

/-! ## The other events -/

theorem loadGood_grows (img : List Byte) (trg : Bool) (s : State) : s.insp.Grows (s.loadGood img trg).insp := by
  have henter (l : List FaultCode) : ∀ r : FaultRecord, s.insp.faults.Stands r → s.insp.faults.Stands (l.foldl
      (fun r code => r.enter { code := code, context := 0, time := s.time.counter, state := s.time.state }) r) := by
    induction l with
    | nil => exact fun _ h => h
    | cons c l ih => exact fun r h => ih _ (h.trans (.enter _ r))
  rw [loadGood_insp]
  exact ⟨fun _ => BitVec.le_refl _, henter _ _ (.refl _)⟩

theorem completeRead_grows (bytes : List Byte) (trg : Bool) (s : State) : s.insp.Grows (s.completeRead bytes trg).insp := by
  have hhalt (t : State) : t.insp.Grows t.halt.insp := grows_of_raise rfl
  unfold completeRead
  dsimp only
  split
  · split
    · exact (Inspection.Grows.of_eq (by simp)).trans (loadGood_grows bytes trg _)
    · exact (Inspection.Grows.of_eq (by simp)).trans (hhalt _)
  · split
    · exact .of_eq rfl
    · exact (Inspection.Grows.of_eq (by simp)).trans (hhalt _)

theorem filterSample_grows (x : Sample) (s : State) : s.insp.Grows (s.filterSample x).insp := by
  unfold filterSample
  split
  · split
    · exact .of_eq rfl
    · split
      · exact bump_grows _ s
      · split
        · exact grows_of_bump rfl
        · split
          · dsimp only
            split
            · exact .of_eq rfl
            · exact grows_of_raise rfl
          · exact .of_eq rfl
  · exact bump_grows _ s

theorem storeEdge_grows (n : Nat) (t : Time) (s : State) : s.insp.Grows (s.storeEdge n t).insp := by
  unfold storeEdge
  dsimp only
  split
  · exact .of_eq rfl
  · exact (grows_of_bump rfl).trans (raise_grows _ _ _)

theorem takeEdge_grows (b : Bool) (s : State) : s.insp.Grows (s.takeEdge b).insp := by
  have hcount (t : State) : t.insp.Grows t.countEdge.insp := by
    unfold countEdge
    split
    · exact becomeExhausted_grows _ t
    · exact .of_eq rfl
  unfold takeEdge decideEdge
  split
  · split
    · have haccept (t : State) : t.insp.Grows t.acceptEdge.insp :=
        (hcount t).trans ((storeEdge_grows t.agree.evn t.time.counter _).trans (.of_eq (by simp [acceptEdge, appendPending, offerTake])))
      exact (Inspection.Grows.of_eq (by simp)).trans (haccept _)
    · exact grows_of_bump rfl
  · exact .of_eq rfl

theorem requestTrigger_grows (b : Bool) (s : State) : s.insp.Grows (s.requestTrigger b).insp := by
  unfold requestTrigger
  split
  · exact bump_grows _ s
  · split
    · exact .of_eq rfl
    · split
      · exact bump_grows _ s
      · exact .of_eq rfl

theorem abandon_grows (f : Frame) (s : State) : s.insp.Grows (s.abandon f).insp := by
  have hfail : s.insp.Grows s.afterFailure.insp := by
    rw [afterFailure_eq]
    exact bump_grows _ s
  rw [abandon_eq]
  split
  · rw [failLimit_eq]
    exact hfail.trans ((raise_grows .trunkDrive (frameField f).toNat _).trans (.of_eq (by simp)))
  · exact hfail

theorem discardFrame_grows (c : Counter) (s : State) : s.insp.Grows (s.discardFrame c).insp := by
  rw [(s.discardFrame_effects c).1]
  split
  · exact .of_eq rfl
  · exact bump_grows c s

theorem setLine_grows (x : InspectionLine) (s : State) : s.insp.Grows (s.setLine x).insp :=
  ⟨fun _ => BitVec.le_refl _, .refl _⟩

/-- R209, R211: what a command takes back of the port's counts and faults. -/
def GrowsBut (c : Instr) (s t : State) : Prop :=
  (c ≠ .clearCounters → ∀ i : Fin 18, s.insp.counters[i] ≤ t.insp.counters[i])
    ∧ (c ≠ .ackFault → s.insp.faults.Stands t.insp.faults)

theorem growsBut_of_grows {c : Instr} (h : s.insp.Grows t.insp) : s.GrowsBut c t :=
  ⟨fun _ => h.counters, fun _ => h.faults⟩

theorem after_growsBut {c : Instr} (hc : c ≠ .rstAssert) (hwf : c.wellFormed = true) (s : State) :
    s.GrowsBut c (s.after c) := by
  have heq {t : State} (h : t.insp = s.insp) : s.GrowsBut c t := growsBut_of_grows (.of_eq h)
  refine after_cases (P := fun t => s.GrowsBut c t) c s (idle := heq rfl)
    (reset := fun h => absurd h hc)
    (release := fun _ _ _ _ => growsBut_of_grows ?_)
    (read := fun _ bytes trg _ _ => growsBut_of_grows (completeRead_grows bytes trg s))
    (sample := fun _ _ _ _ => growsBut_of_grows (filterSample_grows _ s))
    (window := fun _ _ => heq (by simp))
    (edge := fun _ b _ _ _ => growsBut_of_grows (takeEdge_grows b s))
    (request := fun _ b _ _ _ => growsBut_of_grows (requestTrigger_grows b s))
    (normalPulse := fun _ _ => heq rfl)
    (restartPulse := fun _ _ => heq rfl)
    (restart := fun _ => growsBut_of_grows ?_)
    (detection := fun _ _ _ => heq (by simp))
    (trgRelease := fun _ _ _ _ => heq (by simp))
    (listen := fun _ _ _ _ => heq (by simp))
    (roll := fun _ _ _ _ _ => heq (by simp))
    (hldFall := fun _ _ _ _ => heq (by simp))
    (turn := fun _ _ => heq (by simp))
    (close := fun _ _ _ => heq (by simp))
    (datIdle := fun _ _ => heq (by simp))
    (contention := fun _ _ => heq (by simp))
    (lost := fun _ _ _ => heq (by simp))
    (abandoned := fun _ _ f _ => growsBut_of_grows (abandon_grows f s))
    (discard := fun _ _ k => growsBut_of_grows (discardFrame_grows k s))
    (received := fun _ _ f _ _ => growsBut_of_grows (received_grows f s))
    (taking := fun _ _ _ => heq (by simp))
    (read_window := fun _ _ _ _ => growsBut_of_grows ?_)
    (clear := fun _ h => ⟨fun hne => ?_, fun _ => ?_⟩)
    (ack := fun _ h => ⟨fun _ => ?_, fun hne => ?_⟩)
    (write := fun _ => growsBut_of_grows ?_)
    (tick := fun _ _ => heq (by simp))
  · exact (Inspection.Grows.of_eq (by simp)).trans (setLine_grows _ _)
  · exact (Inspection.Grows.of_eq (by simp)).trans (setLine_grows .released s.restartTrunk)
  · exact ⟨fun _ => BitVec.le_refl _, .refl _⟩
  · exact absurd (h.resolve_left hne) (by simp [hwf])
  · exact .refl _
  · exact fun _ => BitVec.le_refl _
  · exact absurd (h.resolve_left hne) (by simp [hwf])
  · exact setLine_grows .released s

end State

/-- Settles O51. -/
theorem faultsAndCountersOnlyGrow : Obligations.FaultsAndCountersOnlyGrow := by
  intro c s t hwf hc hexec
  obtain ⟨hcounters, hfaults⟩ := State.after_growsBut hc hwf s
  rw [← State.after_eq hexec] at hcounters hfaults
  exact ⟨hcounters, fun h => ⟨(hfaults h).first, (hfaults h).further, (hfaults h).flags, (hfaults h).empty⟩⟩

end Sys2Proof.Machine
end

section
/-! What a reception does: the end of the frame on the wire, its owners, and the settling; and what a TAKE does
(R32 to R40, R194 to R196). -/

namespace Sys2Proof.Machine
namespace State
variable {s t u : State}

/-! ## Receptions without a clash -/

/-- R136, R139: the frame has left the wire, sent or unsent. -/
def ended (f : Frame) (s : State) : State := if s.isOwn f then s.endOwn else s.endOther

theorem ended_eq (f : Frame) (s : State) : s.ended f = s.setFrames (s.ended f).frames := by
  unfold ended
  split
  · rfl
  · rw [endOther_eq]
    rfl

theorem ended_dat (f : Frame) (s : State) : (s.ended f).frames.dat = .busy := by
  unfold ended
  split <;> rfl

theorem leaveSent_wires (q : Queue) : q.leaveSent.wires = 0 := by
  have hsent : ∀ {φ : Type} (o : Option (Place φ)), Place.wires (o.bind Place.leaveSent) = 0 :=
    fun o => Place.wires_leave (fun _ _ h => Place.leaveSent_onWire h) o
  have htakes : (q.takes.filterMap Place.leaveSent).countP (·.onWire) = 0 := by
    rw [List.countP_eq_zero]
    intro p hp
    obtain ⟨q, -, hq⟩ := List.mem_filterMap.mp hp
    simp [Place.leaveSent_onWire hq]
  rw [Queue.wires_eq]
  simp only [Queue.leaveSent, htakes, hsent]

/-- R136, R139: nothing is on the wire then. -/
theorem ended_wires (f : Frame) (s : State) : (s.ended f).frames.queue.wires = 0 := by
  unfold ended
  split
  · exact leaveSent_wires _
  · rw [endOther_eq]
    exact s.leaveWire_wires

/-- R86: no clash is found. -/
theorem clashCheck_of_noClash {own : Bool} {f : Frame}
    (h : own = true ∨ frameSender f ≠ s.pins.address ∨ s.detectsClash = false) : s.clashCheck own f = s := by
  unfold clashCheck
  rcases h with h | h | h <;> simp [h]

theorem leaveListening_of_tracks (h : s.tracks = true) (f : Frame) : s.leaveListening f = s := by
  have hstation : s.start.station ≠ .listening := fun hs => by simp [tracks, hs] at h
  unfold leaveListening
  rw [if_neg hstation]

/-- A frame heard without a clash goes to its owners, and what follows settles. -/
theorem received_of_noClash {f : Frame} (hh : s.Hears f) (hc : s.NoClash f) (ht : s.tracks = true) :
    s.received f = ((s.ended f).giveOwners (s.isOwn f) f).settle s.order := by
  obtain ⟨-, -, hr⟩ := hh
  have heq := s.ended_eq f
  have hclash : (s.ended f).clashCheck (s.isOwn f) f = s.ended f := clashCheck_of_noClash (by rw [heq]; exact hc)
  have hleave : (s.ended f).leaveListening f = s.ended f := leaveListening_of_tracks (by rw [heq]; exact ht) f
  have hrestarting : (s.ended f).trig.restarting = false := by rw [heq]; exact hr
  have horder : (s.ended f).order = s.order := by rw [heq]; rfl
  have hhandle : s.received f = (s.ended f).handleFrame (s.isOwn f) f := rfl
  rw [hhandle, handleFrame, hclash, hleave, hrestarting, horder]
  rfl

theorem exec_reception {f : Frame} (hh : s.Hears f) : exec f.reception s = .next (s.received f) := by
  obtain ⟨htakes, hvalid, -⟩ := hh
  have hreceive : s.receive f = s.received f := by simp [receive_eq, htakes, hvalid]
  cases f <;> exact congrArg Host.Outcome.next hreceive

/-! ## Matching -/

/-- R196: the pair of a TAKE and an edge time is suspect. -/
def suspect (x e : Time) (s : State) : Bool :=
  s.time.state = .set && s.config.skewlim ≠ 0 && s.config.skewlim < min (x - e).toNat (e - x).toNat

theorem changeRecord_comp {f g : Record → Record} (hf : ∀ r, (f r).number = r.number) (n : Nat) (l : List Record) :
    changeRecord n g (changeRecord n f l) = changeRecord n (fun r => g (f r)) l := by
  induction l with
  | nil => rfl
  | cons r l ih =>
    by_cases hr : r.number = n
    · simp [changeRecord, hr, hf]
    · simp [changeRecord, hr, ih]

/-- R194 to R196: what the time base makes of a pair. -/
theorem takePair_of_unset (h : s.time.state = .unset) (n : Nat) (x e : Time) :
    s.takePair n x e = s.setTime { counter := s.time.counter + (x - e), state := .set } := by
  unfold takePair
  rw [h]

theorem takePair_of_set (h : s.time.state = .set) (n : Nat) (x e : Time) :
    s.takePair n x e = if s.suspect x e then (s.markSuspect n).bump .timeSuspects else s := by
  unfold takePair suspect
  rw [h]
  dsimp only
  simp only [timeDistance, decide_true, Bool.true_and, Bool.and_eq_true, decide_eq_true_eq]
  exact if_congr Iff.rfl rfl rfl

/-- R34, R14: what becomes of the record of an answered number. -/
def answered (b : Bool) (r : Record) : Record :=
  { r with answered := true, flags := { r.flags with tsus := r.flags.tsus || b } }

/-- R34: the oldest entry and its frame go, its record is answered, and the pair goes to the time base. -/
theorem answer_blocks {p : PendingTake} {l : List PendingTake} (h : s.agree.pendingTakes = p :: l) (n : Nat) (x : Time) :
    (s.answer n x).frames = (s.withdrawTake n).frames
      ∧ (s.answer n x).store = s.store.modify n (answered (s.suspect x p.edgeTime))
      ∧ (s.answer n x).time = (if s.time.state = .unset
        then { counter := s.time.counter + (x - p.edgeTime), state := .set } else s.time)
      ∧ (s.answer n x).insp = (if s.suspect x p.edgeTime then (s.bump .timeSuspects).insp else s.insp) := by
  obtain ⟨w, hw⟩ : ∃ w, w = ((s.setAgree { s.agree with pendingTakes := l }).withdrawTake n).setStore
      (s.store.modify n fun r => { r with answered := true }) := ⟨_, rfl⟩
  have hanswer : s.answer n x = w.takePair n x p.edgeTime := by
    rw [hw]
    unfold answer
    rw [h]
    rfl
  have hsuspect : w.suspect x p.edgeTime = s.suspect x p.edgeTime := by rw [hw]; rfl
  have hplain : s.store.modify n (fun r => { r with answered := true }) = s.store.modify n (answered false) :=
    congrArg (fun f => s.store.modify n f) (funext fun r => by simp [answered])
  rw [hanswer]
  cases hs : s.time.state with
  | unset =>
    have hno : s.suspect x p.edgeTime = false := by simp [suspect, hs]
    rw [takePair_of_unset (s := w) (by rw [hw]; exact hs), hno, hw]
    exact ⟨rfl, hplain, rfl, rfl⟩
  | set =>
    rw [takePair_of_set (s := w) (by rw [hw]; exact hs), hsuspect]
    cases hb : s.suspect x p.edgeTime with
    | false =>
      rw [hw]
      exact ⟨rfl, hplain, rfl, rfl⟩
    | true =>
      have hmark : (w.markSuspect n).store = s.store.modify n (answered true) := by
        have hcomp := changeRecord_comp (g := fun r => { r with flags := { r.flags with tsus := true } })
          (f := fun r => { r with answered := true }) (fun _ => rfl) n s.store.records
        rw [hw]
        refine congrArg (fun l => ({ s.store with records := l } : Store)) (hcomp.trans ?_)
        exact congrArg (fun f => changeRecord n f s.store.records) (funext fun r => by simp [answered])
      rw [if_pos rfl]
      refine ⟨by rw [hw]; rfl, hmark, by rw [hw]; rfl, by rw [hw]; rfl⟩

theorem matchTake_of_no_match (h : s.matches = false) (n : Nat) (x : Time) : s.matchTake n x = s := by
  simp [matchTake, h]

theorem matchTake_of_nothing_pending (h : s.matches = true) (hp : s.agree.pendingTakes = []) (n : Nat) (x : Time) :
    s.matchTake n x = s.catchUp n := by
  unfold matchTake
  rw [h, hp]
  rfl

theorem matchTake_of_pending (h : s.matches = true) {p : PendingTake} {l : List PendingTake}
    (hp : s.agree.pendingTakes = p :: l) (n : Nat) (x : Time) :
    s.matchTake n x = (if n = p.number then s else s.renumber p.number n).answer n x := by
  unfold matchTake
  rw [h, hp]
  rfl

theorem handleTake_listed {n : Nat} (h : s.listed n = true) (x : Time) : s.handleTake n x = s.fillTake n x := by
  simp [handleTake, h]

theorem handleTake_stale {n : Nat} (h : s.listed n = false) (hn : n ≤ s.agree.highTake) (x : Time) :
    s.handleTake n x = s.bump .staleTakes := by
  simp [handleTake, h, hn]

theorem handleTake_full {n : Nat} (h : s.listed n = false) (hn : s.agree.highTake < n) (hl : 64 ≤ s.agree.takeList.length)
    (x : Time) : s.handleTake n x = (s.refuseTake n).matchTake n x := by
  simp [handleTake, h, Nat.not_le.mpr hn, Config.takeListCapacity, hl]

theorem handleTake_new {n : Nat} (h : s.listed n = false) (hn : s.agree.highTake < n) (hl : s.agree.takeList.length < 64)
    (x : Time) : s.handleTake n x = (s.appendTake n x).matchTake n x := by
  simp [handleTake, h, Nat.not_le.mpr hn, Config.takeListCapacity, Nat.not_le.mpr hl]

/-- R33, R32: the state in which a new number is matched differs in the list, the high take and the reason alone. -/
theorem handleTake_matches {n : Nat} (h : s.listed n = false) (hn : s.agree.highTake < n) (x : Time) :
    ∃ u : State, s.handleTake n x = u.matchTake n x ∧ u.agree.pendingTakes = s.agree.pendingTakes ∧ u.agree.evn = s.agree.evn
      ∧ u.agree.exhausted = s.agree.exhausted ∧ u.store = s.store ∧ u.time = s.time ∧ u.frames = s.frames
      ∧ u.config = s.config ∧ u.matches = s.matches ∧ u.insp.counters = s.insp.counters := by
  by_cases hl : 64 ≤ s.agree.takeList.length
  · refine ⟨_, handleTake_full h hn hl x, ?_⟩
    unfold refuseTake
    split <;> exact ⟨rfl, rfl, rfl, rfl, rfl, rfl, rfl, rfl, rfl⟩
  · exact ⟨_, handleTake_new h hn (Nat.lt_of_not_le hl) x, rfl, rfl, rfl, rfl, rfl, rfl, rfl, rfl, rfl⟩

/-- R36, R40: what a catch-up moves. -/
theorem catchUp_stays {n : Nat} (h : s.agree.exhausted = true ∨ n < s.agree.evn) : s.catchUp n = s := by
  unfold catchUp
  rw [if_pos (by simpa using h)]

theorem catchUp_follows {n : Nat} (he : s.agree.exhausted = false) (hn : s.agree.evn ≤ n) : s.catchUp n =
    if n = maxEvent then (s.bump .missedEdges).becomeExhausted n
    else (s.bump .missedEdges).setAgree { s.agree with evn := n + 1 } := by
  unfold catchUp
  rw [if_neg (by simpa [he] using hn)]

/-! ## Renumbering -/

/-- R35: entries, frames and records shifted, before EVN. -/
def shifted (oldest n : Nat) (s : State) : State :=
  let s := (s.setAgree { s.agree with pendingTakes := shiftPending oldest n s.agree.pendingTakes }).shiftTakes
    (shiftNumber oldest n)
  let records := s.store.records.filterMap (Record.shift oldest n)
  s.setStore { window := s.store.windowOver records, records := records }

theorem renumber_eq (oldest n : Nat) (s : State) : s.renumber oldest n =
    ((s.shifted oldest n).shiftEvn oldest n s.agree.pendingTakes).bump .numberSlips := rfl

/-- R35, R40: the run of EVN and its exhaustion after a shift. -/
theorem shiftEvn_cases {P : State → Prop} (oldest n : Nat) (l : List PendingTake) (s : State)
    (exhausted : ∀ k, ((l.any fun q => maxEvent < q.number + n - oldest) = true
      ∨ s.agree.exhausted = false ∧ maxEvent < s.agree.evn + n - oldest) → P (s.becomeExhausted k))
    (stays : (l.any fun q => maxEvent < q.number + n - oldest) = false → s.agree.exhausted = true → P s)
    (moves : (l.any fun q => maxEvent < q.number + n - oldest) = false → s.agree.exhausted = false →
      s.agree.evn + n - oldest ≤ maxEvent → P (s.setAgree { s.agree with evn := s.agree.evn + n - oldest })) :
    P (s.shiftEvn oldest n l) := by
  have hany : (l.any fun q => maxEvent < q.number + n - oldest)
      = l.any fun q => (shiftNumber oldest n q.number).isNone := by
    refine congrArg l.any (funext fun q => ?_)
    unfold shiftNumber
    split <;> simp <;> omega
  unfold shiftEvn firstDiscarded
  cases hf : l.find? fun q => (shiftNumber oldest n q.number).isNone with
  | some q =>
    have hq : (l.any fun q => maxEvent < q.number + n - oldest) = true := by
      rw [hany, List.any_eq_true]
      exact ⟨q, List.mem_of_find?_eq_some hf, by simpa using List.find?_some hf⟩
    exact exhausted q.number (.inl hq)
  | none =>
    have hno : (l.any fun q => maxEvent < q.number + n - oldest) = false := by
      rw [hany, List.any_eq_false]
      exact fun q hq => List.find?_eq_none.mp hf q hq
    dsimp only [Option.map_none]
    split
    · next he => exact stays hno he
    · next he =>
      have he : s.agree.exhausted = false := by simpa using he
      split
      · next h => exact exhausted maxEvent (.inr ⟨he, h⟩)
      · next h => exact moves hno he (Nat.le_of_not_lt h)

/-- R32: matching leaves the take list. -/
theorem matchTake_list (n : Nat) (x : Time) (s : State) : (s.matchTake n x).agree.takeList = s.agree.takeList
    ∧ (s.matchTake n x).agree.highTake = s.agree.highTake ∧ (s.matchTake n x).agree.listFull = s.agree.listFull := by
  have hanswer (t : State) : (t.answer n x).agree.takeList = t.agree.takeList
      ∧ (t.answer n x).agree.highTake = t.agree.highTake ∧ (t.answer n x).agree.listFull = t.agree.listFull := by
    cases hp : t.agree.pendingTakes with
    | nil => simp [answer, hp]
    | cons p l => rw [answer_agree hp]; exact ⟨rfl, rfl, rfl⟩
  have hrenumber (k : Nat) : (s.renumber k n).agree.takeList = s.agree.takeList
      ∧ (s.renumber k n).agree.highTake = s.agree.highTake ∧ (s.renumber k n).agree.listFull = s.agree.listFull := by
    rw [renumber_eq]
    exact shiftEvn_cases (P := fun t => (t.bump .numberSlips).agree.takeList = s.agree.takeList
        ∧ (t.bump .numberSlips).agree.highTake = s.agree.highTake
        ∧ (t.bump .numberSlips).agree.listFull = s.agree.listFull) k n _ _
      (fun _ _ => ⟨rfl, rfl, rfl⟩) (fun _ _ => ⟨rfl, rfl, rfl⟩) (fun _ _ _ => ⟨rfl, rfl, rfl⟩)
  unfold matchTake
  split
  · exact ⟨rfl, rfl, rfl⟩
  · split
    · unfold catchUp
      split
      · exact ⟨rfl, rfl, rfl⟩
      · split <;> exact ⟨rfl, rfl, rfl⟩
    · split
      · exact hanswer s
      · next p _ _ _ =>
        obtain ⟨h1, h2, h3⟩ := hanswer (s.renumber p.number n)
        obtain ⟨k1, k2, k3⟩ := hrenumber p.number
        exact ⟨h1.trans k1, h2.trans k2, h3.trans k3⟩

theorem answer_faults (n : Nat) (x : Time) (s : State) : (s.answer n x).insp.faults = s.insp.faults
    ∧ (s.answer n x).agree.exhausted = s.agree.exhausted := by
  cases hp : s.agree.pendingTakes with
  | nil => simp [answer, hp]
  | cons p l =>
    obtain ⟨-, -, -, hinsp⟩ := answer_blocks hp n x
    rw [hinsp, answer_agree hp]
    refine ⟨?_, rfl⟩
    split
    · exact (bump_insp_rest _ s).1
    · rfl

/-- R40: a matching raises at most the fault of a run that it exhausts. -/
theorem matchTake_faults (n : Nat) (x : Time) (s : State) : (s.matchTake n x).insp.faults = s.insp.faults
    ∨ s.matches = true ∧ (s.matchTake n x).agree.exhausted = true
      ∧ ∃ k, s.Raised (s.matchTake n x) .runExhausted k := by
  cases hm : s.matches with
  | false => exact .inl (by rw [matchTake_of_no_match hm])
  | true =>
    cases hp : s.agree.pendingTakes with
    | nil =>
      rw [matchTake_of_nothing_pending hm hp]
      unfold catchUp
      split
      · exact .inl rfl
      · split
        · exact .inr ⟨rfl, rfl, n, rfl⟩
        · exact .inl rfl
    | cons p l =>
      rw [matchTake_of_pending hm hp]
      split
      · exact .inl (answer_faults n x s).1
      · obtain ⟨hfaults, hexhausted⟩ := answer_faults n x (s.renumber p.number n)
        simp only [Raised, hfaults, hexhausted, true_and]
        rw [renumber_eq]
        exact shiftEvn_cases (P := fun t => (t.bump .numberSlips).insp.faults = s.insp.faults
          ∨ (t.bump .numberSlips).agree.exhausted = true
            ∧ ∃ k, (t.bump .numberSlips).insp.faults = s.insp.faults.enter
              { code := .runExhausted, context := k, time := s.time.counter, state := s.time.state }) p.number n _ _
          (fun k _ => .inr ⟨rfl, k, rfl⟩) (fun _ _ => .inl rfl) (fun _ _ _ => .inl rfl)

end State
end Sys2Proof.Machine
end

section
/-! The statements about TAKE frames (R32 to R40) and about the time counter (R190 to R195). -/

namespace Sys2Proof.Machine
namespace State
variable {s : State}

theorem exec_take {f : TakeFrame} (hh : s.Hears (.take f)) (hc : s.NoClash (.take f)) (ht : s.tracks = true) :
    exec (.takeReception f) s
      = .next (((s.ended (.take f)).handleTake f.number.toNat f.time).settle s.order) := by
  have hexec := exec_reception hh
  have htracks : (s.ended (.take f)).tracks = true := by rw [ended_eq]; exact ht
  rw [received_of_noClash hh hc ht, giveOwners, htracks] at hexec
  exact hexec

/-- R32: matching is for stations that track the trunk. -/
theorem tracks_of_matches (h : s.matches = true) : s.tracks = true := by
  unfold State.matches at h
  unfold tracks
  match hs : s.start.station with
  | .joining | .running | .silenced | .mute => rfl
  | .loading | .halted | .listening | .rollcall => simp [hs] at h

/-- The settling's part in the agreement unit: removals (R39). -/
theorem settle_takes (l : List Addr) (s : State) :
    (s.settle l).agree.takeList = s.undrained s.agree.takeList ∧ (s.settle l).agree.evn = s.agree.evn
      ∧ (s.settle l).agree.pendingTakes = s.agree.pendingTakes ∧ (s.settle l).agree.highTake = s.agree.highTake
      ∧ (s.settle l).agree.exhausted = s.agree.exhausted
      ∧ (s.settle l).agree.listFull = (s.agree.listFull && decide (48 ≤ (s.settle l).agree.takeList.length)) := by
  obtain ⟨hevn, hpending, hhigh, hexhausted, hlist⟩ := s.removeDrained_agree
  rw [settle_agree]
  exact ⟨hlist, hevn, hpending, hhigh, hexhausted, rfl⟩

/-- R211: a fault that was raised has its flag set, and moves no other. -/
theorem Raised.flag {t : State} {code : FaultCode} {k : Nat} (h : s.Raised t code k) (i : Nat) :
    t.insp.faults.flags.getLsbD i = (s.insp.faults.flags.getLsbD i || decide (i = code.number - 1)) := by
  have hcode : code.number - 1 < 11 := by cases code <;> decide
  have hbit : code.flag.getLsbD i = decide (i = code.number - 1) := by
    rw [FaultCode.flag, BitVec.getLsbD_twoPow, decide_eq_true hcode, Bool.true_and]
    exact decide_eq_decide.mpr eq_comm
  rw [show t.insp.faults = _ from h, FaultRecord.enter_flags, BitVec.getLsbD_or, hbit]

theorem catchUp_pending (n : Nat) (s : State) : (s.catchUp n).agree.pendingTakes = s.agree.pendingTakes := by
  unfold catchUp
  split
  · rfl
  · split <;> rfl

/-- What a TAKE leaves alone. -/
theorem take_leaves (f : TakeFrame) (s : State) (l : List Addr) {t : State}
    (ht : t = ((s.ended (.take f)).handleTake f.number.toNat f.time).settle l) :
    t.roster = s.roster ∧ t.start = s.start ∧ t.trig = s.trig ∧ s.SameSetting t := by
  have hended := s.ended_eq (.take f)
  obtain ⟨h1, h2, h3, h4, -, h5, -, h6, -⟩ := (s.ended (.take f)).handleTake_frame f.number.toNat f.time
  obtain ⟨k1, k2, k3, k4, -, k5, -, k6, -⟩ := ((s.ended (.take f)).handleTake f.number.toNat f.time).settle_frame l
  rw [hended] at h1 h2 h3 h4 h5 h6
  rw [hended] at k1 k2 k3 k4 k5 k6 ht
  subst ht
  exact ⟨k5.trans h5, k2.trans h2, k4.trans h4, k1.trans h1, k3.trans h3, k6.trans h6⟩

/-- A new number that an acquirer matches: what the statements about matching start from. -/
theorem take_matched {f : TakeFrame} (hh : s.Hears (.take f)) (hc : s.NoClash (.take f)) (hm : s.matches = true)
    (hl : s.listed f.number.toNat = false) (hn : s.agree.highTake < f.number.toNat) :
    ∃ u : State, exec (.takeReception f) s = .next ((u.matchTake f.number.toNat f.time).settle s.order)
      ∧ u.agree.pendingTakes = s.agree.pendingTakes ∧ u.agree.evn = s.agree.evn
      ∧ u.agree.exhausted = s.agree.exhausted ∧ u.store = s.store ∧ u.time = s.time
      ∧ u.frames = (s.ended (.take f)).frames ∧ u.config = s.config ∧ u.matches = true
      ∧ u.insp.counters = s.insp.counters ∧ (∀ t, t = (u.matchTake f.number.toNat f.time).settle s.order →
        t.roster = s.roster ∧ t.start = s.start ∧ t.trig = s.trig ∧ s.SameSetting t) := by
  have hended := s.ended_eq (.take f)
  obtain ⟨u, hu, h1, h2, h3, h4, h5, h6, h7, h8, h9⟩ :=
    handleTake_matches (s := s.ended (.take f)) (n := f.number.toNat) (by rw [hended]; exact hl)
      (by rw [hended]; exact hn) f.time
  have hexec := exec_take hh hc (tracks_of_matches hm)
  have hleaves := fun t => take_leaves f s s.order (t := t)
  rw [hu] at hexec hleaves
  rw [hended] at h1 h2 h3 h4 h5 h7 h8 h9
  exact ⟨u, hexec, h1, h2, h3, h4, h5, h6, h7, h8.trans hm, h9, hleaves⟩

end State

/-- Settles O21: with nothing pending the matching is the catch-up. -/
theorem takeCatchesUp : Obligations.TakeCatchesUp := by
  intro s f hh hc hm hlisted hhigh hpend
  obtain ⟨u, hexec, upend, uevn, uexh, ustore, utime, -, -, umatch, ucount, hleaves⟩ :=
    State.take_matched hh hc hm hlisted hhigh
  rw [State.matchTake_of_nothing_pending umatch (upend.trans hpend)] at hexec hleaves
  obtain ⟨-, tevn, tpend, -, texh, -⟩ := (u.catchUp f.number.toNat).settle_takes s.order
  obtain ⟨-, -, -, -, ttime, -, tinsp, -⟩ := (u.catchUp f.number.toNat).settle_frame s.order
  obtain ⟨-, tstore⟩ := (u.catchUp f.number.toNat).settle_store s.order
  obtain ⟨-, -, -, -, ctime, cstore, -⟩ := u.catchUp_frame f.number.toNat
  have hbump : (u.bump .missedEdges).insp.counters = (s.bump .missedEdges).insp.counters := by
    simp [State.bump, ucount]
  have hfollows (he : s.agree.exhausted = false) (hn : s.agree.evn ≤ f.number.toNat) :=
    State.catchUp_follows (s := u) (uexh.trans he) (uevn.trans_le hn)
  refine ⟨_, hexec, fun h => ?_, fun he hn hmax => ?_, fun he hn hmax => ?_, ?_, ttime.trans (ctime.trans utime), ?_,
    hleaves _ rfl⟩
  · have hstays : u.catchUp f.number.toNat = u := State.catchUp_stays (by rwa [uexh, uevn])
    rw [tevn, texh, tinsp, hstays]
    exact ⟨uevn, uexh, ucount⟩
  · rw [tevn, texh, tinsp, hfollows he hn, if_neg hmax.ne]
    exact ⟨rfl, uexh.trans he, hbump⟩
  · rw [tevn, texh, tinsp, hfollows he hn, if_pos hmax]
    refine ⟨rfl, rfl, hbump, ?_⟩
    have hraised : u.Raised ((u.bump .missedEdges).becomeExhausted f.number.toNat) .runExhausted f.number.toNat := rfl
    exact (hraised.flag 8).trans (by simp [FaultCode.number])
  · rw [tpend, State.catchUp_pending, upend, hpend]
  · rw [tstore, cstore, ustore]

/-! ## Answered records -/

/-- A record's number stands in its content. -/
theorem filter_content (n : Nat) (l : List Record) : (l.filter fun q => q.number ≠ n).map Record.content
    = (l.map Record.content).filter fun q => q.number ≠ n := by
  rw [List.filter_map]
  rfl

theorem find_content (n : Nat) (l : List Record) : (l.find? fun q => q.number = n).map Record.content
    = (l.map Record.content).find? fun q => q.number = n := by
  rw [List.find?_map]
  rfl

theorem filter_changeRecord {f : Record → Record} (hf : ∀ r, (f r).number = r.number) (n : Nat) (l : List Record) :
    (changeRecord n f l).filter (fun q => q.number ≠ n) = l.filter fun q => q.number ≠ n := by
  induction l with
  | nil => rfl
  | cons r l ih =>
    by_cases hr : r.number = n
    · simp [changeRecord, hr, hf]
    · rw [changeRecord, if_neg hr, List.filter_cons_of_pos (by simpa using hr), List.filter_cons_of_pos (by simpa using hr), ih]

theorem answered_number (b : Bool) (r : Record) : (State.answered b r).number = r.number := rfl

/-- R34: the record of the answered number, in a store whose contents are those of the answered one. -/
theorem State.record?_answered {t : State} {b : Bool} {n : Nat} {l : List Record}
    (h : t.store.records.map Record.content = (changeRecord n (State.answered b) l).map Record.content) :
    (t.record? n).map Record.content = (l.find? fun r => r.number = n).map fun r => (State.answered b r).content := by
  have hfind := find_content n t.store.records
  rw [h, ← find_content, State.find?_changeRecord (answered_number b), Option.map_map] at hfind
  exact hfind

theorem State.suspect_of_set {s : State} (h : s.time.state = .set) (x e : Time) : s.suspect x e = true
    ↔ s.config.skewlim ≠ 0 ∧ s.config.skewlim < min (x - e).toNat (e - x).toNat := by
  simp [State.suspect, h]

theorem State.takes_off_of_wires {s : State} (h : s.frames.queue.wires = 0) :
    ∀ p ∈ s.frames.queue.takes, p.onWire = false := by
  rw [Queue.wires_eq] at h
  have hcount : s.frames.queue.takes.countP (·.onWire) = 0 := by omega
  exact fun p hp => by simpa using List.countP_eq_zero.mp hcount p hp

/-- Settles O19: the answer of the oldest entry. -/
theorem takeAnswersOldestPending : Obligations.TakeAnswersOldestPending := by
  intro s f hh hc hm hlisted hhigh p hp hnumber
  obtain ⟨l, hpend⟩ : ∃ l, s.agree.pendingTakes = p :: l := List.head?_eq_some_iff.mp hp
  obtain ⟨u, hexec, upend, uevn, uexh, ustore, utime, uframes, uconfig, umatch, ucount, hleaves⟩ :=
    State.take_matched hh hc hm hlisted hhigh
  have hupend := upend.trans hpend
  rw [State.matchTake_of_pending umatch hupend, if_pos hnumber.symm] at hexec hleaves
  obtain ⟨aframes, astore, atime, ainsp⟩ := State.answer_blocks hupend f.number.toNat f.time
  have aagree := State.answer_agree hupend f.number.toNat f.time
  obtain ⟨-, tevn, tpend, -, texh, -⟩ := (u.answer f.number.toNat f.time).settle_takes s.order
  obtain ⟨-, -, -, -, ttime, -, tinsp, -⟩ := (u.answer f.number.toNat f.time).settle_frame s.order
  obtain ⟨twindow, tstore⟩ := (u.answer f.number.toNat f.time).settle_store s.order
  obtain ⟨ttakes, -⟩ := (u.answer f.number.toNat f.time).settle_queue s.order
  rw [astore, ustore] at tstore twindow
  have hsuspect : u.suspect f.time p.edgeTime = s.suspect f.time p.edgeTime := by
    rw [State.suspect, State.suspect, utime, uconfig]
  rw [hsuspect] at tstore ainsp
  generalize ht : (u.answer f.number.toNat f.time).settle s.order = t at *
  have hrecords : t.store.records.map Record.content
      = (changeRecord f.number.toNat (State.answered (s.suspect f.time p.edgeTime)) s.store.records).map Record.content := tstore
  refine ⟨t, hexec, ?_, ?_, ?_, fun q hq => ?_, twindow, ?_, ?_, ?_, fun r hr q hq => ?_, fun hs => ?_, fun hs => ?_,
    hleaves t rfl⟩
  · rw [tpend, aagree, hpend]
    rfl
  · rw [tevn, aagree, ← uevn]
  · rw [texh, aagree, ← uexh]
  · have hoff := State.takes_off_of_wires (s := u) (by rw [uframes]; exact s.ended_wires _)
    rw [ttakes, aframes, State.Queued.withdrawTake_takes hoff, List.mem_filter] at hq
    exact fun h => by simp [h] at hq
  · have hlength := congrArg List.length hrecords
    simpa using hlength
  · rw [filter_content, hrecords, ← filter_content, filter_changeRecord (answered_number _)]
  · simpa [State.record?] using congrArg Option.isSome (State.record?_answered hrecords)
  · have hfind := State.record?_answered hrecords
    rw [Option.mem_def.mp hq, show s.store.records.find? _ = some r from hr] at hfind
    exact Option.some.inj hfind
  · have hno : s.suspect f.time p.edgeTime = false := by simp [State.suspect, hs]
    rw [ttime, tinsp, atime, ainsp, hno, utime, if_pos hs]
    exact ⟨rfl, ucount⟩
  · rw [ttime, tinsp, atime, ainsp, utime, if_neg (by simp [hs])]
    refine ⟨rfl, ?_⟩
    by_cases hb : s.suspect f.time p.edgeTime = true
    · rw [if_pos hb, if_pos ((State.suspect_of_set hs _ _).mp hb)]
      simp [State.bump, ucount]
    · rw [if_neg hb, if_neg fun h => hb ((State.suspect_of_set hs _ _).mpr h)]
      exact ucount

/-! ## The take list -/

end Sys2Proof.Machine
end

section
/-! The steps of the take list (R32, R33, R98). -/
namespace Sys2Proof.Machine

namespace State
variable {s : State}

theorem finished_of_roster {t : State} (h : t.roster = s.roster) : t.finished = s.finished := by
  funext n
  unfold finished order mark entry
  rw [h]

theorem fillTake_list (n : Nat) (x : Time) (s : State) : (s.fillTake n x).agree.takeList = s.agree.takeList.map (fun e =>
      if e.number = n ∧ s.takeTime n = none then { e with time := some x } else e)
    ∧ (s.fillTake n x).agree.highTake = s.agree.highTake ∧ (s.fillTake n x).agree.evn = s.agree.evn
    ∧ (s.fillTake n x).agree.pendingTakes = s.agree.pendingTakes := by
  unfold fillTake
  by_cases h : s.takeTime n = none
  · rw [if_pos h]
    refine ⟨?_, rfl, rfl, rfl⟩
    simp [h, fillBuilds]
  · rw [if_neg h]
    refine ⟨?_, rfl, rfl, rfl⟩
    simp [h]

/-- R32, R98: whether a TAKE brings a timestamp that the list had not. -/
def stamps (n : Nat) (s : State) : Bool :=
  s.takeTime n = none && (s.listed n || decide (s.agree.highTake < n ∧ s.agree.takeList.length < 64))

theorem takeTime_of_unlisted {n : Nat} (h : s.listed n = false) : s.takeTime n = none := by
  have hfind : s.agree.takeList.find? (fun e => e.number = n) = none := by
    rw [List.find?_eq_none]
    exact fun e he => by simpa using List.any_eq_false.mp h e he
  rw [takeTime, hfind]
  rfl

/-- R98: the builds that a TAKE fills. -/
theorem handleTake_build (n : Nat) (x : Time) (s : State) : (s.handleTake n x).build =
    if s.stamps n then (s.fillBuilds n x).build else s.build := by
  unfold stamps
  cases hl : s.listed n with
  | true =>
    rw [handleTake_listed hl]
    unfold fillTake
    by_cases ht : s.takeTime n = none
    · simp [ht]
      rfl
    · simp [ht]
  | false =>
    have ht := takeTime_of_unlisted hl
    by_cases hn : n ≤ s.agree.highTake
    · rw [handleTake_stale hl hn]
      simp [Nat.not_lt.mpr hn]
    · have hn := Nat.lt_of_not_le hn
      by_cases hroom : s.agree.takeList.length < 64
      · rw [handleTake_new hl hn hroom]
        simp [ht, hn, hroom]
        rfl
      · rw [handleTake_full hl hn (Nat.le_of_not_lt hroom)]
        simp [hroom]

theorem refuseTake_list (n : Nat) (s : State) : (s.refuseTake n).agree.takeList = s.agree.takeList
    ∧ (s.refuseTake n).agree.highTake = s.agree.highTake ∧ (s.refuseTake n).agree.listFull = true
    ∧ (s.refuseTake n).matches = s.matches := by
  unfold refuseTake
  split
  · next h => exact ⟨rfl, rfl, h, rfl⟩
  · exact ⟨rfl, rfl, rfl, rfl⟩

theorem matchTake_dat (n : Nat) (x : Time) (s : State) : (s.matchTake n x).frames.dat = s.frames.dat := by
  have hanswer (t : State) : (t.answer n x).frames.dat = t.frames.dat := by
    unfold answer
    split <;> simp [withdrawTake]
  have hrenumber (k : Nat) (t : State) : (t.renumber k n).frames.dat = t.frames.dat := by
    simp [renumber, shiftTakes]
  unfold matchTake
  split
  · rfl
  · split
    · simp
    · split
      · exact hanswer s
      · exact (hanswer _).trans (hrenumber _ s)

theorem handleTake_dat (n : Nat) (x : Time) (s : State) : (s.handleTake n x).frames.dat = s.frames.dat := by
  unfold handleTake
  (repeat' split) <;> simp [matchTake_dat]

/-- R33: the fault of a number that a full list refuses, with its context. -/
theorem refuseTake_faults (n : Nat) (s : State) : (s.agree.listFull = false → s.Raised (s.refuseTake n) .takeListFull n)
    ∧ (s.agree.listFull = true → s.refuseTake n = s) := by
  unfold refuseTake
  constructor
  · intro h
    rw [if_neg (by simp [h])]
    rfl
  · intro h
    rw [if_pos h]

theorem builds_times {s t : State} (h : t.build.builds.map Build.content = s.build.builds.map Build.content) :
    t.build.builds.map (fun b => (b.number, b.time)) = s.build.builds.map fun b => (b.number, b.time) := by
  have hmap := congrArg (List.map fun b : Build => (b.number, b.time)) h
  rw [List.map_map, List.map_map] at hmap
  exact hmap

end State

/-- Settles O18: the four steps of the list, with the removals of the settling. -/
theorem takeListSteps : Obligations.TakeListSteps := by
  intro s f hh hc htracks
  have hexec := State.exec_take hh hc htracks
  obtain ⟨hroster', hstart, htrig, hsetting⟩ := State.take_leaves f s s.order rfl
  have hdat : (((s.ended (.take f)).handleTake f.number.toNat f.time).settle s.order).frames.dat = .busy := by
    rw [(State.settle_queue _ _).2.2, State.handleTake_dat, State.ended_dat]
  have hended := s.ended_eq (.take f)
  have hagree : (s.ended (.take f)).agree = s.agree := by rw [hended, State.setFrames_agree]
  have hinsp : (s.ended (.take f)).insp = s.insp := by rw [hended, State.setFrames_insp]
  have htime : (s.ended (.take f)).time = s.time := by rw [hended, State.setFrames_time]
  have hbuild : (s.ended (.take f)).build = s.build := by rw [hended, State.setFrames_build]
  have hlisted : (s.ended (.take f)).listed f.number.toNat = s.listed f.number.toNat := by rw [hended]; rfl
  have htaken : (s.ended (.take f)).takeTime f.number.toNat = s.takeTime f.number.toNat := by rw [hended]; rfl
  have hmatches : (s.ended (.take f)).matches = s.matches := by rw [hended]; rfl
  have hroster : ((s.ended (.take f)).handleTake f.number.toNat f.time).roster = s.roster := by
    rw [hended]
    simp
  generalize s.ended (.take f) = w at *
  have hfill := w.handleTake_build f.number.toNat f.time
  generalize hv : w.handleTake f.number.toNat f.time = v at *
  obtain ⟨tlist, tevn, tpend, thigh, texh, tfull⟩ := v.settle_takes s.order
  obtain ⟨-, -, -, -, ttime, -, tinsp, -⟩ := v.settle_frame s.order
  obtain ⟨tbuilds, tlast⟩ := v.settle_builds s.order
  rw [State.undrained, State.finished_of_roster hroster] at tlist
  rw [← hlisted, ← htaken, ← hagree]
  refine ⟨_, hexec, fun hl => ?_, fun hl hn => ?_, fun hl hn hfull => ?_, fun hl hn hroom => ?_, ?_, ?_, hroster',
    hstart, htrig, hsetting, hdat⟩
  · rw [State.handleTake_listed hl] at hv
    obtain ⟨flist, fhigh, fevn, fpend⟩ := w.fillTake_list f.number.toNat f.time
    rw [← hv] at *
    refine ⟨by rw [tlist, flist], ?_, ?_, ?_, ?_, ?_⟩
    · rw [thigh, fhigh]
    · rw [tevn, fevn]
    · rw [tpend, fpend]
    · rw [tinsp, ← hinsp]
      simp
    · rw [ttime, ← htime]
      simp
  · rw [State.handleTake_stale hl hn] at hv
    rw [← hv] at *
    refine ⟨by rw [tlist]; simp, by rw [thigh]; simp, by rw [tevn]; simp, by rw [tpend]; simp, ?_, ?_⟩
    · rw [tinsp, State.bump, State.bump, hinsp]
      rfl
    · rw [ttime, ← htime]
      simp
  · rw [State.handleTake_full hl hn hfull] at hv
    obtain ⟨mlist, mhigh, mfull⟩ := (w.refuseTake f.number.toNat).matchTake_list f.number.toNat f.time
    obtain ⟨rlist, rhigh, rfull, rmatches⟩ := w.refuseTake_list f.number.toNat
    obtain ⟨raised, rstays⟩ := w.refuseTake_faults f.number.toNat
    replace raised (h : w.agree.listFull = false) : s.Raised (w.refuseTake f.number.toNat) .takeListFull f.number.toNat := by
      have hr := raised h
      rwa [State.Raised, hinsp, htime] at hr
    have hfaults := (w.refuseTake f.number.toNat).matchTake_faults f.number.toNat f.time
    have hgrows := (w.refuseTake f.number.toNat).matchTake_grows f.number.toNat f.time
    rw [hv] at mlist mhigh mfull hfaults hgrows
    have hflag : v.insp.faults.flags.getLsbD 7 = (w.refuseTake f.number.toNat).insp.faults.flags.getLsbD 7 := by
      obtain hf | ⟨-, -, k, hf⟩ := hfaults
      · rw [hf]
      · simpa [FaultCode.number] using hf.flag 7
    refine ⟨by rw [tlist, mlist, rlist], by rw [thigh, mhigh, rhigh], by rw [tfull, mfull, rfull]; simp,
      fun hfree => ?_, fun hstands => ?_, fun hkept => ?_⟩
    · rw [tinsp, hflag, (raised hfree).flag]
      refine ⟨by simp [FaultCode.number], fun hfirst => hgrows.faults.first _ ?_⟩
      rw [raised hfree, FaultRecord.enter_of_empty hfirst]
      rfl
    · rw [tinsp, hflag, rstays hstands, hinsp]
    · have hsame : v.insp.faults = (w.refuseTake f.number.toNat).insp.faults := by
        obtain hf | ⟨hm, he, -⟩ := hfaults
        · exact hf
        · rw [rmatches, hmatches] at hm
          rw [texh, he, hm] at hkept
          simp at hkept
      refine ⟨fun hfree => ?_, fun hstands => ?_⟩
      · rw [State.Raised, tinsp, hsame, raised hfree]
      · rw [tinsp, hsame, rstays hstands, hinsp]
  · rw [State.handleTake_new hl hn hroom] at hv
    obtain ⟨mlist, mhigh, mfull⟩ := (w.appendTake f.number.toNat f.time).matchTake_list f.number.toNat f.time
    rw [hv] at mlist mhigh mfull
    refine ⟨by rw [tlist, mlist]; rfl, by rw [thigh, mhigh]; rfl, by rw [tfull, mfull]; rfl⟩
  · rw [State.builds_times tbuilds, hfill, ← hbuild]
    by_cases hs : w.stamps f.number.toNat = true
    · rw [if_pos hs]
      unfold State.stamps at hs
      simp only [Bool.and_eq_true, Bool.or_eq_true, decide_eq_true_eq] at hs
      rw [State.fillBuilds, State.setBuild, List.map_map]
      refine List.map_congr_left fun b _ => ?_
      simp only [Function.comp_apply, hs, and_true]
      split <;> rfl
    · rw [if_neg hs]
      unfold State.stamps at hs
      simp only [Bool.and_eq_true, Bool.or_eq_true, decide_eq_true_eq] at hs
      refine List.map_congr_left fun b _ => ?_
      rw [if_neg fun h => hs h.2.2.2]
  · rw [tlast, hfill]
    split
    · exact hbuild ▸ rfl
    · rw [hbuild]

end Sys2Proof.Machine
end

section
/-! The renumbering by a TAKE (R35, R13, R40). -/
namespace Sys2Proof.Machine

namespace State
variable {s : State}

/-- R35, R40: what a renumbering does to EVN, run exhaustion, the fault record and the counters. -/
theorem renumber_run (oldest n : Nat) (s : State) :
    (s.renumber oldest n).agree.exhausted = (s.agree.exhausted
        || s.agree.pendingTakes.any (fun q => maxEvent < q.number + n - oldest)
        || decide (maxEvent < s.agree.evn + n - oldest))
      ∧ ((s.renumber oldest n).agree.exhausted = false →
        (s.renumber oldest n).agree.evn = s.agree.evn + n - oldest)
      ∧ (s.agree.exhausted = false → (s.renumber oldest n).agree.exhausted = true →
        (s.renumber oldest n).agree.evn = 0 ∧ (s.renumber oldest n).insp.faults.flags.getLsbD 8 = true)
      ∧ (s.renumber oldest n).insp.counters = (s.bump .numberSlips).insp.counters := by
  have hcounters (t : State) : (t.bump .numberSlips).insp.counters
      = t.insp.counters.set Counter.numberSlips.index.val (saturate t.insp.counters[Counter.numberSlips.index])
        Counter.numberSlips.index.isLt := rfl
  have hagree (t : State) : (t.bump .numberSlips).agree = t.agree := by simp
  have hfaults (t : State) : (t.bump .numberSlips).insp.faults = t.insp.faults := rfl
  obtain ⟨hevn, hexh, hinsp⟩ : (s.shifted oldest n).agree.evn = s.agree.evn
      ∧ (s.shifted oldest n).agree.exhausted = s.agree.exhausted ∧ (s.shifted oldest n).insp = s.insp := by
    refine ⟨?_, ?_, ?_⟩ <;> simp [shifted]
  rw [renumber_eq, hagree, hfaults, hcounters, hcounters]
  refine shiftEvn_cases oldest n s.agree.pendingTakes (s.shifted oldest n)
    (P := fun t => t.agree.exhausted = _ ∧ (t.agree.exhausted = false → t.agree.evn = _)
      ∧ (_ → t.agree.exhausted = true → t.agree.evn = 0 ∧ t.insp.faults.flags.getLsbD 8 = true)
      ∧ t.insp.counters.set _ (saturate t.insp.counters[Counter.numberSlips.index]) _ = _)
    (fun k hk => ?_) (fun hany he => ?_) fun hany he hle => ?_
  · rw [hexh, hevn] at hk
    have hraised : (s.shifted oldest n).Raised ((s.shifted oldest n).becomeExhausted k) .runExhausted k := rfl
    refine ⟨?_, fun h => absurd h (by simp [becomeExhausted]), fun _ _ => ⟨rfl, ?_⟩, by rw [becomeExhausted]; simp [hinsp]⟩
    · obtain hany | ⟨-, hover⟩ := hk
      · rw [hany]
        simp [becomeExhausted]
      · simp [becomeExhausted, hover]
    · exact (hraised.flag 8).trans (by simp [FaultCode.number])
  · rw [hexh] at he
    refine ⟨?_, fun h => ?_, fun h => ?_, by rw [hinsp]⟩
    · rw [hexh, he]
      rfl
    · rw [hexh, he] at h
      cases h
    · rw [he] at h
      cases h
  · rw [hexh] at he
    rw [hevn] at hle
    refine ⟨?_, fun _ => ?_, fun _ h => ?_, ?_⟩
    · simp [hexh, he, hany, hle]
    · simp [hevn]
    · simp [hexh, he] at h
    · simp [hinsp]

theorem shiftPending_head {p : PendingTake} {n : Nat} (hn : n ≤ maxEvent) (l : List PendingTake) :
    shiftPending p.number n (p :: l) = { p with number := n } :: shiftPending p.number n l := by
  have hsome : shiftNumber p.number n p.number = some n := by
    rw [shiftNumber_eq_some]
    omega
  rw [shiftPending, List.filterMap_cons, hsome]
  rfl

theorem ended_takes (f : Frame) (s : State) : (s.ended f).frames.queue.takes
    = (if s.isOwn f then s.frames.queue.leaveSent else s.frames.queue.leaveUnsent).takes := by
  unfold ended
  split
  · rfl
  · rw [endOther_eq, leaveWire_eq]
    rfl

/-- R30: the TAKE frames after a renumbering to `n` and the answer of `n`, with nothing on the wire. -/
theorem renumber_takes {oldest n : Nat} (hoff : ∀ p ∈ s.frames.queue.takes, p.onWire = false) :
    ((s.renumber oldest n).withdrawTake n).frames.queue.takes = s.frames.queue.takes.filterMap fun q =>
      if q.frame.number.toNat + n - oldest ≤ maxEvent ∧ q.frame.number.toNat + n - oldest ≠ n
      then some {
        frame := { q.frame with number := BitVec.ofNat 32 (q.frame.number.toNat + n - oldest) }
        onWire := false, kept := .nothing }
      else none := by
  have hshift : (s.renumber oldest n).frames.queue.takes = s.frames.queue.takes.filterMap fun q =>
      (shiftNumber oldest n q.frame.number.toNat).map fun k =>
        Place.fresh { q.frame with number := BitVec.ofNat 32 k } := by
    have hframes : (s.renumber oldest n).frames = (s.shiftTakes (shiftNumber oldest n)).frames := by
      rw [renumber_eq]
      simp [shifted, shiftTakes]
    rw [hframes]
    refine List.filterMap_congr fun q hq => ?_
    cases hs : shiftNumber oldest n q.frame.number.toNat with
    | none => simp [Place.withdraw, hoff q hq]
    | some k => simp [Place.offer, hoff q hq]
  have hfresh : ∀ p ∈ (s.renumber oldest n).frames.queue.takes, p.onWire = false := by
    rw [hshift]
    intro p hp
    obtain ⟨q, -, hq⟩ := List.mem_filterMap.mp hp
    obtain ⟨k, -, rfl⟩ := Option.map_eq_some_iff.mp hq
    rfl
  rw [Queued.withdrawTake_takes hfresh, hshift, List.filter_filterMap]
  refine List.filterMap_congr fun q _ => ?_
  unfold shiftNumber
  by_cases hk : q.frame.number.toNat + n - oldest ≤ maxEvent
  · have hnat : (BitVec.ofNat 32 (q.frame.number.toNat + n - oldest)).toNat = q.frame.number.toNat + n - oldest := by
      rw [BitVec.toNat_ofNat, Nat.mod_eq_of_lt]
      unfold maxEvent at hk
      omega
    rw [if_pos hk, Option.map_some, Option.filter_some, Place.fresh, hnat]
    exact if_congr (by simp [hk]) rfl rfl
  · simp [hk]

/-- R13, R35: the records after a renumbering, as far as the statement names them; the answer adds nothing to these. -/
theorem renumbered_records {b : Bool} {oldest n : Nat} (l : List Record) :
    (changeRecord n (answered b) (l.filterMap (Record.shift oldest n))).map
        (fun r => (r.number, r.edgeTime, r.samples, r.flags.renum, r.answered || decide (r.number = n)))
      = l.filterMap fun r =>
        if r.answered = true then some (r.number, r.edgeTime, r.samples, r.flags.renum, true)
        else if r.number + n - oldest ≤ maxEvent
        then some (r.number + n - oldest, r.edgeTime, r.samples, true, decide (r.number + n - oldest = n)) else none := by
  rw [Store.Shrinks.changeRecord_same, List.map_filterMap]
  · refine List.filterMap_congr fun r _ => ?_
    unfold Record.shift shiftNumber
    by_cases ha : r.answered = true
    · simp [ha]
    · by_cases hk : r.number + n - oldest ≤ maxEvent <;> simp [ha, hk]
  · intro r hr
    have hn : r.number = n := by simpa using List.find?_some hr
    simp [answered, hn]

/-- R13, R35: the record that the shift carries to the new number, where no answered record had that number. -/
theorem find_shifted {oldest n : Nat} (hn : 1 ≤ n) (hmax : n ≤ maxEvent) {l : List Record} {r : Record}
    (hno : ∀ q ∈ l, q.answered = true → q.number ≠ n)
    (hr : l.find? (fun q : Record => q.number = oldest && !q.answered) = some r) :
    (l.filterMap (Record.shift oldest n)).find? (fun q => q.number = n)
      = some { r with number := n, flags := { r.flags with renum := true } } := by
  induction l with
  | nil => simp at hr
  | cons q l ih =>
    have ih := ih fun x hx => hno x (List.mem_cons_of_mem _ hx)
    by_cases hq : q.number = oldest ∧ q.answered = false
    · have hqr : q = r := by simpa [hq] using hr
      subst hqr
      have hshift : q.shift oldest n = some { q with number := n, flags := { q.flags with renum := true } } := by
        simp [Record.shift, shiftNumber, hq, hmax]
      rw [List.filterMap_cons_some hshift]
      simp
    · have hrest : l.find? (fun q : Record => q.number = oldest && !q.answered) = some r := by
        rw [List.find?_cons_of_neg (by simpa using hq)] at hr
        exact hr
      cases hshift : q.shift oldest n with
      | none => rw [List.filterMap_cons_none hshift, ih hrest]
      | some x =>
        have hx : x.number ≠ n := by
          unfold Record.shift shiftNumber at hshift
          by_cases ha : q.answered = true
          · rw [if_pos ha] at hshift
            cases hshift
            exact hno _ (List.mem_cons_self ..) ha
          · rw [if_neg ha] at hshift
            split at hshift
            · cases hshift
              have hne : q.number ≠ oldest := fun h => hq ⟨h, by simpa using ha⟩
              dsimp only
              omega
            · cases hshift
        rw [List.filterMap_cons_some hshift, List.find?_cons_of_neg (by simpa using hx), ih hrest]

end State

/-- Settles O20: the renumbering, and then the answer of the oldest entry. -/
theorem takeRenumbersPending : Obligations.TakeRenumbersPending := by
  intro s f hh hc hm hlisted hhigh p hp hnumber
  obtain ⟨l, hpend⟩ : ∃ l, s.agree.pendingTakes = p :: l := List.head?_eq_some_iff.mp hp
  obtain ⟨u, hexec, upend, uevn, uexh, ustore, utime, uframes, uconfig, umatch, ucount, hleaves⟩ :=
    State.take_matched hh hc hm hlisted hhigh
  have hmax : f.number.toNat ≤ maxEvent := by unfold maxEvent; omega
  have hone : 1 ≤ f.number.toNat := by omega
  rw [State.matchTake_of_pending umatch (upend.trans hpend), if_neg (Ne.symm hnumber)] at hexec hleaves
  obtain ⟨vexh, vevn, vflag, vcount⟩ := u.renumber_run p.number f.number.toNat
  have vpend := (u.renumber_agree p.number f.number.toNat).1
  have vstore := u.renumber_records p.number f.number.toNat
  have hoff := State.takes_off_of_wires (s := u) (by rw [uframes]; exact s.ended_wires _)
  have vtakes := State.renumber_takes (oldest := p.number) (n := f.number.toNat) hoff
  obtain ⟨-, -, vconfig, -, vtime, -⟩ := u.renumber_frame p.number f.number.toNat
  generalize u.renumber p.number f.number.toNat = v at *
  have hvpend : v.agree.pendingTakes = { p with number := f.number.toNat } :: shiftPending p.number f.number.toNat l := by
    rw [vpend, upend, hpend, State.shiftPending_head hmax]
  obtain ⟨aframes, astore, atime, ainsp⟩ := State.answer_blocks hvpend f.number.toNat f.time
  have aagree := State.answer_agree hvpend f.number.toNat f.time
  obtain ⟨-, tevn, tpend, -, texh, -⟩ := (v.answer f.number.toNat f.time).settle_takes s.order
  obtain ⟨-, -, -, -, ttime, -, tinsp, -⟩ := (v.answer f.number.toNat f.time).settle_frame s.order
  obtain ⟨twindow, tstore⟩ := (v.answer f.number.toNat f.time).settle_store s.order
  obtain ⟨ttakes, -⟩ := (v.answer f.number.toNat f.time).settle_queue s.order
  have hsuspect : v.suspect f.time p.edgeTime = s.suspect f.time p.edgeTime := by
    rw [State.suspect, State.suspect, vtime, utime, vconfig, uconfig]
  generalize ht : (v.answer f.number.toNat f.time).settle s.order = t at *
  dsimp only at astore atime ainsp
  rw [hsuspect] at astore ainsp
  have hrecords : t.store.records.map Record.content = (changeRecord f.number.toNat
      (State.answered (s.suspect f.time p.edgeTime))
      (s.store.records.filterMap (Record.shift p.number f.number.toNat))).map Record.content := by
    rw [tstore, astore, Store.modify, vstore, ustore]
  have tcount (c : Counter) : t.count c
      = if s.suspect f.time p.edgeTime then (v.bump .timeSuspects).count c else v.count c := by
    rw [State.count, tinsp, ainsp]
    split <;> rfl
  replace vcount (c : Counter) : v.count c = (s.bump .numberSlips).count c := by
    rw [State.count, vcount, State.bump, ucount]
    rfl
  refine ⟨t, hexec, ?_, ?_, ?_, ?_, ?_, ?_, fun r hr => ?_, fun r hr hno => ?_, fun hs => ?_, fun hs => ?_, ?_,
    hleaves t rfl⟩
  · rw [tpend, aagree, hpend]
    refine List.filterMap_congr fun q _ => ?_
    unfold shiftNumber
    split <;> rfl
  · rw [texh, aagree]
    dsimp only
    rw [vexh, uexh, upend, uevn]
  · rw [texh, tevn, aagree, ← uevn]
    exact vevn
  · rw [texh, tevn, tinsp, aagree, ← uexh]
    intro hfree hex
    obtain ⟨hevn, hflag⟩ := vflag hfree hex
    refine ⟨hevn, ?_⟩
    rw [← hflag, ainsp]
    split <;> rfl
  · rw [tcount, State.count_bump_of_ne (by decide), vcount, State.count_bump_self, ite_self]
  · have hmap := congrArg (List.map fun r : Record =>
      (r.number, r.edgeTime, r.samples, r.flags.renum, r.answered || decide (r.number = f.number.toNat))) hrecords
    rw [List.map_map, List.map_map] at hmap
    exact hmap.trans (State.renumbered_records _)
  · obtain ⟨q, -, hq⟩ := Option.map_eq_some_iff.mp
      ((State.record?_answered hrecords).symm.trans (congrArg (Option.map Record.content) hr))
    have hcontent := congrArg Record.answered hq
    exact hcontent.symm
  · have hfind := State.find_shifted hone hmax hno hr
    have hcontent := State.record?_answered hrecords
    rw [hfind] at hcontent
    obtain ⟨q, hq, hqc⟩ := Option.map_eq_some_iff.mp hcontent
    rw [hq]
    refine ⟨rfl, fun x hx => ?_⟩
    rw [← Option.some.inj hx, hqc]
    rfl
  · have hno : s.suspect f.time p.edgeTime = false := by simp [State.suspect, hs]
    rw [ttime, atime, vtime, utime, if_pos hs, tcount, hno, vcount]
    exact ⟨rfl, State.count_bump_of_ne (by decide) s⟩
  · rw [ttime, atime, vtime, utime, if_neg (by simp [hs]), tcount, State.count_bump_self, vcount,
      State.count_bump_of_ne (by decide)]
    exact ⟨rfl, if_congr (State.suspect_of_set hs _ _) rfl rfl⟩
  · rw [ttakes, aframes, vtakes, uframes, State.ended_takes]

end Sys2Proof.Machine
end

section
/-! What moves the time counter (R190 to R195). -/
namespace Sys2Proof.Machine

namespace State
variable {s t u : State}

/-- R194, R195: from `s` to `t` a matched TAKE for `n` with the timestamp `x` aligned the time base. -/
def Aligns (n : Nat) (x : Time) (s t : State) : Prop :=
  s.time.state = .unset ∧ t.time.state = .set ∧ s.matches = true ∧ s.agree.highTake < n
    ∧ ∃ p ∈ s.agree.pendingTakes.head?, t.agree.pendingTakes.length < s.agree.pendingTakes.length
      ∧ t.time.counter = s.time.counter + (x - p.edgeTime)

theorem handleTake_time {n : Nat} (hmax : n ≤ maxEvent) (x : Time) (s : State) :
    (s.handleTake n x).time = s.time ∨ s.Aligns n x (s.handleTake n x) := by
  cases hl : s.listed n with
  | true =>
    rw [handleTake_listed hl]
    exact Or.inl (by simp)
  | false =>
    by_cases hn : n ≤ s.agree.highTake
    · rw [handleTake_stale hl hn]
      exact Or.inl (by simp)
    have hn := Nat.lt_of_not_le hn
    obtain ⟨u, heq, upend, -, -, -, utime, -, -, umatch, -⟩ := handleTake_matches hl hn x
    rw [heq, ← utime]
    cases hm : s.matches with
    | false =>
      rw [matchTake_of_no_match (umatch.trans hm)]
      exact Or.inl rfl
    | true =>
      cases hp : s.agree.pendingTakes with
      | nil =>
        rw [matchTake_of_nothing_pending (umatch.trans hm) (upend.trans hp)]
        exact Or.inl (by simp)
      | cons p l =>
        rw [matchTake_of_pending (umatch.trans hm) (upend.trans hp)]
        obtain ⟨q, rest, hv, hedge, hlength, hvtime⟩ : ∃ q rest,
            (if n = p.number then u else u.renumber p.number n).agree.pendingTakes = q :: rest
              ∧ q.edgeTime = p.edgeTime ∧ rest.length ≤ l.length
              ∧ (if n = p.number then u else u.renumber p.number n).time = u.time := by
          by_cases hnp : n = p.number
          · rw [if_pos hnp, upend, hp]
            exact ⟨p, l, rfl, rfl, le_rfl, rfl⟩
          · rw [if_neg hnp, (u.renumber_agree p.number n).1, upend, hp, shiftPending_head hmax]
            exact ⟨_, _, rfl, rfl, List.length_filterMap_le .., by simp⟩
        obtain ⟨-, -, atime, -⟩ := answer_blocks hv n x
        rw [hvtime, hedge] at atime
        by_cases hu : u.time.state = .unset
        · rw [if_pos hu] at atime
          refine Or.inr ⟨utime ▸ hu, by rw [atime], hm, hn, p, by rw [hp]; rfl, ?_, by rw [atime, utime]⟩
          rw [answer_agree hv, hp]
          exact Nat.lt_succ_of_le hlength
        · rw [if_neg hu] at atime
          exact Or.inl atime

/-- R190: what the statement allows of a command that moves the counter. -/
def CounterMoves (c : Instr) (s t : State) : Prop :=
  t.time.counter ≠ s.time.counter →
    c = .rstAssert ∨ c = .tick
      ∨ (s.start.station = .rollcall ∧ (c = .hldFall ∨ ∃ b, c = .rollTimerExpiry b)
        ∧ t.time = { counter := 0, state := .set } ∧ t.start.station = .running)
      ∨ ∃ f : TakeFrame, c = .takeReception f ∧ s.Aligns f.number.toNat f.time t

theorem counterMoves_of_eq {c : Instr} (h : t.time = s.time) : s.CounterMoves c t :=
  fun hne => absurd (congrArg TimeBase.counter h) hne

/-- R86, R178: a clash or the end of LISTENING leaves a station that matches no pending number. -/
theorem matches_before {own : Bool} {f : TakeFrame} {p : PendingTake}
    (hm : ((s.clashCheck own (.take f)).leaveListening (.take f)).matches = true)
    (hp : p ∈ ((s.clashCheck own (.take f)).leaveListening (.take f)).agree.pendingTakes.head?) :
    (s.clashCheck own (.take f)).leaveListening (.take f) = s := by
  have hlisten (u : State) (hp : p ∈ (u.leaveListening (.take f)).agree.pendingTakes.head?) :
      u.leaveListening (.take f) = u := by
    unfold leaveListening at hp ⊢
    split
    · next hs =>
      rw [if_pos hs] at hp
      simp [enterJoining, Agreement.blank] at hp
    · rfl
  have hheard := hlisten _ hp
  rw [hheard] at hm hp ⊢
  unfold clashCheck at hm hp ⊢
  split
  · next hc =>
    rw [if_pos hc] at hm hp
    unfold giveUpSending at hm hp
    split at hm
    · next ha =>
      rw [if_pos ha] at hp
      simp [enterMute] at hp
    · next ha =>
      refine absurd ?_ ha
      simp only [State.matches, Bool.and_eq_true] at hm
      simpa [isAcquirer] using hm.1
  · rfl

theorem leaveListening_time (f : Frame) (s : State) : (s.leaveListening f).time.counter = s.time.counter := by
  unfold leaveListening
  (repeat' split) <;> simp [enterRollcall]

theorem releaseTrg_time (s : State) : s.releaseTrg.time.counter = s.time.counter := by
  unfold releaseTrg endRestart
  dsimp only
  (repeat' split) <;> simp [enterRollcall]

theorem epoch_moves {c : Instr} (hs : s.start.station = .rollcall) (hc : c = .hldFall ∨ ∃ b, c = .rollTimerExpiry b) :
    s.CounterMoves c s.epoch :=
  fun _ => Or.inr (Or.inr (Or.inl ⟨hs, hc, by simp [epoch], by simp [epoch]⟩))

/-- R194, R195: of the receptions a TAKE's alone moves the counter. -/
theorem received_time {f : Frame} (hv : frameValid f = true) (s : State) : (s.received f).time.counter = s.time.counter
    ∨ ∃ g, f = .take g ∧ s.Aligns g.number.toNat g.time (s.received f) := by
  have hended := s.ended_eq f
  have hreceived : s.received f = (s.ended f).handleFrame (s.isOwn f) f := rfl
  obtain ⟨htime, hagree, hmatches⟩ : (s.ended f).time = s.time ∧ (s.ended f).agree = s.agree
      ∧ (s.ended f).matches = s.matches := by
    rw [hended]
    exact ⟨rfl, rfl, rfl⟩
  rw [hreceived]
  unfold handleFrame
  dsimp only
  split
  · exact Or.inl (by simp [htime])
  · have hbefore : (((s.ended f).clashCheck (s.isOwn f) f).leaveListening f).time.counter = s.time.counter := by
      rw [leaveListening_time]
      simp [htime]
    cases f with
    | take g =>
      unfold giveOwners
      dsimp only
      split
      · obtain ht | ⟨hunset, hset, hm, hhigh, p, hp, hlt, hcounter⟩ := handleTake_time (n := g.number.toNat)
          (by unfold maxEvent; omega) g.time (((s.ended (.take g)).clashCheck (s.isOwn (.take g)) (.take g)).leaveListening
            (.take g))
        · exact Or.inl (by simpa [ht] using hbefore)
        · have hsame := matches_before hm hp
          rw [hsame] at hunset hset hm hhigh hp hlt hcounter ⊢
          rw [hmatches] at hm
          rw [htime] at hunset hcounter
          rw [hagree] at hhigh hp hlt
          obtain ⟨-, -, tpend, -⟩ := ((s.ended (.take g)).handleTake g.number.toNat g.time).settle_takes
            (s.ended (.take g)).order
          refine Or.inr ⟨g, rfl, hunset, by simpa using hset, hm, hhigh, p, hp, by rw [tpend]; exact hlt, ?_⟩
          simpa using hcounter
      · exact Or.inl (by simpa using hbefore)
    | skip k => exact Or.inl (by simpa [giveOwners] using hbefore)
    | frag g => exact Or.inl (by simpa [giveOwners] using hbefore)
    | roll r => exact Or.inl (by simpa [giveOwners] using hbefore)

theorem heardFrame_take {c : Instr} {f : TakeFrame} (hwf : c.wellFormed = true) (h : heardFrame c = some (.take f)) :
    c = .takeReception f := by
  cases c with
  | takeReception g =>
    cases h
    rfl
  | badFrame bytes =>
    simp only [Instr.wellFormed, Bool.or_eq_true, decide_eq_true_eq] at hwf
    rcases hwf with hc | hc <;> simp [heardFrame, hc] at h
  | _ => cases h

end State

/-- Settles O49. -/
theorem counterIsMovedBy : Obligations.CounterIsMovedBy := by
  intro c s t hwf hexec
  rw [State.after_eq hexec]
  have heq {t : State} (h : t.time = s.time) : s.CounterMoves c t := State.counterMoves_of_eq h
  have heq' {t : State} (h : t.time.counter = s.time.counter) : s.CounterMoves c t := fun hne => absurd h hne
  refine State.after_cases (P := fun t => s.CounterMoves c t) c s (idle := heq rfl)
    (reset := fun h _ => Or.inl h)
    (release := fun _ _ _ _ => heq (by simp))
    (read := fun _ _ _ _ _ => heq (by simp))
    (sample := fun _ _ _ _ => heq (by simp))
    (window := fun _ _ => heq (by simp))
    (edge := fun _ _ _ _ _ => heq (by simp))
    (request := fun _ _ _ _ _ => heq (by simp))
    (normalPulse := fun _ _ => heq rfl)
    (restartPulse := fun _ _ => heq rfl)
    (restart := fun _ => heq (by simp))
    (detection := fun _ _ _ => heq' (by simp [State.detectRestart]))
    (trgRelease := fun _ _ _ _ => heq' (State.releaseTrg_time s))
    (listen := fun _ _ _ _ => heq' (by simp [State.enterRollcall]))
    (roll := fun _ b hc hs _ => ?_)
    (hldFall := fun _ hc hs _ => ?_)
    (turn := fun _ _ => heq (by simp))
    (close := fun _ _ _ => heq (by simp))
    (datIdle := fun _ _ => heq (by simp))
    (contention := fun _ _ => heq (by simp))
    (lost := fun _ _ _ => heq (by simp))
    (abandoned := fun _ _ f _ => heq (by simp))
    (discard := fun _ _ k => heq (by simp))
    (received := fun _ _ f hf hv => ?_)
    (taking := fun _ _ _ => heq (by simp))
    (read_window := fun _ _ _ _ => heq (by simp))
    (clear := fun _ h => heq (by simp))
    (ack := fun _ h => heq (by simp))
    (write := fun _ => heq (by simp))
    (tick := fun _ hc _ => Or.inr (Or.inl hc))
  · unfold State.meetRoll
    split
    · exact heq (by simp)
    · exact State.epoch_moves hs (Or.inr ⟨b, hc⟩)
  · exact State.epoch_moves hs (Or.inl hc)
  · intro hne
    obtain hstays | ⟨g, rfl, haligns⟩ := State.received_time hv s
    · exact absurd hstays hne
    · exact Or.inr (Or.inr (Or.inr ⟨g, State.heardFrame_take hwf hf, haligns⟩))

end Sys2Proof.Machine
end

section
/-! What a part and a SKIP do to the roster (R55 to R57, R63, R81, R82), and that no command lowers a finished-through
mark but those of R48. -/
namespace Sys2Proof.Machine

namespace State
variable {s t u : State}

/-! ## Learning and the marks of a part -/

/-- R79, R38, R81: the station as a part or SKIP for `n` from or about `m` finds it: the trunk's count shown, `m` learned. -/
def heardFrom (m : Addr) (n : Nat) (s : State) : State := (s.hearEvent n).hearMember m n

theorem isMember_eq (m : Addr) (s : State) : s.isMember m = (s.entry m).isMember := rfl

theorem learn_entry (m : Addr) (n : Nat) (s : State) : (s.learn m n).entry m =
    if (s.entry m).state = .absent ∧ s.ownsEntry m = false then
      { s.entry m with
        state := .present, role := some .acquirer, misses := 0
        mark := max (s.mark m) ((s.entryBelow n).getD 0) }
    else s.entry m := by
  unfold learn
  dsimp only
  simp only [Bool.and_eq_true, decide_eq_true_eq, Bool.not_eq_true']
  split
  · rw [entry_setEntry, if_pos rfl]
    rfl
  · rfl

theorem heardFrom_roster (m : Addr) (n : Nat) (s : State) :
    (s.heardFrom m n).roster = ((s.hearEvent n).learn m n).roster := by
  simp [heardFrom, State.hearMember]

theorem heardFrom_entry_of_ne {m a : Addr} (ha : a ≠ m) (n : Nat) (s : State) : (s.heardFrom m n).entry a = s.entry a := by
  have hevent : (s.hearEvent n).entry a = s.entry a := entry_of_roster (by simp) a
  rw [← hevent, entry_of_roster (heardFrom_roster m n s)]
  unfold learn
  dsimp only
  split
  · rw [entry_setEntry, if_neg ha]
  · rfl

theorem heardFrom_entry_self (m : Addr) (n : Nat) (s : State) : (s.heardFrom m n).entry m =
    if (s.entry m).state = .absent ∧ s.ownsEntry m = false then
      { s.entry m with
        state := .present, role := some .acquirer, misses := 0
        mark := max (s.mark m) (((s.hearEvent n).entryBelow n).getD 0) }
    else s.entry m := by
  have hevent : (s.hearEvent n).entry m = s.entry m := entry_of_roster (by simp) m
  have howns : (s.hearEvent n).ownsEntry m = s.ownsEntry m := by simp [ownsEntry, isCollector]
  have hmark : (s.hearEvent n).mark m = s.mark m := congrArg RosterEntry.mark hevent
  rw [entry_of_roster (heardFrom_roster m n s), learn_entry, hevent, howns, hmark]

theorem heeds_eq (m : Addr) (s : State) :
    s.heeds m = (s.isMember m || decide ((s.entry m).state = .absent ∧ s.ownsEntry m = false)) := by
  unfold heeds ownsEntry
  cases s.isMember m <;> simp

theorem not_member_of_absent {e : RosterEntry} (h : e.state = .absent) : e.isMember = false := by
  simp [RosterEntry.isMember, h]

/-- R81: the entry of a member, and of one learned, as the owners find it. -/
theorem heardFrom_entry {m : Addr} (h : s.heeds m = true) (n : Nat) :
    (s.heardFrom m n).entry m = { s.heardEntry m with mark := (s.heardFrom m n).mark m } := by
  rw [mark, heardFrom_entry_self]
  unfold heardEntry
  by_cases ha : (s.entry m).state = .absent
  · rw [heeds_eq, isMember_eq, not_member_of_absent ha] at h
    simp only [Bool.false_or, decide_eq_true_eq] at h
    rw [if_pos h, if_pos ha]
  · rw [if_neg fun h => ha h.1, if_neg ha]

/-- R81: no other entry is learned. -/
theorem heardFrom_entry_of_not_heeds {m : Addr} (h : s.heeds m = false) (n : Nat) :
    (s.heardFrom m n).entry m = s.entry m := by
  rw [heeds_eq, Bool.or_eq_false_iff, decide_eq_false_iff_not] at h
  rw [heardFrom_entry_self, if_neg h.2]

theorem heardFrom_isMember (m : Addr) (n : Nat) (s : State) : (s.heardFrom m n).isMember m = s.heeds m := by
  rw [heeds_eq, isMember_eq, heardFrom_entry_self]
  split
  · next h => simp [RosterEntry.isMember, h]
  · next h => simp [isMember_eq, h]

theorem heardFrom_mark_le (m : Addr) (n : Nat) (s : State) : s.mark m ≤ (s.heardFrom m n).mark m := by
  rw [mark, mark, heardFrom_entry_self]
  split
  · exact Nat.le_max_left _ _
  · exact le_rfl

theorem heardFrom_mark_of_member {m : Addr} (h : s.isMember m = true) (n : Nat) :
    (s.heardFrom m n).entry m = s.entry m := by
  rw [heardFrom_entry_self, if_neg]
  rintro ⟨ha, -⟩
  rw [isMember_eq, not_member_of_absent ha] at h
  cases h

theorem entryBelow_lt {n : Nat} (hn : 0 < n) (s : State) : (s.entryBelow n).getD 0 < n := by
  cases h : s.entryBelow n with
  | none => exact hn
  | some k =>
    obtain ⟨e, he, rfl⟩ := Option.map_eq_some_iff.mp h
    simpa using (List.mem_filter.mp (List.mem_of_getLast? he)).2

theorem heardFrom_mark_lt {m : Addr} {n : Nat} (h : s.mark m < n) : (s.heardFrom m n).mark m < n := by
  rw [mark, heardFrom_entry_self]
  split
  · exact Nat.max_lt.mpr ⟨h, entryBelow_lt (by omega) _⟩
  · exact h

/-! ## Current parts -/

theorem entry_raiseMarks (b : Addr) (n : Nat) (l : List Addr) (s : State) :
    (l.foldl (fun s a => s.raiseMark a n) s).entry b
      = if b ∈ l then { s.entry b with mark := max (s.mark b) n } else s.entry b := by
  induction l generalizing s with
  | nil => simp
  | cons a l ih =>
    rw [List.foldl_cons, ih, mark, entry_raiseMark]
    by_cases ha : b = a
    · subst ha
      simp [mark]
    · simp [ha, mark]

theorem passImplied_entry (m : Addr) (n : Nat) (b : Addr) (s : State) : (s.passImplied m n).entry b =
    if b = m then { s.entry b with mark := max (s.mark b) ((s.entryBelow n).getD 0) }
    else if s.isMember b = true ∧ b < m then { s.entry b with mark := max (s.mark b) n }
    else s.entry b := by
  have hmem (a : Addr) : a ∈ s.order.filter (· < m) ↔ s.isMember a = true ∧ a < m := by
    rw [List.mem_filter, mem_order, isMember_eq, decide_eq_true_eq]
  have hout : ¬ m ∈ s.order.filter (· < m) := fun h => absurd ((hmem m).mp h).2 (lt_irrefl m)
  unfold passImplied
  dsimp only
  rw [entry_raiseMark, mark, entry_raiseMarks, entry_raiseMarks]
  by_cases hb : b = m
  · rw [if_pos hb, if_pos hb, if_neg hout, hb]
    rfl
  · rw [if_neg hb, if_neg hb]
    exact if_congr (hmem b) rfl rfl

/-- R56, R57: the roster after a current part. -/
theorem currentPart_entry (f : FragFrame) (a : Addr) (s : State) : (s.currentPart f).entry a =
    if a = f.sender then
      if f.last then { s.entry a with mark := f.number.toNat, misses := 0 }
      else { s.entry a with mark := max (s.mark a) ((s.entryBelow f.number.toNat).getD 0) }
    else if s.isMember a = true ∧ a < f.sender then { s.entry a with mark := max (s.mark a) f.number.toNat }
    else s.entry a := by
  unfold currentPart
  dsimp only
  split
  · next hl =>
    rw [entry_of_roster (reassess_frame _).2.2.2.2.2.2.1, finishPart, entry_setEntry]
    by_cases ha : a = f.sender
    · rw [if_pos ha, if_pos ha, passImplied_entry, if_pos rfl, ha]
    · rw [if_neg ha, if_neg ha, passImplied_entry, if_neg ha]
  · rw [entry_of_roster (s := s.passImplied f.sender f.number.toNat) (by simp), passImplied_entry]

/-! ## The owners of a part -/

/-- R55: the marks of a part: none of a non-member's, LATE_FRAGS of a late one, the current ones moved. -/
def partCounted (f : FragFrame) (s : State) : State :=
  if !s.isMember f.sender then s
  else if f.number.toNat ≤ s.mark f.sender then s.bump .lateFrags
  else s.currentPart f

/-- R55, R15, R16: a part before the build unit has it. -/
def partTaken (own : Bool) (f : FragFrame) (s : State) : State :=
  if own then ((s.heardFrom f.sender f.number.toNat).partCounted f).storePart f
  else (s.heardFrom f.sender f.number.toNat).partCounted f

/-- R94: the part reaches the build unit. -/
def partReaches (f : FragFrame) (s : State) : Bool :=
  s.isMember f.sender && !decide (f.number.toNat ≤ s.mark f.sender) || (s.entry f.sender).heardOutside

theorem handleFrag_of_tracks (own : Bool) (f : FragFrame) (h : s.tracks = true) : s.handleFrag own f =
    if (s.heardFrom f.sender f.number.toNat).partReaches f then
      (s.partTaken own f).buildFrame f.number.toNat ((s.hearEvent f.number.toNat).takeTime f.number.toNat)
        (State.applyPart f)
    else s.partTaken own f := by
  unfold handleFrag partTaken partCounted partReaches heardFrom
  simp only [h, Bool.not_true, Bool.false_eq_true, if_false]
  generalize (s.hearEvent f.number.toNat).hearMember f.sender f.number.toNat = u
  cases hm : u.isMember f.sender <;> simp

/-- The store and the build unit leave the roster alone. -/
theorem handleFrag_roster (own : Bool) (f : FragFrame) (h : s.tracks = true) :
    (s.handleFrag own f).roster = ((s.heardFrom f.sender f.number.toNat).partCounted f).roster := by
  rw [handleFrag_of_tracks own f h]
  unfold partTaken
  (repeat' split) <;> simp

theorem skipHeard_entry (own : Bool) (f : SkipFrame) (a : Addr) (s : State) :
    (s.skipHeard own f).entry a = (s.heardFrom f.subject f.number.toNat).entry a := by
  refine entry_of_roster ?_ a
  unfold skipHeard heardFrom
  split <;> simp

/-- R63: whether a SKIP takes effect. -/
def skipCounts (f : SkipFrame) (s : State) : Bool :=
  s.heeds f.subject && (s.heardFrom f.subject f.number.toNat).mark f.subject < f.number.toNat

theorem handleSkip_eq (own : Bool) (f : SkipFrame) (h : s.tracks = true) : s.handleSkip own f =
    if s.skipCounts f then
      ((s.skipHeard own f).skipTurn f.subject f.number.toNat).reassess.buildFrame f.number.toNat
        ((s.hearEvent f.number.toNat).takeTime f.number.toNat) (State.applySkip f)
    else s.skipHeard own f := by
  rw [handleSkip_of_tracks own f h, isMember_eq, mark, skipHeard_entry, ← isMember_eq, heardFrom_isMember]
  rfl

theorem missTurn_entry (m : Addr) (n : Nat) (a : Addr) (s : State) : (s.missTurn m n).entry a =
    if a = m then { s.entry a with
      mark := n, misses := (s.entry a).misses + 1
      state := if s.config.misslim ≤ (s.entry a).misses + 1 then .silent else (s.entry a).state }
    else s.entry a := by
  rw [missTurn, entry_setEntry]
  by_cases ha : a = m
  · rw [if_pos ha, if_pos ha, ha]
  · rw [if_neg ha, if_neg ha]

/-- R63, R82: the roster after a SKIP. -/
theorem handleSkip_entry (own : Bool) (f : SkipFrame) (h : s.tracks = true) (a : Addr) : (s.handleSkip own f).entry a =
    if s.skipCounts f = true ∧ a = f.subject then { (s.heardFrom f.subject f.number.toNat).entry a with
      mark := f.number.toNat, misses := ((s.heardFrom f.subject f.number.toNat).entry a).misses + 1
      state := if s.config.misslim ≤ ((s.heardFrom f.subject f.number.toNat).entry a).misses + 1 then .silent
        else ((s.heardFrom f.subject f.number.toNat).entry a).state }
    else (s.heardFrom f.subject f.number.toNat).entry a := by
  have hconfig : (s.skipHeard own f).config = s.config := by
    unfold skipHeard
    split <;> simp
  rw [handleSkip_eq own f h]
  by_cases hc : s.skipCounts f = true
  · rw [if_pos hc, entry_of_roster (s := (s.skipHeard own f).missTurn f.subject f.number.toNat)
      (by simp [RosterKept.skipTurn_roster]), missTurn_entry, skipHeard_entry, hconfig]
    simp only [hc, true_and]
  · rw [if_neg hc, if_neg fun h => hc h.1, skipHeard_entry]

/-- R48: no finished-through mark falls from `s` to `t`. -/
def MarksRise (s t : State) : Prop := ∀ a : Addr, s.mark a ≤ t.mark a

theorem mark_of_roster (h : t.roster = s.roster) (a : Addr) : t.mark a = s.mark a := by
  rw [mark, mark, entry_of_roster h]

namespace MarksRise

theorem of_roster (h : t.roster = s.roster) : s.MarksRise t := fun a => (mark_of_roster h a).ge

theorem refl (s : State) : s.MarksRise s := fun _ => le_rfl

theorem trans (h : s.MarksRise t) (k : t.MarksRise u) : s.MarksRise u := fun a => (h a).trans (k a)

theorem setEntry {a : Addr} {e : RosterEntry} (h : s.mark a ≤ e.mark) (s' : State) (hs : s' = s.setEntry a e) :
    s.MarksRise s' := fun b => by
  rw [hs, mark, mark, entry_setEntry]
  split
  · next hb => exact hb ▸ h
  · exact le_rfl

theorem heardFrom (m : Addr) (n : Nat) (s : State) : s.MarksRise (s.heardFrom m n) := fun a => by
  by_cases ha : a = m
  · exact ha ▸ heardFrom_mark_le a n s
  · exact (congrArg RosterEntry.mark (heardFrom_entry_of_ne ha n s)).ge

/-- R56, R57: the sender's mark is below the number of its current part. -/
theorem currentPart {f : FragFrame} (hn : s.mark f.sender < f.number.toNat) : s.MarksRise (s.currentPart f) := fun a => by
  rw [mark, mark, currentPart_entry]
  by_cases ha : a = f.sender
  · rw [if_pos ha]
    split
    · exact (ha ▸ hn).le
    · exact Nat.le_max_left _ _
  · rw [if_neg ha]
    split
    · exact Nat.le_max_left _ _
    · exact le_rfl

theorem partCounted (f : FragFrame) (s : State) : s.MarksRise (s.partCounted f) := by
  unfold State.partCounted
  split
  · exact refl s
  · split
    · exact of_roster (by simp)
    · next h => exact currentPart (Nat.lt_of_not_le h)

theorem handleFrag (own : Bool) (f : FragFrame) (h : s.tracks = true) : s.MarksRise (s.handleFrag own f) :=
  (heardFrom f.sender f.number.toNat s).trans
    ((partCounted f _).trans (of_roster (handleFrag_roster own f h)))

theorem handleSkip (own : Bool) (f : SkipFrame) (h : s.tracks = true) : s.MarksRise (s.handleSkip own f) := by
  refine (heardFrom f.subject f.number.toNat s).trans fun a => ?_
  rw [mark, mark, handleSkip_entry own f h]
  split
  · next hc =>
    obtain ⟨hc, rfl⟩ := hc
    simp only [skipCounts, Bool.and_eq_true, decide_eq_true_eq] at hc
    exact hc.2.le
  · exact le_rfl

theorem modifyEntry {g : RosterEntry → RosterEntry} (hg : ∀ e : RosterEntry, e.mark ≤ (g e).mark) (a : Addr) (s : State) :
    s.MarksRise (s.modifyEntry a g) := setEntry (hg _) _ rfl

theorem hearRoll {g : RosterEntry → RosterEntry} (hg : ∀ e : RosterEntry, e.mark ≤ (g e).mark) (a : Addr) (s : State) :
    s.MarksRise (s.hearRoll a g) := by
  unfold State.hearRoll
  split
  · exact refl s
  · exact modifyEntry hg a s

theorem ownRoll (f : RollFrame) (s : State) : s.MarksRise (s.ownRoll f) := by
  have joined : s.MarksRise (s.modifyEntry f.sender (RosterEntry.joined f)) :=
    modifyEntry (fun e => Nat.le_max_left _ _) _ s
  unfold State.ownRoll
  split
  · exact refl s
  · unfold ownJoin
    dsimp only
    split
    · exact joined.trans (of_roster (by simp))
    · exact joined
  · refine modifyEntry (fun e => ?_) _ s
    unfold RosterEntry.echoed
    split <;> exact le_rfl

end MarksRise

/-- R76: the mark of a PRESENT member's CALL alone falls. -/
def CallClears (f : Frame) (a : Addr) (s t : State) : Prop :=
  ∃ r, f = .roll r ∧ r.mode = .call ∧ r.sender = a ∧ (s.entry a).state = .present ∧ t.mark a = 0

theorem called_marks (f : RollFrame) (a : Addr) (s : State) :
    s.mark a ≤ (s.hearRoll f.sender (RosterEntry.called f)).mark a
      ∨ f.sender = a ∧ (s.entry a).state = .present ∧ (s.hearRoll f.sender (RosterEntry.called f)).mark a = 0 := by
  unfold hearRoll
  split
  · exact Or.inl le_rfl
  · rw [mark, mark, modifyEntry, entry_setEntry]
    split
    · next ha =>
      subst ha
      cases hs : (s.entry f.sender).state <;> simp [RosterEntry.called, hs, RosterEntry.withRoll]
    · exact Or.inl le_rfl

theorem otherRoll_marks (f : RollFrame) (a : Addr) (s : State) :
    s.mark a ≤ (s.otherRoll f).mark a ∨ s.CallClears (.roll f) a (s.otherRoll f) := by
  have hechoed (e : RosterEntry) : e.mark ≤ (RosterEntry.echoed f e).mark := by
    unfold RosterEntry.echoed
    split <;> exact le_rfl
  have mismatched : s.MarksRise (s.mismatch f) := by
    have hheard : s.MarksRise (s.hearRoll f.sender (RosterEntry.mismatched f)) := MarksRise.hearRoll (g := RosterEntry.mismatched f) (fun _ => le_rfl) _ s
    unfold mismatch
    dsimp only
    split
    · exact hheard
    · exact hheard.trans (MarksRise.of_roster (by simp))
  have raised (n : Nat) : s.MarksRise (s.raiseHighTake n) := MarksRise.of_roster (by simp)
  unfold otherRoll
  dsimp only
  split
  · split
    · exact Or.inl (mismatched.trans (MarksRise.of_roster (by simp)) a)
    · exact Or.inl (mismatched a)
  · split
    · next hmode =>
      have hoffer : (((s.hearRoll f.sender (RosterEntry.called f)).offerEcho).mark a)
          = (s.hearRoll f.sender (RosterEntry.called f)).mark a := mark_of_roster (by simp) a
      obtain hrise | ⟨hsender, hpresent, hzero⟩ := called_marks f a s
      · exact Or.inl (hoffer ▸ hrise)
      · exact Or.inr ⟨f, rfl, hmode, hsender, hpresent, hoffer.trans hzero⟩
    · exact Or.inl ((raised _).trans (MarksRise.hearRoll (fun e => Nat.le_max_left _ _) _ _) a)
    · have hheard := (raised (joinMark f.field)).trans (MarksRise.hearRoll hechoed f.sender _)
      exact Or.inl (hheard.trans (MarksRise.of_roster (by simp)) a)

theorem giveOwners_marks (own : Bool) (f : Frame) (hs : s.start.station ≠ .rollcall) (a : Addr) :
    s.mark a ≤ (s.giveOwners own f).mark a ∨ s.CallClears f a (s.giveOwners own f) := by
  unfold giveOwners
  cases f with
  | take x =>
    dsimp only
    split
    · exact Or.inl (MarksRise.of_roster (by simp) a)
    · exact Or.inl le_rfl
  | frag x =>
    dsimp only
    by_cases ht : s.tracks = true
    · exact Or.inl (MarksRise.handleFrag own x ht a)
    · exact Or.inl (by simp [handleFrag, ht])
  | skip x =>
    dsimp only
    by_cases ht : s.tracks = true
    · exact Or.inl (MarksRise.handleSkip own x ht a)
    · exact Or.inl (by simp [handleSkip, ht])
  | roll x =>
    dsimp only
    unfold handleRoll
    rw [if_neg hs]
    split
    · exact Or.inl le_rfl
    · split
      · exact Or.inl (MarksRise.ownRoll x s a)
      · exact otherRoll_marks x a s

/-- R86: a clash takes no station that tracks to LISTENING or ROLLCALL. -/
theorem clashCheck_station (own : Bool) (f : Frame) (h : s.tracks = true) :
    (s.clashCheck own f).start.station ≠ .listening ∧ (s.clashCheck own f).start.station ≠ .rollcall := by
  have hs : s.start.station ≠ .listening ∧ s.start.station ≠ .rollcall := by
    constructor <;> intro hs <;> simp [tracks, hs] at h
  refine clashCheck_cases (P := fun t => t.start.station ≠ .listening ∧ t.start.station ≠ .rollcall) own f hs
    fun _ _ _ => ?_
  unfold giveUpSending
  split
  · simp
  · rw [takeMuteAttr_station]
    split <;> simp [hs]

theorem received_marks (f : Frame) (h : s.tracks = true) (a : Addr) :
    s.mark a ≤ (s.received f).mark a ∨ s.CallClears f a (s.received f) := by
  have hframes := s.ended_eq f
  have htracks : (s.ended f).tracks = true := by rw [hframes]; exact h
  have hroster : ((s.ended f).clashCheck (s.isOwn f) f).roster = s.roster := by
    rw [hframes]
    simp
  obtain ⟨hlisten, hcall⟩ := clashCheck_station (s := s.ended f) (s.isOwn f) f htracks
  have hreceived : s.received f = (s.ended f).handleFrame (s.isOwn f) f := rfl
  rw [hreceived]
  refine handleFrame_cases (P := fun t => s.mark a ≤ t.mark a ∨ s.CallClears f a t) (s.isOwn f) f _
    (Or.inl (mark_of_roster hroster a).ge) fun _ => ?_
  have hleave : ((s.ended f).clashCheck (s.isOwn f) f).leaveListening f = (s.ended f).clashCheck (s.isOwn f) f := by
    unfold leaveListening
    exact if_neg hlisten
  rw [hleave]
  have hmarks := giveOwners_marks (s.isOwn f) f hcall a
  unfold CallClears at hmarks ⊢
  have hsettle (t : State) (l : List Addr) : (t.settle l).mark a = t.mark a := mark_of_roster (by simp) a
  rwa [hsettle, ← mark_of_roster hroster a, ← entry_of_roster hroster a]

theorem heardFrame_roll {c : Instr} {f : RollFrame} (hwf : c.wellFormed = true) (h : heardFrame c = some (.roll f)) :
    c = .rollReception f := by
  cases c with
  | rollReception g =>
    cases h
    rfl
  | badFrame bytes =>
    simp only [Instr.wellFormed, Bool.or_eq_true, decide_eq_true_eq] at hwf
    rcases hwf with hc | hc <;> simp [heardFrame, hc] at h
  | _ => cases h

end State

/-- Settles O50. -/
theorem marksNeverDecrease : Obligations.MarksNeverDecrease := by
  intro c s t hwf htracks hexec hreset hdetect htrg a
  rw [State.after_eq hexec]
  have heq {t : State} (h : t.roster = s.roster) : s.mark a ≤ t.mark a ∨ ∃ f, c = .rollReception f ∧ f.mode = .call
      ∧ f.sender = a ∧ (s.entry a).state = .present ∧ t.mark a = 0 := Or.inl (State.mark_of_roster h a).ge
  have hstation : s.start.station ≠ .listening ∧ s.start.station ≠ .rollcall := by
    constructor <;> intro hs <;> simp [State.tracks, hs] at htracks
  refine State.after_cases (P := fun t => s.mark a ≤ t.mark a ∨ ∃ f, c = .rollReception f ∧ f.mode = .call
      ∧ f.sender = a ∧ (s.entry a).state = .present ∧ t.mark a = 0) c s (idle := heq rfl)
    (reset := fun h => absurd h hreset)
    (release := fun _ _ _ _ => heq (by simp))
    (read := fun _ _ _ _ _ => heq (by simp))
    (sample := fun _ _ _ _ => heq (by simp))
    (window := fun _ _ => heq (by simp))
    (edge := fun _ _ _ _ _ => heq (by simp))
    (request := fun _ _ _ _ _ => heq (by simp))
    (normalPulse := fun _ _ => heq rfl)
    (restartPulse := fun _ _ => heq rfl)
    (restart := fun _ => heq (by simp))
    (detection := fun _ h _ => absurd h hdetect)
    (trgRelease := fun _ h _ _ => absurd h htrg)
    (listen := fun _ _ h _ => absurd h hstation.1)
    (roll := fun _ _ _ h _ => absurd h hstation.2)
    (hldFall := fun _ _ h _ => absurd h hstation.2)
    (turn := fun _ _ => heq (by simp))
    (close := fun _ _ _ => heq (by simp))
    (datIdle := fun _ _ => heq (by simp))
    (contention := fun _ _ => heq (by simp))
    (lost := fun _ _ _ => heq (by simp))
    (abandoned := fun _ _ f _ => heq (by simp))
    (discard := fun _ _ k => heq (by simp))
    (received := fun _ _ f hf hv => ?_)
    (taking := fun _ _ _ => heq (by simp))
    (read_window := fun _ _ _ _ => heq (by simp))
    (clear := fun _ h => heq (by simp))
    (ack := fun _ h => heq (by simp))
    (write := fun _ => heq (by simp))
    (tick := fun _ hc => heq (by simp))
  obtain hrise | ⟨r, rfl, hmode, hsender, hpresent, hzero⟩ := State.received_marks f htracks a
  · exact Or.inl hrise
  · exact Or.inr ⟨r, State.heardFrame_roll hwf hf, hmode, hsender, hpresent, hzero⟩

end Sys2Proof.Machine
end

section
/-! What a part or a SKIP shows of the trunk's count (R38, R39, R79, R33). -/
namespace Sys2Proof.Machine

namespace State
variable {s t u : State}

/-! ## The implied take -/

/-- R38: the lowest mark of a member is below `n`. -/
theorem lowestMark_lt (n : Nat) (s : State) :
    (∃ a : Addr, s.isMember a = true ∧ s.mark a < n) ↔ ∃ low, s.lowestMark = some low ∧ low < n := by
  unfold lowestMark
  constructor
  · rintro ⟨a, ha, hlt⟩
    have hmem : s.mark a ∈ s.order.map s.mark := List.mem_map_of_mem (mem_order.mpr ha)
    obtain ⟨low, hlow⟩ : ∃ low, (s.order.map s.mark).min? = some low := by
      cases hmin : (s.order.map s.mark).min? with
      | none => rw [List.min?_eq_none_iff.mp hmin] at hmem; cases hmem
      | some low => exact ⟨low, rfl⟩
    exact ⟨low, hlow, lt_of_le_of_lt ((List.min?_eq_some_iff.mp hlow).2 _ hmem) hlt⟩
  · rintro ⟨low, hlow, hlt⟩
    obtain ⟨a, ha, hmark⟩ := List.mem_map.mp (List.min?_eq_some_iff.mp hlow).1
    exact ⟨a, mem_order.mp ha, hmark ▸ hlt⟩

/-- R38: the implied-take check for an event that is listed or that every member has finished changes nothing. -/
theorem impliedTake_of_listed {n : Nat} (h : ¬ s.Unlisted n) : s.impliedTake n = s := by
  unfold impliedTake
  split
  · rfl
  · next low hlow =>
    rw [if_pos]
    by_contra hc
    simp only [Bool.or_eq_true, decide_eq_true_eq, not_or, Nat.not_le, Bool.not_eq_true] at hc
    exact h ⟨hc.1, (lowestMark_lt n s).mpr ⟨low, hlow, hc.2⟩⟩

/-- R38: the check for an unlisted event, in its order. -/
theorem impliedTake_of_unlisted {n : Nat} (h : s.Unlisted n) : s.impliedTake n =
    if 64 ≤ s.agree.takeList.length then s.refuseTake n
    else if s.awaitsOwnTake n then s
    else s.setAgree { s.agree with
      takeList := insertTake { number := n, time := none } s.agree.takeList
      highTake := max s.agree.highTake n } := by
  obtain ⟨hlisted, hmember⟩ := h
  obtain ⟨low, hlow, hlt⟩ := (lowestMark_lt n s).mp hmember
  unfold impliedTake
  rw [hlow]
  dsimp only
  rw [if_neg]
  · rfl
  · simp [hlisted, hlt]

theorem awaitsOwnTake_iff (n : Nat) (s : State) : s.awaitsOwnTake n = true
    ↔ s.isAcquirer = true ∧ ∃ p ∈ s.agree.pendingTakes.head?, p.number ≤ n := by
  unfold awaitsOwnTake
  cases s.agree.pendingTakes <;> simp

theorem refuseTake_counters (n : Nat) (s : State) : (s.refuseTake n).insp.counters = s.insp.counters := by
  unfold refuseTake
  split <;> rfl

/-- R38, R33: what the check does to the list, the high take, the refusal reason and the fault record. -/
theorem impliedTake_effects (n : Nat) (s : State) :
    (s.impliedTake n).agree.takeList = (if s.Implies n then insertTake { number := n, time := none } s.agree.takeList
        else s.agree.takeList)
      ∧ (s.impliedTake n).agree.highTake = max s.agree.highTake (if s.Implies n then n else 0)
      ∧ (s.impliedTake n).agree.listFull
        = (s.agree.listFull || decide (s.Unlisted n ∧ 64 ≤ s.agree.takeList.length))
      ∧ (s.impliedTake n).insp.faults = s.refusalFaults n
      ∧ (s.impliedTake n).insp.counters = s.insp.counters := by
  by_cases hu : s.Unlisted n
  · rw [impliedTake_of_unlisted hu]
    by_cases hfull : 64 ≤ s.agree.takeList.length
    · have hno : ¬ s.Implies n := fun h => absurd h.2.1 (Nat.not_lt.mpr hfull)
      obtain ⟨rlist, rhigh, rfull, -⟩ := s.refuseTake_list n
      obtain ⟨raised, rstays⟩ := s.refuseTake_faults n
      rw [refusalFaults, if_pos hfull, rlist, rhigh, rfull, refuseTake_counters, if_neg hno, if_neg hno]
      refine ⟨rfl, (Nat.max_zero _).symm, by simp [hu, hfull], ?_, rfl⟩
      cases hl : s.agree.listFull with
      | true => simp [rstays hl]
      | false =>
        rw [if_pos ⟨hu, hfull, rfl⟩]
        exact raised hl
    · have hroom := Nat.lt_of_not_le hfull
      have hstands : s.refusalFaults n = s.insp.faults := if_neg fun h => hfull h.2.1
      rw [if_neg hfull, hstands]
      by_cases hawait : s.awaitsOwnTake n = true
      · have hno : ¬ s.Implies n := fun h => h.2.2 ((awaitsOwnTake_iff n s).mp hawait)
        rw [if_pos hawait, if_neg hno, if_neg hno]
        exact ⟨rfl, (Nat.max_zero _).symm, by simp [hfull], rfl, rfl⟩
      · have hyes : s.Implies n := ⟨hu, hroom, fun h => hawait ((awaitsOwnTake_iff n s).mpr h)⟩
        rw [if_neg hawait, if_pos hyes, if_pos hyes]
        exact ⟨rfl, rfl, by simp [hfull], rfl, rfl⟩
  · have hno : ¬ s.Implies n := fun h => hu h.1
    rw [impliedTake_of_listed hu, refusalFaults, if_neg hno, if_neg hno, if_neg fun h => hu h.1]
    exact ⟨rfl, (Nat.max_zero _).symm, by simp [hu], rfl, rfl⟩

/-- R38, R79: the same of the whole of what an event number shows. -/
theorem hearEvent_effects (n : Nat) (s : State) :
    (s.hearEvent n).agree.takeList = (if s.Implies n then insertTake { number := n, time := none } s.agree.takeList
        else s.agree.takeList)
      ∧ (s.hearEvent n).agree.highTake
        = max (if s.start.station = .joining then max s.agree.highTake (n - 1) else s.agree.highTake)
          (if s.Implies n then n else 0)
      ∧ (s.hearEvent n).agree.listFull
        = (s.agree.listFull || decide (s.Unlisted n ∧ 64 ≤ s.agree.takeList.length))
      ∧ (s.hearEvent n).insp.faults = s.refusalFaults n
      ∧ (s.hearEvent n).insp.counters = s.insp.counters := by
  have h := (s.raiseHighTake (n - 1)).impliedTake_effects n
  unfold hearEvent
  unfold raiseHighTake at h ⊢
  split
  · next hs =>
    rw [if_pos hs] at h
    exact h
  · next hs =>
    rw [if_neg hs] at h
    exact h

/-- R32: the place of a new entry in an ascending list. -/
theorem insertTake_eq {e : TakeEntry} {l : List TakeEntry} (h : ascending (l.map (·.number)))
    (hn : ∀ x ∈ l, x.number ≠ e.number) : insertTake e l
      = l.filter (fun x => x.number < e.number) ++ [e] ++ l.filter (fun x => e.number < x.number) := by
  induction l with
  | nil => rfl
  | cons x l ih =>
    have hx : ∀ y ∈ l, x.number < y.number := fun y hy =>
      (List.pairwise_cons.mp h).1 y.number (List.mem_map_of_mem hy)
    have htail : ascending (l.map (·.number)) := (List.pairwise_cons.mp h).2
    unfold insertTake
    by_cases hlt : e.number < x.number
    · have hbelow : (x :: l).filter (fun y => y.number < e.number) = [] := by
        refine List.filter_eq_nil_iff.mpr fun y hy => ?_
        rcases List.mem_cons.mp hy with rfl | hy
        · simpa using hlt.le
        · simpa using (hlt.trans (hx y hy)).le
      have habove : (x :: l).filter (fun y => e.number < y.number) = x :: l := by
        refine List.filter_eq_self.mpr fun y hy => ?_
        rcases List.mem_cons.mp hy with rfl | hy
        · simpa using hlt
        · simpa using hlt.trans (hx y hy)
      rw [if_pos hlt, hbelow, habove]
      rfl
    · have hgt : x.number < e.number :=
        lt_of_le_of_ne (Nat.le_of_not_lt hlt) (hn x (List.mem_cons_self ..))
      rw [if_neg hlt, ih htail fun y hy => hn y (List.mem_cons_of_mem _ hy), List.filter_cons_of_pos (by simpa using hgt),
        List.filter_cons_of_neg (by simpa using hlt)]
      rfl

/-! ## The removals -/

/-- R39: the list of `s` as the removals in `t` leave it is that of `t`, and so is the standing of the refusal reason. -/
structure Thins (s t : State) : Prop where
  list : t.undrained t.agree.takeList = t.undrained s.agree.takeList
  full : (t.agree.listFull && decide (48 ≤ (t.undrained t.agree.takeList).length))
    = (s.agree.listFull && decide (48 ≤ (t.undrained t.agree.takeList).length))

/-- R39: what every PRESENT acquirer has finished stays finished. -/
theorem finished_mono (hmem : ∀ a, u.isMember a = true → t.isMember a = true) (hmarks : t.MarksRise u) {n : Nat}
    (h : t.finished n = true) : u.finished n = true := by
  unfold finished at h ⊢
  rw [List.all_eq_true] at h ⊢
  intro a ha
  have hle := h a (mem_order.mpr (hmem a (mem_order.mp ha)))
  simp only [decide_eq_true_eq] at hle ⊢
  exact hle.trans (hmarks a)

namespace Thins

theorem of_agree (h : t.agree = s.agree) : s.Thins t := ⟨by rw [h], by rw [h]⟩

theorem undrained_undrained (hfin : ∀ n, t.finished n = true → u.finished n = true) (l : List TakeEntry) :
    u.undrained (t.undrained l) = u.undrained l := by
  unfold undrained
  rw [List.filter_filter]
  refine List.filter_congr fun e _ => ?_
  cases ht : t.finished e.number with
  | false => simp
  | true => simp [hfin _ ht]

theorem trans (h : s.Thins t) (k : t.Thins u) (hfin : ∀ n, t.finished n = true → u.finished n = true) : s.Thins u := by
  have hlist : u.undrained u.agree.takeList = u.undrained s.agree.takeList := by
    rw [k.list, ← undrained_undrained hfin, h.list, undrained_undrained hfin]
  refine ⟨hlist, ?_⟩
  have hle : (u.undrained u.agree.takeList).length ≤ (t.undrained t.agree.takeList).length := by
    rw [k.list, ← undrained_undrained hfin]
    exact List.length_filter_le ..
  have hfull := h.full
  rw [k.full]
  by_cases h48 : 48 ≤ (u.undrained u.agree.takeList).length
  · have ht := h48.trans hle
    simpa only [ht, decide_true, Bool.and_true, h48] using hfull
  · simp [h48]

theorem reassess (s : State) : s.Thins s.reassess := by
  have hroster : s.reassess.roster = s.roster := by simp
  have hlist : s.reassess.agree.takeList = s.undrained s.agree.takeList := by simp
  have hfull : s.reassess.agree.listFull
      = (s.agree.listFull && decide (48 ≤ (s.undrained s.agree.takeList).length)) := by
    rw [reassess_agree]
    rfl
  constructor
  · unfold undrained at hlist ⊢
    rw [finished_of_roster hroster, hlist]
    exact undrained_undrained (fun _ h => h) _
  · unfold undrained at hlist hfull ⊢
    rw [finished_of_roster hroster, hlist, List.filter_filter, hfull]
    simp only [Bool.and_self, Bool.and_assoc]

end Thins

theorem unlisted_not_mem {n : Nat} (h : s.listed n = false) : ∀ e ∈ s.agree.takeList, e.number ≠ n :=
  fun e he => by simpa using List.any_eq_false.mp h e he

/-- R38, R39, R79: the count of a reception whose owners changed the list by removals alone. -/
theorem countsFrom_of_thins {n : Nat} (l : List Addr) (h : (s.hearEvent n).Thins t)
    (hhigh : t.agree.highTake = (s.hearEvent n).agree.highTake)
    (hfaults : t.insp.faults = s.refusalFaults n ∨ s.builds = true ∧ t.insp.faults = (s.refusalFaults n).enter
      { code := .buildOverflow, context := n, time := s.time.counter, state := s.time.state }) :
    s.CountsFrom (t.settle l) n := by
  obtain ⟨hlist, hhigh', hfull, -⟩ := s.hearEvent_effects n
  obtain ⟨tlist, -, -, thigh, -, tfull⟩ := t.settle_takes l
  have hroster : (t.settle l).roster = t.roster := by simp
  refine ⟨by rw [thigh, hhigh, hhigh'], fun hasc => ?_, ?_, by simpa using hfaults⟩
  · rw [tlist, h.list, hlist]
    unfold undrained
    rw [finished_of_roster hroster]
    by_cases hi : s.Implies n
    · rw [if_pos hi, if_pos hi, insertTake_eq hasc (unlisted_not_mem hi.1.1)]
    · rw [if_neg hi, if_neg hi]
  · rw [tfull, tlist, h.full, hfull]

namespace Thins

theorem congr (h : s.Thins t) (ha : u.agree = t.agree) (hr : u.roster = t.roster) : s.Thins u := by
  obtain ⟨hlist, hfull⟩ := h
  unfold undrained at hlist hfull
  constructor
  · unfold undrained
    rw [finished_of_roster hr, ha, hlist]
  · unfold undrained
    rw [finished_of_roster hr, ha, hfull]

/-- R88: a change of the roster, and the removals after it. -/
theorem reassessed (ha : t.agree = s.agree) : s.Thins t.reassess :=
  (of_agree ha).trans (reassess t) fun _ h => by rwa [finished_of_roster (s := t) (t := t.reassess) (by simp)]

theorem heardFrom (m : Addr) (n : Nat) (s : State) : (s.hearEvent n).Thins (s.heardFrom m n) :=
  reassessed (by simp)

theorem currentPart (f : FragFrame) (s : State) : s.Thins (s.currentPart f) := by
  unfold State.currentPart
  dsimp only
  split
  · refine reassessed ?_
    unfold finishPart passImplied
    simp
  · refine (reassessed (t := s.passImplied f.sender f.number.toNat) ?_).congr (by simp) (by simp)
    unfold passImplied
    simp

theorem partCounted (f : FragFrame) (s : State) : s.Thins (s.partCounted f) := by
  unfold State.partCounted
  (repeat' split)
  · exact of_agree rfl
  · exact of_agree (by simp)
  · exact currentPart f s

end Thins

theorem currentPart_isMember (f : FragFrame) (a : Addr) (s : State) : (s.currentPart f).isMember a = s.isMember a := by
  rw [isMember_eq, isMember_eq, currentPart_entry]
  (repeat' split) <;> rfl

theorem partCounted_isMember (f : FragFrame) (a : Addr) (s : State) : (s.partCounted f).isMember a = s.isMember a := by
  unfold partCounted
  (repeat' split)
  · rfl
  · exact congrArg RosterEntry.isMember (entry_of_roster (by simp) a)
  · exact currentPart_isMember f a s

/-- R39: a part's owners change the list by removals alone, after the implied take. -/
theorem handleFrag_thins (own : Bool) (f : FragFrame) (h : s.tracks = true) :
    (s.hearEvent f.number.toNat).Thins (s.handleFrag own f) := by
  have hcounted : (s.hearEvent f.number.toNat).Thins ((s.heardFrom f.sender f.number.toNat).partCounted f) :=
    (Thins.heardFrom f.sender f.number.toNat s).trans (Thins.partCounted f _) fun n => by
      refine finished_mono (fun a ha => ?_) (MarksRise.partCounted f _)
      rwa [partCounted_isMember] at ha
  have htaken : (s.partTaken own f).agree = ((s.heardFrom f.sender f.number.toNat).partCounted f).agree := by
    unfold partTaken
    split <;> simp
  refine hcounted.congr ?_ (handleFrag_roster own f h)
  rw [handleFrag_of_tracks own f h, ← htaken]
  split <;> simp

/-- R63: a SKIP's owners too. -/
theorem handleSkip_thins (own : Bool) (f : SkipFrame) (h : s.tracks = true) :
    (s.hearEvent f.number.toNat).Thins (s.handleSkip own f) := by
  have hheard : (s.hearEvent f.number.toNat).Thins (s.skipHeard own f) := by
    refine (Thins.heardFrom f.subject f.number.toNat s).congr ?_ ?_
    · unfold skipHeard heardFrom
      split <;> simp
    · unfold skipHeard heardFrom
      split <;> simp
  rw [handleSkip_eq own f h]
  split
  · next hc =>
    have hagree := skipTurn_agree f.subject f.number.toNat (s.skipHeard own f)
    have hentry (a : Addr) : ((s.skipHeard own f).skipTurn f.subject f.number.toNat).reassess.entry a
        = ((s.skipHeard own f).missTurn f.subject f.number.toNat).entry a :=
      entry_of_roster (by simp [RosterKept.skipTurn_roster]) a
    refine (hheard.trans (Thins.reassessed hagree) fun n => finished_mono (fun a ha => ?_) fun a => ?_).congr (by simp)
      (by simp)
    · rw [isMember_eq, hentry, missTurn_entry] at ha
      split at ha
      · simp only [RosterEntry.isMember, Bool.and_eq_true, decide_eq_true_eq] at ha
        obtain ⟨hstate, hrole⟩ := ha
        split at hstate
        · cases hstate
        · simp [isMember_eq, RosterEntry.isMember, hstate, hrole]
      · exact ha
    · simp only [skipCounts, Bool.and_eq_true, decide_eq_true_eq] at hc
      rw [mark, mark, hentry, missTurn_entry]
      split
      · next ha =>
        rw [ha, skipHeard_entry]
        exact hc.2.le
      · exact le_rfl
  · exact hheard

/-! ## The fault record and the counters -/

theorem buildFrame_insp {n : Nat} {stamp : Option Time} {apply : Build → State → State}
    (h : ∀ (b : Build) (t : State), (apply b t).insp.faults = t.insp.faults) (s : State) :
    (s.buildFrame n stamp apply).insp.faults = s.insp.faults ∨ s.builds = true
      ∧ (s.buildFrame n stamp apply).insp.faults = s.insp.faults.enter
        { code := .buildOverflow, context := n, time := s.time.counter, state := s.time.state } := by
  unfold buildFrame
  split
  · exact Or.inl rfl
  · next hb =>
    split
    · exact Or.inl rfl
    · split
      · split
        · exact Or.inl (h _ s)
        · exact Or.inl rfl
      · split
        · exact Or.inr ⟨by simpa using hb, rfl⟩
        · exact Or.inl (h _ _)

theorem applyPart_faults (f : FragFrame) (b : Build) (s : State) : (s.applyPart f b).insp.faults = s.insp.faults := by
  unfold applyPart
  dsimp only
  (repeat' split) <;> rfl

theorem applySkip_faults (f : SkipFrame) (b : Build) (s : State) : (s.applySkip f b).insp.faults = s.insp.faults := by
  simp

/-- R55: LATE_FRAGS is the one counter of a part before the build unit has it. -/
theorem partTaken_insp (own : Bool) (f : FragFrame) (s : State) : (s.partTaken own f).insp =
    if s.heeds f.sender = true ∧ f.number.toNat ≤ (s.heardFrom f.sender f.number.toNat).mark f.sender then
      ((s.hearEvent f.number.toNat).bump .lateFrags).insp
    else (s.hearEvent f.number.toNat).insp := by
  have hheard : (s.heardFrom f.sender f.number.toNat).insp = (s.hearEvent f.number.toNat).insp := hearMember_insp _ _ _
  have hcounted : (s.partTaken own f).insp = ((s.heardFrom f.sender f.number.toNat).partCounted f).insp := by
    unfold partTaken
    split <;> simp
  rw [hcounted]
  unfold partCounted
  rw [heardFrom_isMember]
  by_cases hm : s.heeds f.sender = true
  · by_cases hl : f.number.toNat ≤ (s.heardFrom f.sender f.number.toNat).mark f.sender
    · simp [hm, hl, bump, hheard]
    · simp [hm, hl, hheard]
  · simp [hm, hheard]

/-- DAT and the failure count are no owner's of a part. -/
theorem heardFrom_dat (m : Addr) (n : Nat) (s : State) : (s.heardFrom m n).frames.dat = s.frames.dat
    ∧ (s.heardFrom m n).frames.failures = s.frames.failures := by
  unfold heardFrom hearMember
  simp

theorem countPart_dat (m : Addr) (n : Nat) (s : State) : (s.countPart m n).frames.dat = s.frames.dat
    ∧ (s.countPart m n).frames.failures = s.frames.failures := by
  unfold countPart
  dsimp only
  (repeat' split) <;> exact ⟨rfl, rfl⟩

theorem partCounted_dat (f : FragFrame) (s : State) : (s.partCounted f).frames.dat = s.frames.dat
    ∧ (s.partCounted f).frames.failures = s.frames.failures := by
  unfold partCounted currentPart passImplied finishPart
  dsimp only
  (repeat' split) <;> simp [countPart_dat]

@[simp] theorem heardFrom_frame (m : Addr) (n : Nat) (s : State) :
    (s.heardFrom m n).pins = s.pins ∧ (s.heardFrom m n).start = s.start ∧ (s.heardFrom m n).config = s.config
      ∧ (s.heardFrom m n).trig = s.trig ∧ (s.heardFrom m n).time = s.time ∧ (s.heardFrom m n).store = s.store
      ∧ (s.heardFrom m n).build = s.build ∧ (s.heardFrom m n).port = s.port
      ∧ (s.heardFrom m n).freeIndex = s.freeIndex ∧ (s.heardFrom m n).pending = s.pending := by
  unfold heardFrom hearMember
  simp

@[simp] theorem partCounted_frame (f : FragFrame) (s : State) :
    (s.partCounted f).pins = s.pins ∧ (s.partCounted f).start = s.start ∧ (s.partCounted f).config = s.config
      ∧ (s.partCounted f).trig = s.trig ∧ (s.partCounted f).time = s.time ∧ (s.partCounted f).store = s.store
      ∧ (s.partCounted f).build = s.build ∧ (s.partCounted f).port = s.port
      ∧ (s.partCounted f).freeIndex = s.freeIndex ∧ (s.partCounted f).pending = s.pending := by
  unfold partCounted
  (repeat' split) <;> simp

theorem partTaken_frame (own : Bool) (f : FragFrame) (s : State) :
    (s.partTaken own f).pins = s.pins ∧ (s.partTaken own f).start = s.start ∧ (s.partTaken own f).config = s.config
      ∧ (s.partTaken own f).trig = s.trig ∧ (s.partTaken own f).time = s.time
      ∧ (s.partTaken own f).build = s.build ∧ (s.partTaken own f).freeIndex = s.freeIndex
      ∧ (s.partTaken own f).frames.dat = s.frames.dat ∧ (s.partTaken own f).frames.failures = s.frames.failures := by
  unfold partTaken
  split <;> simp [heardFrom_dat, partCounted_dat]

theorem partTaken_builds (own : Bool) (f : FragFrame) (s : State) : (s.partTaken own f).builds = s.builds := by
  obtain ⟨hpins, hstart, -⟩ := partTaken_frame own f s
  simp only [builds, isCollector, hpins, hstart]

theorem handleFrag_faults (own : Bool) (f : FragFrame) (h : s.tracks = true) :
    (s.handleFrag own f).insp.faults = s.refusalFaults f.number.toNat ∨ s.builds = true
      ∧ (s.handleFrag own f).insp.faults = (s.refusalFaults f.number.toNat).enter
        { code := .buildOverflow, context := f.number.toNat, time := s.time.counter, state := s.time.state } := by
  have htaken : (s.partTaken own f).insp.faults = s.refusalFaults f.number.toNat := by
    rw [partTaken_insp, ← (s.hearEvent_effects f.number.toNat).2.2.2.1]
    split <;> rfl
  obtain ⟨hbuilds, htime⟩ : (s.partTaken own f).builds = s.builds ∧ (s.partTaken own f).time = s.time := by
    obtain ⟨-, hstart, -, -, htime, -⟩ := partTaken_frame own f s
    exact ⟨partTaken_builds own f s, htime⟩
  rw [handleFrag_of_tracks own f h]
  split
  · have hb := buildFrame_insp (n := f.number.toNat)
      (stamp := (s.hearEvent f.number.toNat).takeTime f.number.toNat) (applyPart_faults f) (s.partTaken own f)
    rwa [htaken, hbuilds, htime] at hb
  · exact Or.inl htaken

/-! ## What every part leaves alone -/

theorem hearEvent_run (n : Nat) (s : State) : (s.hearEvent n).agree.evn = s.agree.evn
    ∧ (s.hearEvent n).agree.pendingTakes = s.agree.pendingTakes
    ∧ (s.hearEvent n).agree.exhausted = s.agree.exhausted := by
  unfold hearEvent impliedTake raiseHighTake refuseTake
  (repeat' split) <;> exact ⟨rfl, rfl, rfl⟩

theorem handleFrag_dat (own : Bool) (f : FragFrame) (h : s.tracks = true) :
    (s.handleFrag own f).frames.dat = s.frames.dat ∧ (s.handleFrag own f).frames.failures = s.frames.failures := by
  obtain ⟨-, -, -, -, -, -, -, hdat, hfailures⟩ := partTaken_frame own f s
  rw [handleFrag_of_tracks own f h]
  split <;> simp [hdat, hfailures]

/-- R38, R39, R79: a part's count, and what a part leaves alone. -/
theorem handleFrag_counts (own : Bool) (f : FragFrame) (h : s.tracks = true) (l : List Addr) {t : State}
    (ht : t = (s.handleFrag own f).settle l) : s.CountsFrom t f.number.toNat
      ∧ t.agree.evn = s.agree.evn ∧ t.agree.pendingTakes = s.agree.pendingTakes
      ∧ t.agree.exhausted = s.agree.exhausted ∧ t.time = s.time ∧ t.start = s.start ∧ t.trig = s.trig
      ∧ t.pins = s.pins ∧ t.config = s.config ∧ t.frames.dat = s.frames.dat
      ∧ t.frames.failures = s.frames.failures := by
  have hrun := handleFrag_run own f h
  have hheard := hearEvent_run f.number.toNat s
  have hsettle := settle_run l (s.handleFrag own f)
  have hdat := handleFrag_dat own f h
  rw [ht]
  refine ⟨countsFrom_of_thins l (handleFrag_thins own f h) hrun.highTake (handleFrag_faults own f h), ?_, ?_, ?_, by simp,
    by simp, by simp, by simp, by simp, by simp [hdat], by simp [hdat]⟩
  · rw [hsettle.evn, hrun.evn, hheard.1]
  · rw [hsettle.pendingTakes, hrun.pendingTakes, hheard.2.1]
  · rw [hsettle.exhausted, hrun.exhausted, hheard.2.2]

theorem storePart_of_keeps {f : FragFrame} (h : ∀ r ∈ s.record? f.number.toNat, r.state ≠ .sending) :
    s.storePart f = s := by
  unfold storePart
  dsimp only
  split
  · next r hr => rw [if_neg (h r hr)]
  · rfl

theorem storePart_of_sending {f : FragFrame} {r : Record} (hr : s.record? f.number.toNat = some r)
    (hs : r.state = .sending) : s.storePart f = s.setStore (if f.last then s.store.remove f.number.toNat
      else s.store.modify f.number.toNat fun x => { x with partsSent := x.partsSent + 1 }) := by
  unfold storePart
  dsimp only
  rw [hr]
  dsimp only
  rw [if_pos hs]
  split <;> rfl

theorem handleFrag_store_eq (own : Bool) (f : FragFrame) (h : s.tracks = true) :
    (s.handleFrag own f).store = (s.partTaken own f).store := by
  rw [handleFrag_of_tracks own f h]
  split <;> simp

theorem partCounted_record? (f : FragFrame) (n : Nat) (s : State) :
    ((s.heardFrom f.sender f.number.toNat).partCounted f).record? n = s.record? n := by
  have hstore : ((s.heardFrom f.sender f.number.toNat).partCounted f).store = s.store := by simp
  rw [record?, hstore, record?]

/-- R15, R16: but for the station's own part of a SENDING record the store stands. -/
theorem handleFrag_store_of_keeps {own : Bool} {f : FragFrame} (h : s.tracks = true)
    (hkeeps : own = false ∨ ∀ r ∈ s.record? f.number.toNat, r.state ≠ .sending) :
    (s.handleFrag own f).store = s.store := by
  have hcounted : ((s.heardFrom f.sender f.number.toNat).partCounted f).store = s.store := by simp
  rw [handleFrag_store_eq own f h, partTaken]
  split
  · next ho =>
    rw [storePart_of_keeps, hcounted]
    rw [partCounted_record?]
    exact hkeeps.resolve_left (by simp [ho])
  · exact hcounted

/-- R15, R16: the own part of a SENDING record frees it, or is one more part sent. -/
theorem handleFrag_store_of_sending {f : FragFrame} (h : s.tracks = true) {r : Record}
    (hr : s.record? f.number.toNat = some r) (hs : r.state = .sending) : (s.handleFrag true f).store =
      if f.last then s.store.remove f.number.toNat
      else s.store.modify f.number.toNat fun x => { x with partsSent := x.partsSent + 1 } := by
  have hcounted : ((s.heardFrom f.sender f.number.toNat).partCounted f).store = s.store := by simp
  rw [handleFrag_store_eq true f h, partTaken, if_pos rfl,
    storePart_of_sending ((partCounted_record? f _ s).trans hr) hs, setStore_store, hcounted]

end State

end Sys2Proof.Machine
end

section
/-! The statements about FRAG parts (R55 to R59, R15, R16). -/
namespace Sys2Proof.Machine

namespace State
variable {s t u : State}

theorem exec_frag {f : FragFrame} (hh : s.Hears (.frag f)) (hc : s.NoClash (.frag f)) (ht : s.tracks = true) :
    exec (.fragReception f) s
      = .next (((s.ended (.frag f)).handleFrag (s.isOwn (.frag f)) f).settle s.order) := by
  have hexec := exec_reception hh
  rw [received_of_noClash hh hc ht] at hexec
  exact hexec

theorem ended_failures (f : Frame) (s : State) (h : s.isOwn f = true) : (s.ended f).frames.failures = 0 := by
  unfold ended
  rw [if_pos h]
  rfl

/-- R57: the roster after a current part of an address that is heeded, as its learning and its marks leave it. -/
theorem handleFrag_entry_of_heeded {own : Bool} {f : FragFrame} (h : s.tracks = true) (hm : s.heeds f.sender = true)
    (hn : s.mark f.sender < f.number.toNat) (a : Addr) : (s.handleFrag own f).entry a =
      ((s.heardFrom f.sender f.number.toNat).currentPart f).entry a := by
  refine entry_of_roster ?_ a
  rw [handleFrag_roster own f h, partCounted, heardFrom_isMember, hm, if_neg (by simp),
    if_neg (Nat.not_le.mpr (heardFrom_mark_lt hn))]

theorem handleFrag_entry_of_ne {own : Bool} {f : FragFrame} (h : s.tracks = true) (hm : s.heeds f.sender = true)
    (hn : s.mark f.sender < f.number.toNat) {a : Addr} (ha : a ≠ f.sender) : (s.handleFrag own f).entry a =
      if s.isMember a = true ∧ a < f.sender then { s.entry a with mark := max (s.mark a) f.number.toNat }
      else s.entry a := by
  rw [handleFrag_entry_of_heeded h hm hn, currentPart_entry, if_neg ha, isMember_eq, mark, heardFrom_entry_of_ne ha]
  rfl

theorem applyPart_count {c : Counter} (hc : c ≠ .truncatedBuilds) (f : FragFrame) (b : Build) (s : State) :
    (s.applyPart f b).count c = s.count c := by
  unfold applyPart
  dsimp only
  (repeat' split)
  · rfl
  · exact count_bump_of_ne hc (s.putBuild _)
  · rfl
  · exact count_bump_of_ne hc (s.putBuild _)
  · rfl

theorem buildFrame_count {n : Nat} {stamp : Option Time} {apply : Build → State → State} {c : Counter}
    (hlate : c ≠ .lateFrags) (hover : c ≠ .buildOverflows) (h : ∀ (b : Build) (t : State), (apply b t).count c = t.count c)
    (s : State) : (s.buildFrame n stamp apply).count c = s.count c := by
  unfold buildFrame
  (repeat' split)
  · rfl
  · exact count_bump_of_ne hlate s
  · exact h _ s
  · exact count_bump_of_ne hlate s
  · exact count_bump_of_ne hover s
  · exact h _ _

/-- The counters that a part can move. -/
theorem handleFrag_count {own : Bool} {f : FragFrame} (h : s.tracks = true) {c : Counter} (hlate : c ≠ .lateFrags)
    (hover : c ≠ .buildOverflows) (htrunc : c ≠ .truncatedBuilds) (l : List Addr) :
    ((s.handleFrag own f).settle l).count c = s.count c := by
  have htaken : (s.partTaken own f).count c = s.count c := by
    have hevent : (s.hearEvent f.number.toNat).count c = s.count c := by
      rw [count, (s.hearEvent_effects f.number.toNat).2.2.2.2, count]
    rw [count, partTaken_insp]
    split
    · exact (count_bump_of_ne hlate _).trans hevent
    · exact hevent
  have hsettle : ((s.handleFrag own f).settle l).count c = (s.handleFrag own f).count c := by simp [count]
  rw [hsettle, handleFrag_of_tracks own f h]
  split
  · exact (buildFrame_count hlate hover (applyPart_count htrunc f) _).trans htaken
  · exact htaken

end State

/-- Settles O22. -/
theorem finalPartMovesMarks : Obligations.FinalPartMovesMarks := by
  intro s f hh hc htracks hm hn hl
  have hexec := State.exec_frag hh hc htracks
  have hended := s.ended_eq (.frag f)
  have hbusy := s.ended_dat (.frag f)
  have hfail := s.ended_failures (.frag f)
  generalize (s.ended (.frag f)).frames = fr at hended hbusy hfail
  rw [hended] at hexec
  have htr : (s.setFrames fr).tracks = true := htracks
  obtain ⟨hcounts, hevn, hpend, hexh, htime, hstart, htrig, hpins, hconfig, hdat, hfailures⟩ :=
    State.handleFrag_counts (s.isOwn (.frag f)) f htr s.order rfl
  obtain ⟨hwindow, hrecords⟩ := (State.handleFrag (s.isOwn (.frag f)) f (s.setFrames fr)).settle_store s.order
  refine ⟨_, hexec, fun a => ?_, fun hown => ?_, fun hown r hr hs => ?_, fun hown hnone => ?_, hcounts, hevn, hpend, hexh,
    htime, hstart, htrig, ?_, hpins, hconfig, hdat.trans hbusy, fun hown => hfailures.trans (hfail hown)⟩
  · rw [State.entry_of_roster (s := State.handleFrag (s.isOwn (.frag f)) f (s.setFrames fr)) (by simp)]
    by_cases ha : a = f.sender
    · rw [if_pos ha, ha, State.handleFrag_entry_of_heeded htr hm hn, State.currentPart_entry, if_pos rfl, if_pos hl,
        State.heardFrom_entry (s := s.setFrames fr) hm]
      rfl
    · rw [if_neg ha]
      exact State.handleFrag_entry_of_ne htr hm hn ha
  · rw [State.handleFrag_store_of_keeps (own := s.isOwn (.frag f)) htr (Or.inl hown)] at hwindow hrecords
    exact ⟨hrecords, hwindow⟩
  · rw [hown] at hrecords ⊢
    rw [State.handleFrag_store_of_sending (s := s.setFrames fr) htr hr hs, if_pos hl] at hrecords
    exact hrecords
  · rw [State.handleFrag_store_of_keeps (own := s.isOwn (.frag f)) htr (Or.inr fun r hr => ?_)] at hrecords
    · exact hrecords
    · exact absurd (hnone.symm.trans hr) (by simp)
  · exact State.handleFrag_count htr (by decide) (by decide) (by decide) _

end Sys2Proof.Machine
end

section
/-! The turn timer under a part that is not final (R57 to R59). -/
namespace Sys2Proof.Machine

namespace State
variable {s t u : State}

theorem mem_of_predecessor {l : List Addr} {me p : Addr} (h : predecessor l me = some p) : p ∈ l := by
  unfold predecessor at h
  exact (List.mem_filter.mp (List.mem_of_getLast? h)).1

/-- R58: the skipped member is a member. -/
theorem mem_of_skippedMember {l : List Addr} {me p : Addr} (h : skippedMember l me = some p) : p ∈ l := by
  unfold skippedMember at h
  split at h
  · split at h
    · next q hq =>
      cases h
      exact mem_of_predecessor hq
    · exact List.mem_of_getLast? (Option.filter_eq_some_iff.mp h).1
  · cases h

theorem watchedNow_iff {m : Addr} {n : Nat} : s.watchedNow = some (m, n)
    ↔ s.takesTurns = true ∧ skippedMember s.order s.pins.address = some m ∧ s.nextEvent m = some n := by
  unfold watchedNow
  split
  · next h =>
    simp only [h, true_and, Option.bind_eq_some_iff, Option.map_eq_some_iff, Prod.mk.injEq]
    constructor
    · rintro ⟨a, ha, k, hk, rfl, rfl⟩
      exact ⟨ha, hk⟩
    · rintro ⟨ha, hk⟩
      exact ⟨m, ha, n, hk, rfl, rfl⟩
  · next h => simp [h]

theorem isMember_of_watched {m : Addr} {n : Nat} (h : s.watchedNow = some (m, n)) : s.isMember m = true :=
  mem_order.mp (mem_of_skippedMember (watchedNow_iff.mp h).2.1)

theorem listed_of_watched {m : Addr} {n : Nat} (h : s.watchedNow = some (m, n)) : s.listed n = true := by
  obtain ⟨-, e, he, hn⟩ := nextEvent_some (watchedNow_iff.mp h).2.2
  exact List.any_eq_true.mpr ⟨e, he, by simpa using hn⟩

/-- R58: the watched turn of two stations of one order and one place in it. -/
theorem watchedNow_of_order {m : Addr} {n : Nat} (h : s.watchedNow = some (m, n)) (hp : t.pins = s.pins)
    (hs : t.start.station = s.start.station) (ho : t.order = s.order) (hn : t.nextEvent m = some n) :
    t.watchedNow = some (m, n) := by
  rw [watchedNow_iff] at h ⊢
  obtain ⟨hturns, hskip, -⟩ := h
  refine ⟨?_, by rwa [ho, hp], hn⟩
  unfold takesTurns isAcquirer at hturns ⊢
  rwa [hp, hs, ho]

theorem find_filter_of_kept {α : Type} {p q : α → Bool} {l : List α} {x : α} (h : l.find? p = some x) (hx : q x = true) :
    (l.filter q).find? p = some x := by
  induction l with
  | nil => simp at h
  | cons y l ih =>
    by_cases hy : p y = true
    · rw [List.find?_cons_of_pos hy] at h
      cases h
      rw [List.filter_cons_of_pos hx, List.find?_cons_of_pos hy]
    · rw [List.find?_cons_of_neg hy] at h
      by_cases hq : q y = true
      · rw [List.filter_cons_of_pos hq, List.find?_cons_of_neg hy, ih h]
      · rw [List.filter_cons_of_neg hq, ih h]

/-- R39, R58: the removals leave the watched event, which its member has not finished. -/
theorem watchedNow_removeDrained {m : Addr} {n : Nat} (h : s.watchedNow = some (m, n)) :
    s.removeDrained.watchedNow = some (m, n) := by
  have hm := isMember_of_watched h
  refine watchedNow_of_order h (by simp) (by simp) (order_of_roster (by simp)) ?_
  have hnext := (watchedNow_iff.mp h).2.2
  have hlt := (nextEvent_some hnext).1
  unfold nextEvent at hnext ⊢
  obtain ⟨e, he, rfl⟩ := Option.map_eq_some_iff.mp hnext
  have hfin : s.finished e.number = false := by
    rw [finished, List.all_eq_false]
    exact ⟨m, mem_order.mpr hm, by simpa using hlt⟩
  have hmark : s.removeDrained.mark m = s.mark m := mark_of_roster (by simp) m
  rw [(removeDrained_agree s).2.2.2.2, hmark, find_filter_of_kept he (by simp [hfin])]
  rfl

/-- R58, R81: the turn that the station watched before a part for it stays the one it watches. -/
theorem heardFrom_watched {m : Addr} {n : Nat} (h : s.watchedNow = some (m, n)) :
    (s.heardFrom m n).turn.watched = some (m, n) := by
  have hm := isMember_of_watched h
  have hevent : s.SameView (s.hearEvent n) := by
    refine ⟨by simp, by simp, by simp, by simp, ?_⟩
    rw [(s.hearEvent_effects n).1, if_neg]
    intro hi
    exact absurd (listed_of_watched h) (by simp [hi.1.1])
  have hlearn : (s.hearEvent n).learn m n = s.hearEvent n := by
    have hentry : (s.hearEvent n).entry m = s.entry m := entry_of_roster hevent.roster m
    have hpresent : (s.entry m).state ≠ .absent := fun ha => by
      rw [isMember_eq, not_member_of_absent ha] at hm
      cases hm
    unfold learn
    dsimp only
    rw [hentry, if_neg (by simp [hpresent])]
  have hwatched : (s.heardFrom m n).turn.watched = ((s.hearEvent n).learn m n).removeDrained.watchedNow := rfl
  rw [hwatched, hlearn]
  exact watchedNow_removeDrained (hevent.watchedNow.trans h)

/-! ## The timer and the parts heard -/

theorem reassess_heard (s : State) : s.reassess.turn.heard
    = if s.reassess.turn.watched = s.turn.watched then s.turn.heard else 0 := by
  have hturn : s.removeDrained.turn = s.turn := by simp
  have hheard : s.reassess.turn.heard = s.removeDrained.heardNow := rfl
  have hwatched : s.reassess.turn.watched = s.removeDrained.watchedNow := rfl
  rw [hheard, hwatched, heardNow, hturn]

/-- R59: a timer evaluated on a turn it ran on, or on none, runs on it or is STOPPED. -/
theorem reassess_timer {m : Addr} {n : Nat} (hw : s.reassess.turn.watched = some (m, n))
    (ht : s.turn.timer = .stopped ∨ s.turn.timer = .running m n s.turnTicks) :
    s.reassess.turn.timer = .stopped ∨ s.reassess.turn.timer = .running m n s.turnTicks := by
  have htimer : s.reassess.turn.timer = if s.removeDrained.timerStands then s.removeDrained.turn.timer
      else s.removeDrained.freshTimer := rfl
  have hturn : s.removeDrained.turn = s.turn := by simp
  have hticks : s.removeDrained.turnTicks = s.turnTicks := by simp [turnTicks]
  replace hw : s.removeDrained.watchedNow = some (m, n) := hw
  rw [htimer, hturn]
  split
  · exact ht
  · unfold freshTimer
    rw [hw, hticks]
    dsimp only
    split
    · exact Or.inr rfl
    · exact Or.inl rfl

/-- R57, R59: a part of the watched turn is one more part heard, and a timer on it starts again. -/
theorem countPart_turn {m : Addr} {n : Nat} (h : s.turn.watched = some (m, n)) :
    (s.countPart m n).turn.watched = some (m, n) ∧ (s.countPart m n).turn.heard = min 3 (s.turn.heard + 1)
      ∧ ((s.countPart m n).turn.timer = .stopped ∨ (s.countPart m n).turn.timer = .running m n s.turnTicks) := by
  unfold countPart
  rw [if_pos h]
  dsimp only
  split
  · next ht => exact ⟨h, rfl, Or.inl ht⟩
  · exact ⟨h, rfl, Or.inr rfl⟩
  · exact ⟨h, rfl, Or.inr rfl⟩

/-- R88: the removals of a list already thinned remove nothing. -/
theorem reassess_watched_again (hp : t.pins = s.pins) (hc : t.config = s.config) (hs : t.start = s.start)
    (hr : t.roster = s.roster) (ha : t.agree = s.removeDrained.agree) :
    t.reassess.turn.watched = s.reassess.turn.watched := by
  have hview : s.removeDrained.SameView t.removeDrained := by
    refine ⟨by simp [hp], by simp [hc], by simp [hs], by simp [hr], ?_⟩
    rw [(removeDrained_agree t).2.2.2.2, undrained, finished_of_roster hr, ha, (removeDrained_agree s).2.2.2.2]
    exact Thins.undrained_undrained (fun _ h => h) _
  exact hview.watchedNow

/-- The store and the build unit leave the view, the list and the turn unit alone. -/
theorem handleFrag_view (own : Bool) (f : FragFrame) (h : s.tracks = true) :
    (s.handleFrag own f).agree = ((s.heardFrom f.sender f.number.toNat).partCounted f).agree
      ∧ (s.handleFrag own f).turn = ((s.heardFrom f.sender f.number.toNat).partCounted f).turn := by
  rw [handleFrag_of_tracks own f h]
  unfold partTaken
  (repeat' split) <;> simp

/-- R57 to R59: the parts heard and the timer after a part that is not final, for the turn then watched. -/
theorem handleFrag_turn {own : Bool} {f : FragFrame} (h : s.tracks = true) (hinv : s.TimerInv)
    (hm : s.heeds f.sender = true) (hn : s.mark f.sender < f.number.toNat) (hl : f.last = false) (l : List Addr)
    (hw : ((s.handleFrag own f).settle l).turn.watched = some (f.sender, f.number.toNat)) :
    ((s.handleFrag own f).settle l).turn.heard = min 3
        ((if s.turn.watched = some (f.sender, f.number.toNat) then s.turn.heard else 0) + 1)
      ∧ (((s.handleFrag own f).settle l).turn.timer = .stopped
        ∨ ((s.handleFrag own f).settle l).turn.timer
          = .running f.sender f.number.toNat (s.config.turn * 50)) := by
  obtain ⟨hagree, hturn⟩ := handleFrag_view own f h
  have hroster := handleFrag_roster own f h
  have hcounted : (s.heardFrom f.sender f.number.toNat).partCounted f
      = (((s.heardFrom f.sender f.number.toNat).passImplied f.sender f.number.toNat).reassess).countPart f.sender
        f.number.toNat := by
    rw [partCounted, heardFrom_isMember, hm, if_neg (by simp), if_neg (Nat.not_le.mpr (heardFrom_mark_lt hn))]
    unfold currentPart
    dsimp only
    rw [if_neg (by simp [hl])]
  have hwatched := fun hw => heardFrom_watched (s := s) (m := f.sender) (n := f.number.toNat) hw
  have hheard : (s.heardFrom f.sender f.number.toNat).turn.heard
      = if (s.heardFrom f.sender f.number.toNat).turn.watched = s.turn.watched then s.turn.heard else 0 := by
    have hbefore : ((s.hearEvent f.number.toNat).learn f.sender f.number.toNat).turn = s.turn := by simp
    rw [heardFrom, hearMember, reassess_heard, hbefore]
  rw [hcounted] at hagree hturn hroster
  rw [settle_turn] at hw ⊢
  generalize hu : s.heardFrom f.sender f.number.toNat = u at *
  have hpass : (u.passImplied f.sender f.number.toNat).turn = u.turn := by simp
  have hframe : (u.passImplied f.sender f.number.toNat).pins = s.pins
      ∧ (u.passImplied f.sender f.number.toNat).config = s.config
      ∧ (u.passImplied f.sender f.number.toNat).start = s.start := by
    rw [← hu]
    simp
  generalize u.passImplied f.sender f.number.toNat = v at *
  obtain ⟨vpins, vconfig, vstart⟩ := hframe
  have hagain : (s.handleFrag own f).reassess.turn.watched = v.reassess.turn.watched :=
    reassess_watched_again (by simp [vpins]) (by simp [vconfig]) (by simp [vstart]) (by simp [hroster])
      (by simp [hagree])
  rw [hagain] at hw
  obtain ⟨cwatched, cheard, ctimer⟩ := countPart_turn hw
  have hticks : (s.handleFrag own f).turnTicks = s.config.turn * 50 := by simp [turnTicks, Config.ticksPerMicro]
  have hvticks : v.reassess.turnTicks = s.config.turn * 50 := by simp [turnTicks, Config.ticksPerMicro, vconfig]
  constructor
  · rw [reassess_heard, hagain, hw, hturn, cwatched, if_pos rfl, cheard, reassess_heard, hpass, hheard]
    have hsame : (if v.reassess.turn.watched = u.turn.watched then
        (if u.turn.watched = s.turn.watched then s.turn.heard else 0) else 0)
        = if s.turn.watched = some (f.sender, f.number.toNat) then s.turn.heard else 0 := by
      rw [hw]
      by_cases hs : s.turn.watched = some (f.sender, f.number.toNat)
      · have hu := hwatched (hinv.1.symm.trans hs)
        rw [hu, hs, if_pos rfl, if_pos rfl]
      · rw [if_neg hs]
        split
        · next hu => rw [if_neg fun h => hs (h.symm.trans hu.symm)]
        · rfl
    exact congrArg (fun k => min 3 (k + 1)) hsame
  · have htimer := reassess_timer (s := s.handleFrag own f) (hagain.trans hw)
    rw [hturn, hticks] at htimer
    rw [hvticks] at ctimer
    exact htimer ctimer

/-- R56: the sender's entry after its current part that is not final. -/
theorem handleFrag_sender {own : Bool} {f : FragFrame} (h : s.tracks = true) (hm : s.heeds f.sender = true)
    (hn : s.mark f.sender < f.number.toNat) (hl : f.last = false) : (s.handleFrag own f).entry f.sender =
      { s.heardEntry f.sender with
        mark := max ((s.heardFrom f.sender f.number.toNat).mark f.sender)
          (((s.heardFrom f.sender f.number.toNat).entryBelow f.number.toNat).getD 0) } := by
  rw [handleFrag_entry_of_heeded h hm hn, currentPart_entry, if_pos rfl, if_neg (by simp [hl]), heardFrom_entry hm]

/-- R99: a part that is not final leaves the free values alone. -/
theorem handleFrag_freeIndex {own : Bool} {f : FragFrame} (h : s.tracks = true) (hl : f.last = false) :
    (s.handleFrag own f).freeIndex = s.freeIndex := by
  have happly (b : Build) (t : State) : (t.applyPart f b).freeIndex = t.freeIndex := by
    unfold applyPart Contribution.surplus
    simp only [hl, Bool.false_and, Bool.false_eq_true, if_false]
    (repeat' split) <;> rfl
  have hbuild (t : State) (n : Nat) (stamp : Option Time) :
      (t.buildFrame n stamp (State.applyPart f)).freeIndex = t.freeIndex := by
    unfold buildFrame
    (repeat' split) <;> simp [happly]
  have htaken := (partTaken_frame own f s).2.2.2.2.2.2.1
  rw [handleFrag_of_tracks own f h]
  split
  · exact (hbuild _ _ _).trans htaken
  · exact htaken

/-- A record changed in place, in a store whose contents are those of the changed one. -/
theorem record?_modified {f : Record → Record} (hf : ∀ r, (f r).number = r.number) {n : Nat} {r : Record}
    (hr : s.record? n = some r)
    (h : t.store.records.map Record.content = (s.store.modify n f).records.map Record.content) :
    (t.record? n).map Record.content = some (f r).content := by
  have hfind := find_content n t.store.records
  rw [h, ← find_content, Store.modify, find?_changeRecord hf, show s.store.records.find? _ = some r from hr] at hfind
  exact hfind

end State

/-- Settles O23. -/
theorem nonFinalPartCountsAndRestarts : Obligations.NonFinalPartCountsAndRestarts := by
  intro s f hh hc htracks hinv hm hn hl
  have hexec := State.exec_frag hh hc htracks
  have hended := s.ended_eq (.frag f)
  generalize (s.ended (.frag f)).frames = fr at hended
  rw [hended] at hexec
  have htr : (s.setFrames fr).tracks = true := htracks
  obtain ⟨hcounts, hevn, hpend, hexh, htime, hstart, htrig, hpins, hconfig, -⟩ :=
    State.handleFrag_counts (s.isOwn (.frag f)) f htr s.order rfl
  obtain ⟨hwindow, hrecords⟩ := (State.handleFrag (s.isOwn (.frag f)) f (s.setFrames fr)).settle_store s.order
  have hentry (a : Addr) : ((State.handleFrag (s.isOwn (.frag f)) f (s.setFrames fr)).settle s.order).entry a
      = (State.handleFrag (s.isOwn (.frag f)) f (s.setFrames fr)).entry a := State.entry_of_roster (by simp) a
  have hsender := State.handleFrag_sender (s := s.setFrames fr) (own := s.isOwn (.frag f)) htr hm hn hl
  rw [← hentry] at hsender
  have hmark := congrArg RosterEntry.mark hsender
  have hlow := State.heardFrom_mark_le f.sender f.number.toNat (s.setFrames fr)
  have hhigh := State.heardFrom_mark_lt (s := s.setFrames fr) hn
  have hfree := State.handleFrag_freeIndex (own := s.isOwn (.frag f)) htr hl
  refine ⟨_, hexec, ?_, ?_, ?_, fun a ha => ?_, fun hw => ?_, fun hown r hr hs => ?_, hcounts, hevn, hpend, htime, hstart,
    htrig, hpins, hconfig, ?_⟩
  · rw [State.mark, hmark]
    exact Nat.max_lt.mpr ⟨hhigh, State.entryBelow_lt (by omega) _⟩
  · rw [State.mark, State.mark, hmark]
    exact hlow.trans (Nat.le_max_left _ _)
  · rw [State.mark, hsender]
    rfl
  · rw [hentry]
    exact State.handleFrag_entry_of_ne htr hm hn ha
  · exact State.handleFrag_turn htr hinv hm hn hl s.order hw
  · rw [hown] at hrecords ⊢
    rw [State.handleFrag_store_of_sending (s := s.setFrames fr) htr hr hs, if_neg (by simp [hl])] at hrecords
    exact State.record?_modified (s := s) (f := fun x => { x with partsSent := x.partsSent + 1 }) (fun _ => rfl) hr hrecords
  · exact (State.settle_frame _ _).2.2.2.2.2.2.2.1.trans hfree

end Sys2Proof.Machine
end

section
/-! What the settling makes of the builds (R103, R106, R109): the contributions, the closes, and the rest as it was. -/
namespace Sys2Proof.Machine

/-- A build as the handing over of a CLOSED head leaves it to be seen (R109): OPEN or not. -/
def Build.shown (b : Build) : Build := { b with state := if b.state = .opened then .opened else .closed }

theorem Build.shown_opened (b : Build) : b.shown.state = .opened ↔ b.state = .opened := by
  unfold Build.shown
  dsimp only
  split
  · next h => simp [h]
  · next h => simp [h]

namespace State
variable {s t u v : State}

/-- R109: the hand-over changes what stands on the port, and of the builds nothing that is shown. -/
theorem startDelivery_shown (s : State) :
    s.startDelivery.build.builds.map Build.shown = s.build.builds.map Build.shown := by
  unfold startDelivery
  split
  · next b rest _ hl =>
    split
    · next hc =>
      rw [hl]
      simp [Build.shown, hc]
    · rfl
  · rfl

/-- R103, R106: the builds after the settling of `s`, with the turn order `before` it. -/
theorem settle_shown (before : List Addr) (s : State) : (s.settle before).build.builds.map Build.shown
    = (s.build.builds.map (s.settleBuild (before.filter fun a => a ∉ s.order))).map Build.shown := by
  have hroster : s.reassess.offerParts.refreshRoll.roster = s.roster := by simp
  have hbuilds : s.reassess.offerParts.refreshRoll.build = s.build := by simp
  have hsettle : s.reassess.offerParts.refreshRoll.settleBuild = s.settleBuild := by
    funext l b
    rw [settleBuild, settleBuild, finished_of_roster hroster]
  have horder : s.reassess.offerParts.refreshRoll.order = s.order := order_of_roster hroster
  rw [settle, startDelivery_shown, settleBuilds, setBuild_build, hbuilds, hsettle, horder]

/-- R103, R106: what the settling in `v` makes of one contribution of an OPEN build for `n`. -/
def contributionSettled (leaving : List Addr) (v : State) (n : Nat) (c : Contribution) : Contribution :=
  if c.state = .waiting then
    { c with state := if c.member ∈ leaving then .notExpected else if v.finished n then .unheard else .waiting }
  else c

theorem settleBuild_of_not_opened {b : Build} (h : b.state ≠ .opened) (leaving : List Addr) :
    v.settleBuild leaving b = b := if_neg h

/-- R103, R106: an OPEN build after the settling. -/
theorem settleBuild_of_opened {b : Build} (h : b.state = .opened) (leaving : List Addr) :
    v.settleBuild leaving b = { b with
      state := if v.finished b.number then .closed else .opened
      cause := if v.finished b.number then some .complete else b.cause
      timer := if v.finished b.number then none else b.timer
      contributions := b.contributions.map (v.contributionSettled leaving b.number) } := by
  have hcontribution (c : Contribution) : v.contributionSettled leaving b.number c =
      if v.finished b.number then (if c.member ∈ leaving ∧ c.state = .waiting then
          { c with state := .notExpected } else c).atClose
        else if c.member ∈ leaving ∧ c.state = .waiting then { c with state := .notExpected } else c := by
    obtain ⟨m, x, fl, sm, k, j⟩ := c
    unfold contributionSettled Contribution.atClose
    by_cases hx : x = .waiting
    · subst hx
      by_cases hm : m ∈ leaving <;> cases v.finished b.number <;> simp [hm]
    · cases v.finished b.number <;> simp [hx]
  unfold settleBuild
  rw [if_pos h, funext hcontribution]
  cases hf : v.finished b.number with
  | true => simp [Build.close, Build.notExpected, Function.comp_def]
  | false => simp [Build.notExpected, h]

/-- R103, R106: the contributions of an OPEN build of `s` after the settling in `t`, as the statements have them. -/
theorem settledContributions_of_opened {x : Build} (h : x.state = .opened) : s.settledContributions t x
    = x.contributions.map (t.contributionSettled (s.order.filter fun a => a ∉ t.order) x.number) := by
  refine List.map_congr_left fun c _ => ?_
  have hleaving : c.member ∈ (s.order.filter fun a => a ∉ t.order)
      ↔ s.isMember c.member = true ∧ t.isMember c.member = false := by
    simp [mem_order, isMember_eq]
  have hfinished : t.finished x.number = true ↔ ∀ a : Addr, t.isMember a = true → x.number ≤ t.mark a := by
    simp [finished, mem_order, isMember_eq]
  unfold contributionSettled
  by_cases hw : c.state = .waiting
  · rw [if_pos ⟨h, hw⟩, if_pos hw]
    simp only [hleaving, hfinished]
  · rw [if_neg fun hc => hw hc.2, if_neg hw]

theorem settledContributions_of_not_opened {x : Build} (h : x.state ≠ .opened) :
    s.settledContributions t x = x.contributions := by
  unfold settledContributions
  refine (List.map_congr_left fun c _ => ?_).trans (List.map_id _)
  rw [if_neg fun hc => h hc.1]
  rfl

/-- R103, R106: so the settling answers these contributions in every build of `s`. -/
theorem settleBuild_contributions (hr : t.roster = v.roster) (x : Build) :
    (v.settleBuild (s.order.filter fun a => a ∉ v.order) x).contributions = s.settledContributions t x := by
  by_cases h : x.state = .opened
  · rw [settleBuild_of_opened h, settledContributions_of_opened h, order_of_roster hr]
    refine List.map_congr_left fun c _ => ?_
    rw [contributionSettled, contributionSettled, finished_of_roster hr]
  · rw [settleBuild_of_not_opened h, settledContributions_of_not_opened h]

/-! ## The builds that stand as they were but for the settling -/

/-- What is shown of a build is shown of its number, time, contributions, flag, close cause and timer. -/
theorem map_of_shown {α : Type} (g : Build → α) (hg : ∀ b : Build, g b.shown = g b) {l k : List Build}
    (h : l.map Build.shown = k.map Build.shown) : l.map g = k.map g := by
  have hmap := congrArg (List.map g) h
  simpa only [List.map_map, Function.comp_def, hg] using hmap

theorem mem_of_shown {l k : List Build} (h : l.map Build.shown = k.map Build.shown) {b : Build} (hb : b ∈ l) :
    ∃ x ∈ k, x.shown = b.shown := by
  have hmem : b.shown ∈ k.map Build.shown := h ▸ List.mem_map_of_mem hb
  obtain ⟨x, hx, heq⟩ := List.mem_map.mp hmem
  exact ⟨x, hx, heq⟩

theorem finished_iff (n : Nat) (s : State) : s.finished n = true ↔ ∀ a : Addr, s.isMember a = true → n ≤ s.mark a := by
  simp [finished, mem_order, isMember_eq]

theorem not_finished_iff (n : Nat) (s : State) : s.finished n = false ↔ ∃ a : Addr, s.isMember a = true ∧ s.mark a < n := by
  rw [← Bool.not_eq_true, finished_iff]
  simp

/-- R106: a finished build has nothing WAITING. -/
theorem contributionSettled_not_waiting {n : Nat} (h : v.finished n = true) (leaving : List Addr) (c : Contribution) :
    (v.contributionSettled leaving n c).state ≠ .waiting := by
  unfold contributionSettled
  rw [h]
  split
  · dsimp only
    split <;> simp
  · next hc => exact hc

/-- R106: the closes, where every build that was OPEN before, or is new, is OPEN as the settling finds it. -/
theorem closesFinished_settle (l : List Addr) (hopen : ∀ y ∈ v.build.builds,
      (∀ x ∈ s.build.builds.find? (fun x : Build => x.number = y.number), x.state = .opened) → y.state = .opened) :
    s.ClosesFinished (v.settle l) := by
  intro b hb hbefore
  obtain ⟨x, hx, hshown⟩ := mem_of_shown (settle_shown l v) hb
  obtain ⟨y, hy, rfl⟩ := List.mem_map.mp hx
  have hsettled := congrArg Build.number (settleBuild_content v (l.filter fun a => a ∉ v.order) y)
  have hnumber : b.number = y.number := (congrArg Build.number hshown).symm.trans hsettled
  have hy := hopen y hy (hnumber ▸ hbefore)
  rw [settleBuild_of_opened hy] at hshown
  have hmember (a : Addr) : (v.settle l).isMember a = v.isMember a :=
    congrArg RosterEntry.isMember (entry_of_roster (by simp) a)
  have hmark (a : Addr) : (v.settle l).mark a = v.mark a := mark_of_roster (by simp) a
  simp only [hmember, hmark, hnumber, ← not_finished_iff]
  have hstate := (Build.shown_opened b).symm.trans (hshown ▸ Build.shown_opened _)
  cases hf : v.finished y.number with
  | false =>
    rw [hf] at hstate
    exact ⟨by simpa using hstate, fun hclosed => absurd (hstate.mpr rfl) hclosed⟩
  | true =>
    rw [hf] at hstate hshown
    refine ⟨by simpa using hstate, fun _ => ⟨(congrArg Build.cause hshown).symm, fun c hc => ?_⟩⟩
    have hcontributions : y.contributions.map (v.contributionSettled _ y.number) = b.contributions :=
      congrArg Build.contributions hshown
    rw [← hcontributions] at hc
    obtain ⟨d, -, rfl⟩ := List.mem_map.mp hc
    exact contributionSettled_not_waiting hf _ d

/-- R91: the build that a number finds is the build that has it. -/
theorem find_of_mem (hinv : s.TableInv) {y : Build} (hy : y ∈ s.build.builds) :
    s.build.builds.find? (fun x : Build => x.number = y.number) = some y := by
  obtain ⟨-, -, hascending, -⟩ := hinv
  have hnodup : (s.build.builds.map (·.number)).Nodup := (List.pairwise_cons.mp hascending).2.imp fun h => Nat.ne_of_lt h
  cases hf : s.build.builds.find? (fun x : Build => x.number = y.number) with
  | none =>
    have hnone := List.find?_eq_none.mp hf y hy
    simp at hnone
  | some x =>
    have hx : x.number = y.number := by simpa using List.find?_some hf
    rw [List.inj_on_of_nodup_map hnodup (List.mem_of_find?_eq_some hf) hy hx]

/-- R107: a build that the settling leaves OPEN keeps its number and its timer. -/
theorem timer_of_settled {leaving : List Addr} {x b : Build} (ho : (v.settleBuild leaving x).state = .opened)
    (h : (v.settleBuild leaving x).shown = b.shown) : x.number = b.number ∧ b.timer = x.timer := by
  have hx : x.state = .opened := by
    by_contra hc
    rw [settleBuild_of_not_opened hc] at ho
    exact hc ho
  have htimer : b.timer = (v.settleBuild leaving x).timer := (congrArg Build.timer h).symm
  have hnumber := congrArg Build.number h
  rw [settleBuild_of_opened hx] at ho hnumber htimer
  cases hf : v.finished x.number with
  | true => simp [hf] at ho
  | false =>
    rw [hf] at htimer
    exact ⟨hnumber, htimer⟩

/-- R99, R101, R107: a frame that changed no build leaves them settled alone. -/
theorem settlesBuilds_settle (hinv : s.TableInv) (hb : v.build.builds = s.build.builds) :
    s.SettlesBuilds (v.settle s.order) := by
  have hshown := settle_shown s.order v
  rw [hb] at hshown
  have hroster : (v.settle s.order).roster = v.roster := by simp
  refine ⟨?_, fun b hmem ho => ?_, closesFinished_settle s.order fun y hy hbefore => ?_⟩
  · rw [map_of_shown (fun b => (b.number, b.time, b.contributions, b.truncated)) (fun _ => rfl) hshown, List.map_map]
    refine List.map_congr_left fun x _ => ?_
    have hcontent := settleBuild_content v (s.order.filter fun a => a ∉ v.order) x
    have hnumber := congrArg Build.number hcontent
    have htime := congrArg Build.time hcontent
    have htruncated := congrArg Build.truncated hcontent
    exact Prod.ext hnumber (Prod.ext htime (Prod.ext (settleBuild_contributions hroster x) htruncated))
  · obtain ⟨z, hz, heq⟩ := mem_of_shown hshown hmem
    obtain ⟨x, hx, rfl⟩ := List.mem_map.mp hz
    have hx' := (Build.shown_opened b).symm.trans (heq ▸ Build.shown_opened _)
    exact ⟨x, hx, timer_of_settled (hx'.mp ho) heq⟩
  · rw [hb] at hy
    exact hbefore y (find_of_mem hinv hy)

end State

end Sys2Proof.Machine
end

section
/-! The statements about late parts and about SKIPs (R55, R63, R64, R82 to R84, R94). -/
namespace Sys2Proof.Machine

namespace State
variable {s t u : State}

/-! ## Parts that move nothing -/

theorem heardFrom_roster_of_known {m : Addr} (h : s.isMember m = true ∨ s.heeds m = false) (n : Nat) :
    (s.heardFrom m n).roster = s.roster := by
  have hentry : (s.hearEvent n).entry m = s.entry m := entry_of_roster (by simp) m
  have howns : (s.hearEvent n).ownsEntry m = s.ownsEntry m := by simp [ownsEntry, isCollector]
  have hlearn : (s.hearEvent n).learn m n = s.hearEvent n := by
    unfold learn
    dsimp only
    rw [hentry, howns, if_neg]
    intro hc
    simp only [Bool.and_eq_true, decide_eq_true_eq, Bool.not_eq_true'] at hc
    rcases h with hm | hm
    · rw [isMember_eq, not_member_of_absent hc.1] at hm
      cases hm
    · rw [heeds_eq, Bool.or_eq_false_iff, decide_eq_false_iff_not] at hm
      exact hm.2 hc
  rw [heardFrom_roster, hlearn]
  simp

/-- R94: a part that the build unit does not have. -/
theorem handleFrag_of_unbuilt {own : Bool} {f : FragFrame} (h : s.tracks = true)
    (hno : s.builds = false ∨ (s.heardFrom f.sender f.number.toNat).partReaches f = false) :
    s.handleFrag own f = s.partTaken own f := by
  rw [handleFrag_of_tracks own f h]
  split
  · next hr =>
    unfold buildFrame
    rw [partTaken_builds, hno.resolve_right (by simp [hr])]
    rfl
  · rfl

/-- R55: a late part, and one from outside, leaves the roster as it was. -/
theorem handleFrag_roster_of_still {own : Bool} {f : FragFrame} (h : s.tracks = true)
    (hstill : s.isMember f.sender = true ∧ f.number.toNat ≤ s.mark f.sender ∨ s.heeds f.sender = false) :
    (s.handleFrag own f).roster = s.roster := by
  have hheard := heardFrom_roster_of_known (n := f.number.toNat) (hstill.imp_left And.left)
  rw [handleFrag_roster own f h, partCounted, heardFrom_isMember, mark_of_roster hheard]
  rcases hstill with ⟨-, hlate⟩ | hno
  · rw [if_pos hlate]
    split <;> simp [hheard]
  · rw [hno]
    simp [hheard]

theorem settle_samples (l : List Addr) (s : State) : (s.settle l).build.builds.map (fun b => (b.number, b.samples))
    = s.build.builds.map (fun b => (b.number, b.samples)) := by
  have hcontent := congrArg (List.map fun b : Build => (b.number, b.samples)) (s.settle_builds l).1
  simp only [List.map_map, Function.comp_def, Build.samples_content] at hcontent
  exact hcontent

/-- R15, R16, R66: a late part of the station's own is taken back by the store. -/
theorem handleFrag_taken_back {f : FragFrame} (h : s.tracks = true) {r : Record} (hr : s.record? f.number.toNat = some r)
    (hs : r.state = .sending) (l : List Addr) :
    (f.last = true → ((s.handleFrag true f).settle l).store.records.map Record.content
        = (s.store.records.eraseP fun q => q.number = f.number.toNat).map Record.content)
      ∧ (f.last = false → (((s.handleFrag true f).settle l).record? f.number.toNat).map Record.content
        = some { r.content with partsSent := r.partsSent + 1 }) := by
  have hrecords := ((s.handleFrag true f).settle_store l).2
  rw [handleFrag_store_of_sending h hr hs] at hrecords
  constructor
  · intro hl
    rw [hl, if_pos rfl] at hrecords
    exact hrecords
  · intro hl
    rw [hl, if_neg Bool.false_ne_true] at hrecords
    exact record?_modified (f := fun x => { x with partsSent := x.partsSent + 1 }) (fun _ => rfl) hr hrecords

theorem handleFrag_untaken {own : Bool} {f : FragFrame} (h : s.tracks = true)
    (hkeeps : own = false ∨ ∀ r ∈ s.record? f.number.toNat, r.state ≠ .sending) (l : List Addr) :
    ((s.handleFrag own f).settle l).store.records.map Record.content = s.store.records.map Record.content := by
  rw [((s.handleFrag own f).settle_store l).2, handleFrag_store_of_keeps h hkeeps]

/-- R58: with no part to count the parts heard stand for the turn they stood for. -/
theorem handleFrag_heard {own : Bool} {f : FragFrame} (h : s.tracks = true) (hno : s.heeds f.sender = false)
    (l : List Addr) : ((s.handleFrag own f).settle l).turn.heard
      = if ((s.handleFrag own f).settle l).turn.watched = s.turn.watched then s.turn.heard else 0 := by
  obtain ⟨hagree, hturn⟩ := handleFrag_view own f h
  have hroster := handleFrag_roster own f h
  have hcounted : (s.heardFrom f.sender f.number.toNat).partCounted f = s.heardFrom f.sender f.number.toNat := by
    rw [partCounted, heardFrom_isMember, hno]
    rfl
  rw [hcounted] at hagree hturn hroster
  have hbefore : ((s.hearEvent f.number.toNat).learn f.sender f.number.toNat).turn = s.turn := by simp
  have hagain : (s.handleFrag own f).reassess.turn.watched = (s.heardFrom f.sender f.number.toNat).turn.watched :=
    reassess_watched_again (s := (s.hearEvent f.number.toNat).learn f.sender f.number.toNat) (by simp) (by simp)
      (by simp) (by rw [hroster, heardFrom_roster]) (by rw [hagree]; exact reassess_agree _)
  rw [settle_turn, reassess_heard, hagain, hturn, if_pos rfl, heardFrom, hearMember, reassess_heard, hbefore]

/-- R94, R106: a part that the build unit does not have moves the builds by the settling alone. -/
theorem handleFrag_unbuilt {own : Bool} {f : FragFrame} (h : s.tracks = true)
    (hno : s.builds = false ∨ (s.heardFrom f.sender f.number.toNat).partReaches f = false) :
    ((s.handleFrag own f).settle s.order).build.builds.map (fun b => (b.number, b.samples))
        = s.build.builds.map (fun b => (b.number, b.samples))
      ∧ (s.TableInv → s.SettlesBuilds ((s.handleFrag own f).settle s.order))
      ∧ ((s.handleFrag own f).settle s.order).freeIndex = s.freeIndex
      ∧ ((s.handleFrag own f).settle s.order).insp = (s.partTaken own f).insp := by
  obtain ⟨-, -, -, -, -, hbuild, hfree, -⟩ := partTaken_frame own f s
  rw [handleFrag_of_unbuilt h hno]
  refine ⟨?_, fun hinv => settlesBuilds_settle hinv (by rw [hbuild]), ?_, by simp⟩
  · rw [settle_samples, hbuild]
  · simp [hfree]

theorem partReaches_of_late {f : FragFrame} (hm : s.isMember f.sender = true) (hn : f.number.toNat ≤ s.mark f.sender) :
    (s.heardFrom f.sender f.number.toNat).partReaches f = false := by
  have hentry := heardFrom_mark_of_member hm f.number.toNat
  have hmember := hm
  rw [isMember_eq, RosterEntry.isMember, Bool.and_eq_true, decide_eq_true_eq] at hmember
  unfold partReaches RosterEntry.heardOutside
  rw [isMember_eq, mark, hentry, ← isMember_eq, hm, hmember.1]
  simp [mark] at hn ⊢
  exact hn

theorem partReaches_of_outside {f : FragFrame} (hno : s.heeds f.sender = false)
    (hout : (s.entry f.sender).state ≠ .silent ∧ (s.entry f.sender).state ≠ .calling
      ∨ (s.entry f.sender).role = some .collector) :
    (s.heardFrom f.sender f.number.toNat).partReaches f = false := by
  unfold partReaches RosterEntry.heardOutside
  rw [heardFrom_isMember, hno, heardFrom_entry_of_not_heeds hno]
  rcases hout with ⟨h1, h2⟩ | hrole
  · simp [h1, h2]
  · simp [hrole]

/-! ## SKIPs that move nothing -/

theorem exec_skip {f : SkipFrame} (hh : s.Hears (.skip f)) (hc : s.NoClash (.skip f)) (ht : s.tracks = true) :
    exec (.skipReception f) s
      = .next (((s.ended (.skip f)).handleSkip (s.isOwn (.skip f)) f).settle s.order) := by
  have hexec := exec_reception hh
  rw [received_of_noClash hh hc ht] at hexec
  exact hexec

theorem skipHeard_frame (own : Bool) (f : SkipFrame) (s : State) :
    (s.skipHeard own f).pins = s.pins ∧ (s.skipHeard own f).start = s.start ∧ (s.skipHeard own f).config = s.config
      ∧ (s.skipHeard own f).trig = s.trig ∧ (s.skipHeard own f).time = s.time ∧ (s.skipHeard own f).store = s.store
      ∧ (s.skipHeard own f).build = s.build ∧ (s.skipHeard own f).freeIndex = s.freeIndex := by
  unfold skipHeard hearMember
  split <;> simp

/-- R62: the own SKIP is counted. -/
theorem skipHeard_insp (own : Bool) (f : SkipFrame) (s : State) : (s.skipHeard own f).insp.faults
      = s.refusalFaults f.number.toNat
    ∧ (s.skipHeard own f).insp.counters = (if own then (s.bump .skipsSent).insp.counters else s.insp.counters) := by
  obtain ⟨-, -, -, hfaults, hcounters⟩ := s.hearEvent_effects f.number.toNat
  have hheard : ((s.hearEvent f.number.toNat).hearMember f.subject f.number.toNat).insp
      = (s.hearEvent f.number.toNat).insp := hearMember_insp _ _ _
  have hown (u : State) : u.ownSkip.insp = (u.bump .skipsSent).insp := by
    unfold ownSkip
    split <;> rfl
  unfold skipHeard
  cases own with
  | true =>
    rw [if_pos rfl, if_pos rfl, hown, bump, bump, hheard]
    exact ⟨hfaults, by rw [setInsp_insp, setInsp_insp, hcounters]⟩
  | false =>
    rw [if_neg Bool.false_ne_true, if_neg Bool.false_ne_true, hheard]
    exact ⟨hfaults, hcounters⟩

theorem skipCounts_of_still {f : SkipFrame} (hstill : s.heeds f.subject = false
    ∨ s.isMember f.subject = true ∧ f.number.toNat ≤ s.mark f.subject) : s.skipCounts f = false := by
  unfold skipCounts
  rcases hstill with hno | ⟨hm, hn⟩
  · rw [hno]
    rfl
  · rw [mark, heardFrom_mark_of_member hm]
    simp only [Bool.and_eq_false_iff, decide_eq_false_iff_not, Nat.not_lt]
    exact Or.inr hn

/-- R38, R39, R79: a SKIP's count, and what a SKIP leaves alone. -/
theorem handleSkip_counts (own : Bool) (f : SkipFrame) (h : s.tracks = true) (l : List Addr)
    (hfaults : (s.handleSkip own f).insp.faults = s.refusalFaults f.number.toNat ∨ s.builds = true
      ∧ (s.handleSkip own f).insp.faults = (s.refusalFaults f.number.toNat).enter
        { code := .buildOverflow, context := f.number.toNat, time := s.time.counter, state := s.time.state }) :
    s.CountsFrom ((s.handleSkip own f).settle l) f.number.toNat
      ∧ ((s.handleSkip own f).settle l).agree.evn = s.agree.evn
      ∧ ((s.handleSkip own f).settle l).agree.pendingTakes = s.agree.pendingTakes :=
  have hrun := handleSkip_run own f h
  have hheard := hearEvent_run f.number.toNat s
  have hsettle := settle_run l (s.handleSkip own f)
  ⟨countsFrom_of_thins l (handleSkip_thins own f h) hrun.highTake hfaults,
    hsettle.evn.trans (hrun.evn.trans hheard.1),
    hsettle.pendingTakes.trans (hrun.pendingTakes.trans hheard.2.1)⟩

/-- R63: a SKIP too late, or for no member, changes the list and its sender's count alone. -/
theorem skip_still {own : Bool} {f : SkipFrame} (h : s.tracks = true) (hstill : s.heeds f.subject = false
      ∨ s.isMember f.subject = true ∧ f.number.toNat ≤ s.mark f.subject) {t : State}
    (ht : t = (s.handleSkip own f).settle s.order) :
    t.roster = s.roster
      ∧ t.insp.counters = (if own then (s.bump .skipsSent).insp.counters else s.insp.counters)
      ∧ t.build.builds.map (fun b => (b.number, b.samples)) = s.build.builds.map (fun b => (b.number, b.samples))
      ∧ (s.TableInv → s.SettlesBuilds t)
      ∧ t.store.records.map Record.content = s.store.records.map Record.content
      ∧ s.CountsFrom t f.number.toNat
      ∧ t.agree.evn = s.agree.evn ∧ t.agree.pendingTakes = s.agree.pendingTakes
      ∧ t.time = s.time ∧ t.start = s.start ∧ t.trig = s.trig ∧ s.SameSetting t := by
  have hskip : s.handleSkip own f = s.skipHeard own f := by
    rw [handleSkip_eq own f h, skipCounts_of_still hstill]
    rfl
  obtain ⟨hfaults, hcounters⟩ := skipHeard_insp own f s
  have hcounts := handleSkip_counts own f h s.order (Or.inl (hskip ▸ hfaults))
  obtain ⟨hpins, hstart, hconfig, htrig, htime, hstore, hbuild, hfree⟩ := skipHeard_frame own f s
  have hroster : (s.skipHeard own f).roster = s.roster := by
    have hheard := heardFrom_roster_of_known (hstill.symm.imp_left And.left) f.number.toNat
    rw [← hheard]
    unfold skipHeard heardFrom
    split <;> simp
  rw [hskip] at hcounts ht
  obtain ⟨hcounts, hevn, hpend⟩ := hcounts
  have hrecords := ((s.skipHeard own f).settle_store s.order).2
  subst ht
  exact ⟨by simp [hroster], by simp [hcounters], by rw [settle_samples, hbuild],
    fun hinv => settlesBuilds_settle hinv (by rw [hbuild]), by rw [hrecords, hstore], hcounts, hevn, hpend, by simp [htime],
    by simp [hstart], by simp [htrig], by simp [hpins], by simp [hconfig], by simp [hfree]⟩

/-- R55: LATE_FRAGS counts a late part, and nothing counts one from outside. -/
theorem partTaken_counters_of_late (own : Bool) {f : FragFrame} (hm : s.isMember f.sender = true)
    (hn : f.number.toNat ≤ s.mark f.sender) : (s.partTaken own f).insp.counters = (s.bump .lateFrags).insp.counters := by
  have hmark : (s.heardFrom f.sender f.number.toNat).mark f.sender = s.mark f.sender :=
    congrArg RosterEntry.mark (heardFrom_mark_of_member hm _)
  rw [partTaken_insp, if_pos ⟨by simp [heeds, hm], hmark.symm ▸ hn⟩, bump, bump, setInsp_insp, setInsp_insp,
    (s.hearEvent_effects f.number.toNat).2.2.2.2]

theorem partTaken_counters_of_outside (own : Bool) {f : FragFrame} (hno : s.heeds f.sender = false) :
    (s.partTaken own f).insp.counters = s.insp.counters := by
  rw [partTaken_insp, if_neg (by simp [hno]), (s.hearEvent_effects f.number.toNat).2.2.2.2]

end State

/-- Settles O24. -/
theorem latePartsAndSkipsMoveNothing : Obligations.LatePartsAndSkipsMoveNothing := by
  intro s f k htracks
  refine ⟨fun hh hc hm hn => ?_, fun hh hc hno hout => ?_, fun hh hc hstill => ?_⟩
  · have hexec := State.exec_frag hh hc htracks
    have hended := s.ended_eq (.frag f)
    generalize (s.ended (.frag f)).frames = fr at hended
    rw [hended] at hexec
    have htr : (s.setFrames fr).tracks = true := htracks
    obtain ⟨hcounts, hevn, hpend, -, htime, hstart, htrig, hpins, hconfig, -⟩ :=
      State.handleFrag_counts (s.isOwn (.frag f)) f htr s.order rfl
    have hreach := State.partReaches_of_late (s := s.setFrames fr) hm hn
    obtain ⟨hsamples, hsettles, hfree, hinsp⟩ := State.handleFrag_unbuilt (own := s.isOwn (.frag f)) htr (Or.inr hreach)
    have hroster := State.handleFrag_roster_of_still (own := s.isOwn (.frag f)) htr (Or.inl ⟨hm, hn⟩)
    refine ⟨_, hexec, (State.settle_frame _ _).2.2.2.2.2.1.trans hroster, ?_, hsamples, hsettles, fun hkeeps => ?_,
      fun hown r hr hs => ?_, hcounts, hevn, hpend, htime, hstart, htrig, hpins, hconfig, hfree⟩
    · exact (congrArg Inspection.counters hinsp).trans
        (State.partTaken_counters_of_late (s := s.setFrames fr) (s.isOwn (.frag f)) hm hn)
    · exact State.handleFrag_untaken htr hkeeps s.order
    · rw [hown]
      exact State.handleFrag_taken_back (s := s.setFrames fr) htr hr hs s.order
  · have hexec := State.exec_frag hh hc htracks
    have hended := s.ended_eq (.frag f)
    generalize (s.ended (.frag f)).frames = fr at hended
    rw [hended] at hexec
    have htr : (s.setFrames fr).tracks = true := htracks
    obtain ⟨hcounts, hevn, hpend, -, htime, hstart, htrig, hpins, hconfig, -⟩ :=
      State.handleFrag_counts (s.isOwn (.frag f)) f htr s.order rfl
    have hreach := hout.imp_right (State.partReaches_of_outside (s := s.setFrames fr) hno)
    obtain ⟨-, hsettles, hfree, hinsp⟩ := State.handleFrag_unbuilt (own := s.isOwn (.frag f)) htr hreach
    have hroster := State.handleFrag_roster_of_still (own := s.isOwn (.frag f)) htr (Or.inr hno)
    refine ⟨_, hexec, (State.settle_frame _ _).2.2.2.2.2.1.trans hroster, ?_, hsettles, fun hkeeps => ?_,
      fun _ => State.handleFrag_heard htr hno s.order, hcounts, hevn, hpend, htime, hstart, htrig, hpins, hconfig, hfree⟩
    · exact (congrArg Inspection.counters hinsp).trans
        (State.partTaken_counters_of_outside (s := s.setFrames fr) (s.isOwn (.frag f)) hno)
    · exact State.handleFrag_untaken htr hkeeps s.order
  · have hexec := State.exec_skip hh hc htracks
    have hended := s.ended_eq (.skip k)
    generalize (s.ended (.skip k)).frames = fr at hended
    rw [hended] at hexec
    exact ⟨_, hexec, State.skip_still (s := s.setFrames fr) (own := s.isOwn (.skip k)) htracks hstill rfl⟩

end Sys2Proof.Machine
end

section
/-! The SKIPs that take effect: against another member (R63, R82, R61). -/
namespace Sys2Proof.Machine

namespace State
variable {s t u : State}

/-! ## The turn timer -/

theorem reassess_skips (s : State) :
    s.reassess.turn.timer.skips = s.turn.timer.skips ∨ s.reassess.turn.timer.skips = none := by
  have htimer : s.reassess.turn.timer = if s.removeDrained.timerStands then s.removeDrained.turn.timer
      else s.removeDrained.freshTimer := rfl
  have hturn : s.removeDrained.turn = s.turn := by simp
  rw [htimer, hturn]
  split
  · exact Or.inl rfl
  · exact Or.inr (Skips.freshTimer_skips _)

/-- R59: an evaluated timer is bound to the open turn that the station watches. -/
theorem reassess_bound (s : State) : s.reassess.turn.timer.bound
    = if s.reassess.watchedOpen then s.reassess.watchedNow else none := by
  have hcleared := (evalTimer_timerInv (s := s.removeDrained.setTurn { s.removeDrained.turn with heard := 0 })
    (Nat.zero_le _)).2.1
  have hview : s.reassess.SameView (s.removeDrained.setTurn { s.removeDrained.turn with heard := 0 }).evalTimer :=
    ⟨by simp, by simp, by simp, by simp, by simp⟩
  rw [hview.watchedOpen, hview.watchedNow] at hcleared
  exact hcleared

/-- R59: so to no event at or below its member's mark. -/
theorem reassess_bound_above {m : Addr} {n : Nat} (h : s.reassess.turn.timer.bound = some (m, n)) : s.mark m < n := by
  rw [reassess_bound] at h
  split at h
  · have hlt := (nextEvent_some (watchedNow_iff.mp h).2.2).1
    rwa [mark_of_roster (s := s) (by simp)] at hlt
  · cases h

/-- R63: no SKIP for the subject is offered any longer. -/
theorem withdrawSkipFor_skips (m : Addr) (s : State) :
    (s.withdrawSkipFor m).turn.timer.skips = none
      ∨ (s.withdrawSkipFor m).turn.timer.skips = s.turn.timer.skips ∧ s.turn.timer.skips.map (fun x => x.1) ≠ some m := by
  unfold withdrawSkipFor
  split
  · next x n ht =>
    split
    · exact Or.inl rfl
    · next hx => exact Or.inr ⟨rfl, by simpa [ht, TurnTimer.skips] using hx⟩
  · next ht =>
    cases hm : s.turn.timer with
    | stopped => exact Or.inl rfl
    | running x n left => exact Or.inl rfl
    | skipping x n => exact absurd hm (ht x n)

/-! ## The owners of a SKIP against another member -/

/-- R63: a SKIP against another member. -/
theorem skipTurn_of_other {m : Addr} {n : Nat} (h : m ≠ s.pins.address) :
    s.skipTurn m n = (s.missTurn m n).withdrawSkipFor m := by
  have hpins : ((s.missTurn m n).withdrawSkipFor m).pins = s.pins := by simp
  unfold skipTurn
  dsimp only
  rw [if_neg (by rwa [hpins])]

theorem handleSkip_other {own : Bool} {f : SkipFrame} (h : s.tracks = true) (hc : s.skipCounts f = true)
    (hne : f.subject ≠ s.pins.address) : s.handleSkip own f
      = ((((s.skipHeard own f).missTurn f.subject f.number.toNat).withdrawSkipFor f.subject).reassess).buildFrame
          f.number.toNat ((s.hearEvent f.number.toNat).takeTime f.number.toNat) (State.applySkip f) := by
  have hpins := (skipHeard_frame own f s).1
  rw [handleSkip_eq own f h, if_pos hc, skipTurn_of_other (by rwa [hpins])]

theorem handleSkip_other_faults {own : Bool} {f : SkipFrame} (h : s.tracks = true) (hc : s.skipCounts f = true)
    (hne : f.subject ≠ s.pins.address) : (s.handleSkip own f).insp.faults = s.refusalFaults f.number.toNat ∨ s.builds = true
      ∧ (s.handleSkip own f).insp.faults = (s.refusalFaults f.number.toNat).enter
        { code := .buildOverflow, context := f.number.toNat, time := s.time.counter, state := s.time.state } := by
  obtain ⟨hpins, hstart, hconfig, htrig, htime, -⟩ := skipHeard_frame own f s
  rw [handleSkip_other h hc hne]
  have hbuild := buildFrame_insp (n := f.number.toNat) (stamp := (s.hearEvent f.number.toNat).takeTime f.number.toNat)
    (applySkip_faults f)
    (((s.skipHeard own f).missTurn f.subject f.number.toNat).withdrawSkipFor f.subject).reassess
  have hbuilds : ((((s.skipHeard own f).missTurn f.subject f.number.toNat).withdrawSkipFor f.subject).reassess).builds
      = s.builds := by simp [builds, isCollector, hpins, hstart]
  have hinsp : ((((s.skipHeard own f).missTurn f.subject f.number.toNat).withdrawSkipFor f.subject).reassess).insp
      = (s.skipHeard own f).insp := by simp
  have htime' : ((((s.skipHeard own f).missTurn f.subject f.number.toNat).withdrawSkipFor f.subject).reassess).time
      = s.time := by simp [htime]
  rwa [hbuilds, hinsp, htime', (skipHeard_insp own f s).1] at hbuild

theorem applySkip_count (c : Counter) (f : SkipFrame) (b : Build) (s : State) : (s.applySkip f b).count c = s.count c := by
  simp [count]

/-- The counters that a SKIP against another member can move. -/
theorem handleSkip_other_count {own : Bool} {f : SkipFrame} (h : s.tracks = true) (hc : s.skipCounts f = true)
    (hne : f.subject ≠ s.pins.address) {c : Counter} (hlate : c ≠ .lateFrags) (hover : c ≠ .buildOverflows) :
    (s.handleSkip own f).count c = if own then (s.bump .skipsSent).count c else s.count c := by
  have hheard : (s.skipHeard own f).count c = if own then (s.bump .skipsSent).count c else s.count c := by
    rw [count, (skipHeard_insp own f s).2]
    split <;> rfl
  rw [handleSkip_other h hc hne, buildFrame_count hlate hover (applySkip_count c f), ← hheard]
  simp [count]

theorem handleSkip_other_turn {own : Bool} {f : SkipFrame} (h : s.tracks = true) (hc : s.skipCounts f = true)
    (hne : f.subject ≠ s.pins.address) (l : List Addr) :
    ((s.handleSkip own f).settle l).turn.timer.skips = none
      ∨ ((s.handleSkip own f).settle l).turn.timer.skips = (s.skipHeard own f).turn.timer.skips
        ∧ (s.skipHeard own f).turn.timer.skips.map (fun x => x.1) ≠ some f.subject := by
  have hturn : (s.handleSkip own f).turn
      = ((((s.skipHeard own f).missTurn f.subject f.number.toNat).withdrawSkipFor f.subject).reassess).turn := by
    rw [handleSkip_other h hc hne]
    simp
  have hmiss : ((s.skipHeard own f).missTurn f.subject f.number.toNat).turn = (s.skipHeard own f).turn := by simp
  rw [settle_turn]
  obtain hkept | hgone := reassess_skips (s.handleSkip own f)
  · rw [hkept, hturn]
    obtain hkept | hgone := reassess_skips (((s.skipHeard own f).missTurn f.subject f.number.toNat).withdrawSkipFor f.subject)
    · rw [hkept, ← hmiss]
      exact withdrawSkipFor_skips f.subject _
    · exact Or.inl hgone
  · exact Or.inl hgone

/-- R61, R62: the SKIP place of a station whose own SKIP ended, or another's. -/
theorem ended_skips (h : s.SkipInv) (k : SkipFrame) : if s.isOwn (.skip k) then (s.ended (.skip k)).frames.queue.skip = none
    else (s.ended (.skip k)).Skips := by
  unfold ended
  split
  · next hown =>
    simp only [isOwn, decide_eq_true_eq] at hown
    obtain ⟨p, -, -, hf⟩ | ⟨p, hp, hon, -⟩ | ⟨p, -, -, hf⟩ | ⟨p, -, -, hf⟩ := Queue.onWire_cases hown
    · cases hf
    · simp [endOwn, Queue.leaveSent, hp, Place.leaveSent, hon, h.1 p hp]
    · cases hf
    · cases hf
  · exact Skips.endOther h

theorem ownSkip_skips (s : State) : s.ownSkip.turn.timer.skips = none := by
  unfold ownSkip
  split
  · rfl
  · next h =>
    cases hm : s.turn.timer with
    | stopped => simp [hm, TurnTimer.skips]
    | running x n left => simp [hm, TurnTimer.skips]
    | skipping x n => exact absurd hm (h x n)

theorem heardEntry_of_heeded {m : Addr} (h : s.heeds m = true) : (s.heardEntry m).state = .present := by
  unfold heardEntry
  by_cases ha : (s.entry m).state = .absent
  · rw [if_pos ha]
  · rw [if_neg ha]
    rw [heeds_eq, Bool.or_eq_true, decide_eq_true_eq] at h
    have hmember := h.resolve_right fun hc => ha hc.1
    rw [isMember_eq, RosterEntry.isMember, Bool.and_eq_true, decide_eq_true_eq] at hmember
    exact hmember.1

theorem skipCounts_of_heeded {f : SkipFrame} (hm : s.heeds f.subject = true) (hn : s.mark f.subject < f.number.toNat) :
    s.skipCounts f = true := by
  rw [skipCounts, hm]
  exact decide_eq_true (heardFrom_mark_lt hn)

/-- R63, R82: the roster after a SKIP that takes effect. -/
theorem handleSkip_entry_of_heeded {own : Bool} {f : SkipFrame} (h : s.tracks = true) (hm : s.heeds f.subject = true)
    (hn : s.mark f.subject < f.number.toNat) (a : Addr) : (s.handleSkip own f).entry a =
      if a = f.subject then { s.heardEntry a with
        mark := f.number.toNat, misses := (s.heardEntry a).misses + 1
        state := if s.config.misslim ≤ (s.heardEntry a).misses + 1 then .silent else .present }
      else s.entry a := by
  rw [handleSkip_entry own f h, skipCounts_of_heeded hm hn]
  by_cases ha : a = f.subject
  · rw [if_pos ⟨rfl, ha⟩, if_pos ha, ha, heardFrom_entry hm]
    dsimp only
    rw [heardEntry_of_heeded hm]
  · rw [if_neg fun hc => ha hc.2, if_neg ha, heardFrom_entry_of_ne ha]

/-- R61: where the SKIP place followed the timer, no SKIP for the subject stands there, and after the own SKIP none. -/
theorem handleSkip_other_skip {own : Bool} {f : SkipFrame} (h : s.tracks = true) (hm : s.heeds f.subject = true)
    (hn : s.mark f.subject < f.number.toNat) (hne : f.subject ≠ s.pins.address) (l : List Addr)
    (hs : if own then s.frames.queue.skip = none else s.Skips) :
    (∀ p ∈ ((s.handleSkip own f).settle l).frames.queue.skip, p.frame.subject ≠ f.subject)
      ∧ (own = true → ((s.handleSkip own f).settle l).frames.queue.skip = none) := by
  have hkept : ((s.handleSkip own f).settle l).Skips := by
    refine (Skips.handleSkip own f (fun ho => ?_) fun ho => ?_).settle l
    · rwa [if_pos ho] at hs
    · rwa [if_neg (by simpa [h] using ho)] at hs
  have htimer := handleSkip_other_turn (own := own) h (skipCounts_of_heeded hm hn) hne l
  have hplace := hkept.timer
  constructor
  · intro p hp hsubject
    have hsome : ((s.handleSkip own f).settle l).turn.timer.skips.map (fun x => x.1) = some f.subject := by
      rw [← hplace, Option.mem_def.mp hp, ← hsubject]
      rfl
    obtain hnone | ⟨hsame, hother⟩ := htimer
    · rw [hnone] at hsome
      cases hsome
    · exact hother (hsame ▸ hsome)
  · intro ho
    have hnone : ((s.handleSkip own f).settle l).turn.timer.skips = none := by
      obtain hnone | ⟨hsame, -⟩ := htimer
      · exact hnone
      · rw [hsame, skipHeard, if_pos ho]
        exact ownSkip_skips _
    rw [hnone] at hplace
    exact Option.map_eq_none_iff.mp hplace

/-- R63, R82, R61, R62: a SKIP that takes effect against another member, but for the SKIP place. -/
theorem skip_other {own : Bool} {f : SkipFrame} (h : s.tracks = true) (hm : s.heeds f.subject = true)
    (hn : s.mark f.subject < f.number.toNat) (hne : f.subject ≠ s.pins.address) {t : State}
    (ht : t = (s.handleSkip own f).settle s.order) :
    (∀ a : Addr, t.entry a =
        if a = f.subject then { s.heardEntry a with
          mark := f.number.toNat, misses := (s.heardEntry a).misses + 1
          state := if s.config.misslim ≤ (s.heardEntry a).misses + 1 then .silent else .present }
        else s.entry a)
      ∧ t.count .skipsSent = (if own then saturate (s.count .skipsSent) else s.count .skipsSent)
      ∧ t.count .lateDrops = s.count .lateDrops
      ∧ t.store.records.map Record.content = s.store.records.map Record.content
      ∧ t.turn.timer.bound ≠ some (f.subject, f.number.toNat)
      ∧ t.turn.timer.skips.map (fun x => x.1) ≠ some f.subject
      ∧ s.CountsFrom t f.number.toNat
      ∧ t.agree.evn = s.agree.evn ∧ t.agree.pendingTakes = s.agree.pendingTakes
      ∧ t.time = s.time ∧ t.start = s.start ∧ t.trig = s.trig ∧ s.SameSetting t := by
  have hc := skipCounts_of_heeded hm hn
  obtain ⟨hcounts, hevn, hpend⟩ := handleSkip_counts own f h s.order (handleSkip_other_faults h hc hne)
  have hentry := handleSkip_entry_of_heeded (own := own) h hm hn
  have hcount (c : Counter) : ((s.handleSkip own f).settle s.order).count c = (s.handleSkip own f).count c := by
    simp [count]
  have hturn := handleSkip_other_turn (own := own) h hc hne s.order
  have hbound := fun hb => reassess_bound_above (s := s.handleSkip own f) (m := f.subject) (n := f.number.toNat) hb
  rw [← settle_turn s.order] at hbound
  obtain ⟨hpins, hstart, hconfig, htrig, htime, hstore, hbuild, hfree⟩ := skipHeard_frame own f s
  have hblocks : (s.handleSkip own f).store = s.store ∧ (s.handleSkip own f).start = s.start := by
    rw [handleSkip_other h hc hne]
    simp [hstore, hstart]
  subst ht
  refine ⟨fun a => ?_, ?_, ?_, ?_, fun hb => ?_, fun hs => ?_, hcounts, hevn, hpend, by simp, by simp [hblocks.2], by simp,
    by simp, by simp, by simp⟩
  · rw [entry_of_roster (s := s.handleSkip own f) (by simp), hentry]
  · rw [hcount, handleSkip_other_count h hc hne (by decide) (by decide), count_bump_self]
  · rw [hcount, handleSkip_other_count h hc hne (by decide) (by decide), count_bump_of_ne (by decide), ite_self]
  · rw [((s.handleSkip own f).settle_store s.order).2, hblocks.1]
  · have hlt := hbound hb
    rw [mark, hentry, if_pos rfl] at hlt
    exact absurd hlt (lt_irrefl _)
  · obtain hnone | ⟨hsame, hother⟩ := hturn
    · rw [hnone] at hs
      cases hs
    · exact hother (hsame ▸ hs)

end State

/-- Settles O25. -/
theorem skipTakesEffect : Obligations.SkipTakesEffect := by
  intro s k hh hc htracks hm hn hne
  have hexec := State.exec_skip hh hc htracks
  have hended := s.ended_eq (.skip k)
  have hskips := fun h => State.ended_skips (s := s) h k
  generalize (s.ended (.skip k)).frames = fr at hended
  rw [hended] at hexec hskips
  obtain ⟨hentry, hsent, hdrops, hstore, hbound, hskip, hrest⟩ :=
    State.skip_other (s := s.setFrames fr) (own := s.isOwn (.skip k)) htracks hm hn hne rfl
  exact ⟨_, hexec, hentry, hsent, hdrops, hstore, hbound, hskip,
    fun h => State.handleSkip_other_skip (s := s.setFrames fr) htracks hm hn hne s.order (hskips h), hrest⟩

end Sys2Proof.Machine
end

section
/-! The SKIP that takes effect against the station itself (R64, R19, R84). -/
namespace Sys2Proof.Machine

namespace State
variable {s t u : State}

/-! ## Settling outside the turns -/

theorem takesTurns_congr (hp : t.pins = s.pins) (hs : t.start = s.start) (hr : t.roster = s.roster) :
    t.takesTurns = s.takesTurns := by
  unfold takesTurns isAcquirer
  rw [hp, hs, order_of_roster hr]

/-- R59: outside the turns a blank turn unit stays blank. -/
theorem reassess_of_blank (h : s.takesTurns = false) (hq : s.frames.queue.skip = none) (ht : s.turn = Turn.blank) :
    s.reassess.turn = Turn.blank ∧ s.reassess.frames = s.frames := by
  have hnow : s.removeDrained.watchedNow = none := watchedNow_of_outside h
  have hturn : s.removeDrained.turn = Turn.blank := ht
  have hheard : s.removeDrained.heardNow = 0 := by
    rw [heardNow, hnow, hturn]
    rfl
  have heval := evalTimer_of_outside (s := s.removeDrained) h hq
  rw [hheard] at heval
  rw [reassess, heval]
  exact ⟨rfl, rfl⟩

/-- R88: where no turns are taken and no part or SKIP is offered, settling freshens the ROLL place alone. -/
theorem settle_of_blank (h : s.takesTurns = false) (hskip : s.frames.queue.skip = none)
    (hfrag : s.frames.queue.frag = none) (ht : s.turn = Turn.blank) (l : List Addr) :
    (s.settle l).turn = Turn.blank
      ∧ (s.settle l).frames = { s.frames with queue := { s.frames.queue with
          roll := s.frames.queue.roll.map s.refreshed } }
      ∧ (s.settle l).store = s.store := by
  obtain ⟨hturn, hframes⟩ := reassess_of_blank h hskip ht
  have hout : s.reassess.takesTurns = false := by
    rw [takesTurns_congr (s := s) (by simp) (by simp) (by simp), h]
  have hparts : s.reassess.offerParts = s.reassess :=
    (offerParts_of_no_turn (ownTurn_of_outside hout)).trans (withdrawFrag_of_none (by rw [hframes, hfrag]))
  have hrefreshed : s.reassess.refreshed = s.refreshed := by
    funext p
    simp [refreshed, joinPoint]
  have hroll : s.reassess.refreshRoll.frames = { s.frames with queue := { s.frames.queue with
      roll := s.frames.queue.roll.map s.refreshed } } := by
    rw [refreshRoll_eq, setQueue_frames, hrefreshed, hframes]
  refine ⟨(settle_turn l s).trans hturn, ?_, ?_⟩
  · rw [← hroll, settle, hparts]
    simp
  · rw [settle_records, hparts]
    simp

theorem withdraw_of_off {φ : Type} {o : Option (Place φ)} (h : ∀ p ∈ o, p.onWire = false) : Place.withdraw o = none := by
  cases o with
  | none => rfl
  | some p => simp [Place.withdraw, h p rfl]

/-! ## The SKIP place off the wire -/

/-- R136: the SKIP place is off the wire. -/
def SkipOff (s : State) : Prop := ∀ p ∈ s.frames.queue.skip, p.onWire = false

namespace SkipOff

theorem congr (h : s.SkipOff) (hq : t.frames.queue.skip = s.frames.queue.skip) : t.SkipOff := fun p hp => h p (hq ▸ hp)

theorem dropSkip (h : s.SkipOff) : s.dropSkip.SkipOff := by
  unfold State.dropSkip
  split
  · intro p hp
    rw [withdrawSkip_queue, withdraw_of_off h] at hp
    cases hp
  · exact h

theorem evalTimer (h : s.SkipOff) : s.evalTimer.SkipOff := by
  unfold State.evalTimer
  dsimp only
  split
  · exact h
  · exact h.dropSkip

theorem reassess (h : s.SkipOff) : s.reassess.SkipOff := evalTimer (h.congr (by simp))

theorem withdrawSkipFor (h : s.SkipOff) (m : Addr) : (s.withdrawSkipFor m).SkipOff := by
  unfold State.withdrawSkipFor
  split
  · split
    · exact h.dropSkip
    · exact h
  · exact h

end SkipOff

/-! ## The station's own record and mark -/

/-- R64: the station as the SKIP of its own turn leaves it, before it may be silenced. -/
def ownSkipped (f : SkipFrame) (s : State) : State :=
  (((s.heardFrom f.subject f.number.toNat).missTurn f.subject f.number.toNat).withdrawSkipFor f.subject).dropRecord
    f.number.toNat

theorem dropRecord_effects (n : Nat) (s : State) : (s.dropRecord n).insp.faults = s.insp.faults
    ∧ (s.dropRecord n).count .lateDrops
      = (if (s.record? n).isSome then saturate (s.count .lateDrops) else s.count .lateDrops)
    ∧ (s.dropRecord n).store.records = s.store.records.eraseP (fun q => q.number = n)
    ∧ (s.store = Store.empty → (s.dropRecord n).store = Store.empty) := by
  unfold dropRecord
  cases hr : s.record? n with
  | some r =>
    refine ⟨rfl, count_bump_self _ _, rfl, fun h => ?_⟩
    rw [record?, h] at hr
    cases hr
  | none =>
    refine ⟨rfl, rfl, ?_, fun h => h⟩
    rw [List.eraseP_of_forall_not]
    simpa [record?] using hr

theorem withdrawSkipFor_queue (m : Addr) (s : State) :
    (s.withdrawSkipFor m).frames.queue.takes = s.frames.queue.takes
      ∧ (s.withdrawSkipFor m).frames.queue.frag = s.frames.queue.frag
      ∧ (s.withdrawSkipFor m).frames.queue.roll = s.frames.queue.roll := by
  unfold withdrawSkipFor stopTimer dropSkip
  (repeat' split) <;> simp

theorem ownSkipped_frame (f : SkipFrame) (s : State) :
    (s.ownSkipped f).pins = s.pins ∧ (s.ownSkipped f).start = s.start ∧ (s.ownSkipped f).config = s.config
      ∧ (s.ownSkipped f).trig = s.trig ∧ (s.ownSkipped f).time = s.time
      ∧ (s.ownSkipped f).frames.queue.takes = s.frames.queue.takes
      ∧ (s.ownSkipped f).frames.queue.frag = s.frames.queue.frag
      ∧ (s.ownSkipped f).frames.queue.roll = s.frames.queue.roll := by
  unfold ownSkipped heardFrom hearMember
  simp [withdrawSkipFor_queue]

theorem ownSkipped_entry {f : SkipFrame} (hm : s.isMember f.subject = true) :
    (s.ownSkipped f).entry f.subject = { s.entry f.subject with
      mark := f.number.toNat, misses := (s.entry f.subject).misses + 1
      state := if s.config.misslim ≤ (s.entry f.subject).misses + 1 then .silent else .present } := by
  have hroster : (s.ownSkipped f).roster
      = ((s.heardFrom f.subject f.number.toNat).missTurn f.subject f.number.toNat).roster := by
    unfold ownSkipped
    simp
  have hpresent : (s.entry f.subject).state = .present := by
    rw [isMember_eq, RosterEntry.isMember, Bool.and_eq_true, decide_eq_true_eq] at hm
    exact hm.1
  have hconfig : (s.heardFrom f.subject f.number.toNat).config = s.config := by simp
  rw [entry_of_roster hroster, missTurn_entry, if_pos rfl, heardFrom_mark_of_member hm, hconfig, hpresent]

/-- R64, R84: a SKIP that takes effect against an acquirer itself. -/
theorem handleSkip_own {f : SkipFrame} (h : s.tracks = true) (hacq : s.isAcquirer = true)
    (hme : f.subject = s.pins.address) (hm : s.isMember f.subject = true) (hn : s.mark f.subject < f.number.toNat) :
    s.handleSkip false f = (if s.config.misslim ≤ (s.entry f.subject).misses + 1
      then (s.ownSkipped f).ownSilence f.number.toNat else s.ownSkipped f).reassess := by
  have hc : s.skipCounts f = true := skipCounts_of_heeded (by simp [heeds, hm]) hn
  have hturn : (s.skipHeard false f).skipTurn f.subject f.number.toNat
      = if s.config.misslim ≤ (s.entry f.subject).misses + 1
        then (s.ownSkipped f).ownSilence f.number.toNat else s.ownSkipped f := by
    have hsilent : ((s.ownSkipped f).entry f.subject).state = .silent
        ↔ s.config.misslim ≤ (s.entry f.subject).misses + 1 := by
      rw [ownSkipped_entry hm]
      dsimp only
      split
      · next hl => simp [hl]
      · next hl => simp [hl]
    have hpins : (((s.heardFrom f.subject f.number.toNat).missTurn f.subject f.number.toNat).withdrawSkipFor
        f.subject).pins = s.pins := by simp
    have hheard : s.skipHeard false f = s.heardFrom f.subject f.number.toNat := rfl
    unfold skipTurn
    dsimp only
    rw [hheard, hpins, if_pos hme]
    exact if_congr hsilent rfl rfl
  have hbuilds (t : State) (ht : t.pins = s.pins) (n : Nat) (stamp : Option Time) (g : Build → State → State) :
      t.buildFrame n stamp g = t := by
    unfold buildFrame builds isCollector
    have hrole : t.pins.role ≠ .collector := by
      rw [ht]
      intro hr
      simp [isAcquirer, hr] at hacq
    rw [decide_eq_false hrole]
    rfl
  rw [handleSkip_eq false f h, if_pos hc, hturn, hbuilds]
  split <;> simp [ownSkipped_frame]

/-! ## SILENCED -/

theorem ownSilence_of_mute (h : s.start.station = .mute) (n : Nat) : s.ownSilence n = s.raise .silenced n := by
  have hraised : (s.raise .silenced n).start = s.start := by simp
  unfold ownSilence
  dsimp only
  rw [hraised, h, if_neg (by simp)]
  unfold offerRoll
  rw [hraised, h, if_pos (by simp)]

/-- R84, R67, R69: a RUNNING acquirer enters SILENCED: nothing is offered but its TAKEs and a JOIN. -/
theorem ownSilence_of_running (hacq : s.isAcquirer = true) (h : s.start.station = .running) (hoff : s.SkipOff)
    (hfrag : ∀ p ∈ s.frames.queue.frag, p.onWire = false) (hroll : ∀ p ∈ s.frames.queue.roll, p.onWire = false)
    (n : Nat) : (s.ownSilence n).store = Store.empty ∧ (s.ownSilence n).turn = Turn.blank
      ∧ (s.ownSilence n).start = { s.start with station := .silenced }
      ∧ s.Raised (s.ownSilence n) .silenced n ∧ (s.ownSilence n).insp.counters = s.insp.counters
      ∧ (s.ownSilence n).frames.queue.skip = none ∧ (s.ownSilence n).frames.queue.frag = none
      ∧ (s.ownSilence n).frames.queue.takes = s.frames.queue.takes
      ∧ (s.start.muteAttr = false →
        (s.ownSilence n).frames.queue.roll = some (.fresh ((s.ownSilence n).rollFrame .join))) := by
  have hsilence : s.ownSilence n = (s.raise .silenced n).enterSilenced.offerRoll .join := by
    unfold ownSilence
    dsimp only
    rw [if_pos]
    simpa [isAcquirer, h] using hacq
  have hskip : (s.raise .silenced n).enterSilenced.frames.queue.skip = none := by
    simp [enterSilenced, withdraw_of_off hoff]
  have hfrags : (s.raise .silenced n).enterSilenced.frames.queue.frag = none := by
    simp [enterSilenced, withdraw_of_off hfrag]
  have hrolls : (s.raise .silenced n).enterSilenced.frames.queue.roll = s.frames.queue.roll := by
    simp [enterSilenced]
  have hstart : (s.raise .silenced n).enterSilenced.start = { s.start with station := .silenced } := by
    simp [enterSilenced]
  have hoffered : (s.raise .silenced n).enterSilenced.offerRoll .join = if s.start.muteAttr
      then (s.raise .silenced n).enterSilenced
      else (s.raise .silenced n).enterSilenced.setQueue { (s.raise .silenced n).enterSilenced.frames.queue with
        roll := some (.fresh ((s.raise .silenced n).enterSilenced.rollFrame .join)) } := by
    have hplace : ∀ g : RollFrame, Place.offer g s.frames.queue.roll = some (.fresh g) := fun g => by
      cases hr : s.frames.queue.roll with
      | none => rfl
      | some p => simp [Place.offer, hroll p hr]
    unfold offerRoll
    rw [hstart, hrolls, hplace]
    simp
  rw [hsilence, hoffered]
  split
  · next hm =>
    exact ⟨by simp [enterSilenced], by simp [enterSilenced], hstart, by simp [enterSilenced, Raised, raise],
      by simp [enterSilenced, raise], hskip, hfrags, by simp [enterSilenced], fun h => absurd hm (by simp [h])⟩
  · exact ⟨by simp [enterSilenced], by simp [enterSilenced], hstart, by simp [enterSilenced, Raised, raise],
      by simp [enterSilenced, raise], hskip, hfrags, by simp [enterSilenced], fun _ => rfl⟩

/-! ## The whole reception -/

theorem ownSkipped_effects (f : SkipFrame) (s : State) :
    (s.ownSkipped f).insp.faults = s.refusalFaults f.number.toNat
      ∧ (s.ownSkipped f).count .lateDrops
        = (if (s.record? f.number.toNat).isSome then saturate (s.count .lateDrops) else s.count .lateDrops)
      ∧ (s.ownSkipped f).store.records = s.store.records.eraseP (fun q => q.number = f.number.toNat)
      ∧ (s.store = Store.empty → (s.ownSkipped f).store = Store.empty) := by
  have hstore : (((s.heardFrom f.subject f.number.toNat).missTurn f.subject f.number.toNat).withdrawSkipFor f.subject).store
      = s.store := by simp
  have hinsp : (((s.heardFrom f.subject f.number.toNat).missTurn f.subject f.number.toNat).withdrawSkipFor f.subject).insp
      = (s.hearEvent f.number.toNat).insp := by
    rw [← hearMember_insp f.subject f.number.toNat (s.hearEvent f.number.toNat)]
    simp [heardFrom]
  obtain ⟨hfaults, hdrops, hrecords, hempty⟩ := dropRecord_effects f.number.toNat
    (((s.heardFrom f.subject f.number.toNat).missTurn f.subject f.number.toNat).withdrawSkipFor f.subject)
  rw [count, count, hinsp, (s.hearEvent_effects f.number.toNat).2.2.2.2, record?, hstore, ← record?] at hdrops
  rw [hinsp, (s.hearEvent_effects f.number.toNat).2.2.2.1] at hfaults
  rw [hstore] at hrecords hempty
  exact ⟨hfaults, hdrops, hrecords, hempty⟩

theorem ownSkipped_skipOff (h : s.SkipOff) (f : SkipFrame) : (s.ownSkipped f).SkipOff := by
  have hheard : (s.heardFrom f.subject f.number.toNat).SkipOff := SkipOff.reassess (h.congr (by simp))
  have hmissed : ((s.heardFrom f.subject f.number.toNat).missTurn f.subject f.number.toNat).SkipOff :=
    hheard.congr (by simp)
  unfold ownSkipped
  exact (hmissed.withdrawSkipFor f.subject).congr (by simp)

/-- R64, R48: what every SKIP that takes effect against an acquirer itself does. -/
theorem handleSkip_own_common {f : SkipFrame} (h : s.tracks = true) (hacq : s.isAcquirer = true)
    (hme : f.subject = s.pins.address) (hm : s.isMember f.subject = true) (hn : s.mark f.subject < f.number.toNat)
    {t : State} (ht : t = (s.handleSkip false f).settle s.order) :
    t.count .lateDrops = (if (s.record? f.number.toNat).isSome then saturate (s.count .lateDrops)
        else s.count .lateDrops)
      ∧ t.entry f.subject = { s.entry f.subject with
        mark := f.number.toNat, misses := s.ownEntry.misses + 1
        state := if s.config.misslim ≤ s.ownEntry.misses + 1 then .silent else .present }
      ∧ (∀ a : Addr, a ≠ f.subject → t.entry a = s.entry a)
      ∧ t.agree.evn = s.agree.evn ∧ t.agree.pendingTakes = s.agree.pendingTakes
      ∧ t.frames.queue.takes = s.frames.queue.takes
      ∧ t.time = s.time ∧ t.trig = s.trig ∧ s.SameSetting t := by
  have hown := handleSkip_own h hacq hme hm hn
  have hrun := handleSkip_run false f h
  have hheard := hearEvent_run f.number.toNat s
  have hsettle := settle_run s.order (s.handleSkip false f)
  have hentry := handleSkip_entry_of_heeded (own := false) h (by simp [heeds, hm]) hn
  have hknown : s.heardEntry f.subject = s.entry f.subject := by
    unfold heardEntry
    rw [if_neg]
    intro ha
    rw [isMember_eq, not_member_of_absent ha] at hm
    cases hm
  have hself : s.ownEntry = s.entry f.subject := by rw [hme]; rfl
  obtain ⟨-, -, -, -, -, htakes, -⟩ := ownSkipped_frame f s
  have hsilence (z : State) : (z.ownSilence f.number.toNat).count .lateDrops = z.count .lateDrops
      ∧ (z.ownSilence f.number.toNat).frames.queue.takes = z.frames.queue.takes := by
    unfold ownSilence enterSilenced offerRoll
    dsimp only
    (repeat' split) <;> exact ⟨rfl, rfl⟩
  have hcount (c : Counter) : ((s.handleSkip false f).settle s.order).count c = (s.handleSkip false f).count c := by
    simp [count]
  have hblocks : (s.handleSkip false f).count .lateDrops = (s.ownSkipped f).count .lateDrops
      ∧ (s.handleSkip false f).frames.queue.takes = s.frames.queue.takes := by
    have hreassess (z : State) : z.reassess.count .lateDrops = z.count .lateDrops
        ∧ z.reassess.frames.queue.takes = z.frames.queue.takes := ⟨by simp [count], by simp⟩
    rw [hown, ← htakes, (hreassess _).1, (hreassess _).2]
    split
    · exact hsilence _
    · exact ⟨rfl, rfl⟩
  subst ht
  refine ⟨?_, ?_, fun a ha => ?_, ?_, ?_, ?_, by simp, by simp, by simp, by simp, by simp⟩
  · rw [hcount, hblocks.1, (ownSkipped_effects f s).2.1]
  · rw [entry_of_roster (s := s.handleSkip false f) (by simp), hentry, if_pos rfl, hknown, hself]
  · rw [entry_of_roster (s := s.handleSkip false f) (by simp), hentry, if_neg ha]
  · exact hsettle.evn.trans (hrun.evn.trans hheard.1)
  · exact hsettle.pendingTakes.trans (hrun.pendingTakes.trans hheard.2.1)
  · rw [(settle_queue _ _).1, hblocks.2]

theorem wires_off {q : Queue} (h : q.wires = 0) : (∀ p ∈ q.skip, p.onWire = false) ∧ (∀ p ∈ q.frag, p.onWire = false)
    ∧ ∀ p ∈ q.roll, p.onWire = false := by
  have hoff {φ : Type} {o : Option (Place φ)} (ho : Place.wires o = 0) : ∀ p ∈ o, p.onWire = false := fun p hp => by
    rw [Option.mem_def.mp hp] at ho
    cases hon : p.onWire with
    | false => rfl
    | true => simp [Place.wires, hon] at ho
  rw [Queue.wires_eq] at h
  exact ⟨hoff (by omega), hoff (by omega), hoff (by omega)⟩

theorem reassess_of_outside (h : s.takesTurns = false) (hq : s.frames.queue.skip = none) :
    s.reassess.turn.timer = .stopped ∧ s.reassess.frames = s.frames := by
  have heval := evalTimer_of_outside (s := s.removeDrained) h hq
  rw [reassess, heval]
  exact ⟨rfl, rfl⟩

theorem ownSkipped_of_mute (hs : s.start.station = .mute) (hq : s.frames.queue = Queue.empty) (f : SkipFrame) :
    (s.ownSkipped f).frames.queue = Queue.empty := by
  have hlearned : ((s.hearEvent f.number.toNat).learn f.subject f.number.toNat).frames = s.frames := by simp
  obtain ⟨htimer, hframes⟩ := reassess_of_outside (s := (s.hearEvent f.number.toNat).learn f.subject f.number.toNat)
    (takesTurns_of_station (by simp [hs])) (by rw [hlearned, hq]; rfl)
  rw [hlearned] at hframes
  have hmissed : ((s.heardFrom f.subject f.number.toNat).missTurn f.subject f.number.toNat).withdrawSkipFor f.subject
      = (s.heardFrom f.subject f.number.toNat).missTurn f.subject f.number.toNat := by
    unfold withdrawSkipFor
    have hstopped : ((s.heardFrom f.subject f.number.toNat).missTurn f.subject f.number.toNat).turn.timer = .stopped := by
      simpa [heardFrom, hearMember] using htimer
    rw [hstopped]
  have hheard : (s.heardFrom f.subject f.number.toNat).frames = s.frames := hframes
  unfold ownSkipped
  rw [hmissed]
  simp [hheard, hq]

/-- R84: a RUNNING acquirer that the SKIP silences. -/
theorem handleSkip_own_silenced {f : SkipFrame} (hacq : s.isAcquirer = true) (hs : s.start.station = .running)
    (hme : f.subject = s.pins.address) (hm : s.isMember f.subject = true) (hn : s.mark f.subject < f.number.toNat)
    (hw : s.frames.queue.wires = 0) (hmiss : s.config.misslim ≤ s.ownEntry.misses + 1) {t : State}
    (ht : t = (s.handleSkip false f).settle s.order) :
    t.start = { s.start with station := .silenced } ∧ t.store = Store.empty ∧ t.frames.queue.frag = none
      ∧ t.frames.queue.skip = none ∧ t.turn = Turn.blank
      ∧ t.frames.queue.roll.map (fun p => (p.frame.mode, p.frame.field)) =
        (if s.start.muteAttr then t.frames.queue.roll.map (fun p => (p.frame.mode, p.frame.field))
          else some (.join, t.joinPoint))
      ∧ t.insp.faults.flags.getLsbD 6 = true := by
  have htracks : s.tracks = true := by simp [tracks, hs]
  have hself : s.ownEntry = s.entry f.subject := by rw [hme]; rfl
  obtain ⟨hpins, hstart, hconfig, htrig, htime, htakes, hfrag, hroll⟩ := ownSkipped_frame f s
  obtain ⟨hfaults, -⟩ := ownSkipped_effects f s
  obtain ⟨oskip, ofrag, oroll⟩ := wires_off hw
  have hsilence := ownSilence_of_running (s := s.ownSkipped f) (by simpa [isAcquirer, hpins] using hacq)
    (by rw [hstart, hs]) (ownSkipped_skipOff oskip f) (by rwa [hfrag]) (by rwa [hroll]) f.number.toNat
  have hown := handleSkip_own htracks hacq hme hm hn
  rw [if_pos (hself ▸ hmiss)] at hown
  generalize (s.ownSkipped f).ownSilence f.number.toNat = v at hsilence hown
  obtain ⟨vstore, vturn, vstart, vraised, -, vskip, vfrag, -, vroll⟩ := hsilence
  have hout : v.takesTurns = false := takesTurns_of_station (by simp [vstart])
  obtain ⟨rturn, rframes⟩ := reassess_of_blank hout vskip vturn
  have rstart : v.reassess.start = v.start := by simp
  obtain ⟨tturn, tframes, tstore⟩ := settle_of_blank (s := v.reassess)
    (takesTurns_of_station (by simp [vstart])) (by rw [rframes, vskip]) (by rw [rframes, vfrag]) rturn s.order
  rw [ht, hown]
  refine ⟨by simp [vstart, hstart], by rw [tstore]; simp [vstore], by rw [tframes, rframes]; exact vfrag,
    by rw [tframes, rframes]; exact vskip, tturn, ?_, ?_⟩
  · split
    · rfl
    · next hmute =>
      have hjoin : ((v.reassess.settle s.order)).joinPoint = v.reassess.joinPoint := by simp [joinPoint]
      rw [tframes, rframes, vroll (by rw [hstart]; simpa using hmute), hjoin]
      rfl
  · have hflag := vraised.flag 6
    simpa [FaultCode.number] using hflag

/-- R64: a RUNNING acquirer that stays RUNNING. -/
theorem handleSkip_own_running {f : SkipFrame} (hacq : s.isAcquirer = true) (hs : s.start.station = .running)
    (hme : f.subject = s.pins.address) (hm : s.isMember f.subject = true) (hn : s.mark f.subject < f.number.toNat)
    (hmiss : s.ownEntry.misses + 1 < s.config.misslim) {t : State} (ht : t = (s.handleSkip false f).settle s.order) :
    t.start = s.start ∧ t.store.records.map Record.content
      = (s.store.records.eraseP fun q => q.number = f.number.toNat).map Record.content := by
  have htracks : s.tracks = true := by simp [tracks, hs]
  have hself : s.ownEntry = s.entry f.subject := by rw [hme]; rfl
  have hown := handleSkip_own htracks hacq hme hm hn
  rw [if_neg (Nat.not_le.mpr (hself ▸ hmiss))] at hown
  obtain ⟨-, -, hrecords, -⟩ := ownSkipped_effects f s
  obtain ⟨-, hstart, -⟩ := ownSkipped_frame f s
  rw [ht, hown]
  refine ⟨by simp [hstart], ?_⟩
  rw [(settle_store _ _).2, ← hrecords]
  simp

/-- R64, R84: a MUTE acquirer raises SILENCED, and that is all. -/
theorem handleSkip_own_mute {f : SkipFrame} (hacq : s.isAcquirer = true) (hs : s.start.station = .mute)
    (hme : f.subject = s.pins.address) (hm : s.isMember f.subject = true) (hn : s.mark f.subject < f.number.toNat)
    (hq : s.frames.queue = Queue.empty) (hstore : s.store = Store.empty) {t : State}
    (ht : t = (s.handleSkip false f).settle s.order) :
    t.start = s.start ∧ t.store = Store.empty ∧ t.frames.queue = Queue.empty ∧ t.turn.timer = .stopped
      ∧ (s.config.misslim ≤ s.ownEntry.misses + 1 → t.insp.faults.flags.getLsbD 6 = true
        ∧ (s.agree.takeList.length < 64 → s.Raised t .silenced f.number.toNat)) := by
  have htracks : s.tracks = true := by simp [tracks, hs]
  have hself : s.ownEntry = s.entry f.subject := by rw [hme]; rfl
  obtain ⟨hpins, hstart, hconfig, htrig, htime, -⟩ := ownSkipped_frame f s
  obtain ⟨hfaults, -, -, hempty⟩ := ownSkipped_effects f s
  have hown := handleSkip_own htracks hacq hme hm hn
  rw [ownSilence_of_mute (by rw [hstart, hs])] at hown
  have hqueue := ownSkipped_of_mute hs hq f
  obtain ⟨v, hv, vqueue, vstore, vstart⟩ : ∃ v : State, s.handleSkip false f = v.reassess
      ∧ v.frames.queue = Queue.empty ∧ v.store = Store.empty ∧ v.start = s.start := by
    refine ⟨_, hown, ?_, ?_, ?_⟩
    · rw [← hqueue, apply_ite State.frames]
      simp
    · rw [← hempty hstore, apply_ite State.store]
      simp
    · rw [← hstart, apply_ite State.start]
      simp
  obtain ⟨-, rframes⟩ := reassess_of_outside (s := v) (takesTurns_of_station (by simp [vstart, hs]))
    (by rw [vqueue]; rfl)
  obtain ⟨ttimer, tframes, tstore⟩ := settle_of_outside (s := v.reassess)
    (takesTurns_of_station (by simp [vstart, hs])) (by rw [rframes, vqueue]) s.order
  rw [ht]
  refine ⟨by simp [hv, vstart], by rw [hv, tstore]; simp [vstore], by rw [hv, tframes, rframes, vqueue],
    by rw [hv, ttimer], fun hmiss => ?_⟩
  rw [if_pos (hself ▸ hmiss)] at hown
  have hinsp : ((s.handleSkip false f).settle s.order).insp = ((s.ownSkipped f).raise .silenced f.number.toNat).insp := by
    rw [hown]
    simp
  have hraised : (s.ownSkipped f).Raised ((s.handleSkip false f).settle s.order) .silenced f.number.toNat :=
    congrArg Inspection.faults hinsp
  refine ⟨?_, fun hroom => ?_⟩
  · have hflag := hraised.flag 6
    simpa [FaultCode.number] using hflag
  · have hfree : s.refusalFaults f.number.toNat = s.insp.faults := if_neg fun h => absurd h.2.1 (Nat.not_le.mpr hroom)
    rwa [Raised, hfaults, hfree, htime] at hraised

end State

/-- Settles O26. -/
theorem ownSkipDropsAndSilences : Obligations.OwnSkipDropsAndSilences := by
  intro s k hh hf hacq hstation hme hm hn
  have htracks : s.tracks = true := by
    rw [State.tracks_iff]
    rcases hstation with hs | ⟨hs, -⟩ <;> simp [hs]
  have hexec := State.exec_skip hh (Or.inr (Or.inl hf.2)) htracks
  have hended := s.ended_eq (.skip k)
  have hwires := s.ended_wires (.skip k)
  have htakes := s.ended_takes (.skip k)
  have hqueue : s.frames.queue = Queue.empty → (s.ended (.skip k)).frames.queue = Queue.empty := by
    intro hq
    rw [State.ended, hf.1, if_neg Bool.false_ne_true, State.endOther_eq, State.leaveWire_eq, hq]
    rfl
  rw [hf.1] at hexec htakes
  generalize (s.ended (.skip k)).frames = fr at hended hwires htakes hqueue
  rw [hended] at hexec
  obtain ⟨hdrops, hown, hothers, hevn, hpend, hsame, htime, htrig, hsetting⟩ :=
    State.handleSkip_own_common (s := s.setFrames fr) htracks hacq hme hm hn rfl
  refine ⟨_, hexec, fun hs => ?_, fun hs hmiss => ?_, fun hs hmiss => ?_, hdrops, hown, hothers, hevn, hpend, ?_, htime,
    htrig, hsetting⟩
  · have hfits := State.Coherent.fits (hstation.resolve_left (by simp [hs])).2
    exact State.handleSkip_own_mute (s := s.setFrames fr) hacq hs hme hm hn (hqueue (hfits.queue (Or.inr (Or.inl hs))))
      (hfits.store.resolve_left fun hd => absurd hd.2.1 (by simp [hs])) rfl
  · exact State.handleSkip_own_running (s := s.setFrames fr) hacq hs hme hm hn hmiss rfl
  · exact State.handleSkip_own_silenced (s := s.setFrames fr) hacq hs hme hm hn hwires hmiss rfl
  · exact congrArg (List.map fun p => p.frame) (hsame.trans htakes)

end Sys2Proof.Machine
end

section
/-! ROLL frames outside ROLLCALL: what a CALL, a JOIN and an ECHO do to their sender's entry, to the ROLL place and, at
the own JOIN, to the state and the numbering (R75 to R80, R28). -/

namespace Sys2Proof.Machine

/-- R76, R77, R80: what a ROLL frame with a matching signature makes of its sender's entry. -/
def RosterEntry.rolled (f : RollFrame) (e : RosterEntry) : RosterEntry :=
  match f.mode with
  | .call => e.called f
  | .join => e.joined f
  | .echo => e.echoed f

theorem RosterEntry.called_eq (f : RollFrame) (e : RosterEntry) : e.called f = { e with
    role := some f.role, count := f.count
    state := if e.state = .silent then .silent else .calling
    mark := if e.state = .present then 0 else e.mark
    misses := if e.state = .silent then e.misses else 0 } := by
  cases hs : e.state <;> simp [RosterEntry.called, RosterEntry.withRoll, hs]

namespace State
variable {s t u : State}

/-! ## Receptions out of LISTENING -/

/-- A frame heard without a clash goes to its owners; but for LISTENING no state is left at it (R178). -/
theorem received_of_heard {f : Frame} (hh : s.Hears f) (hc : s.NoClash f) (hs : s.start.station ≠ .listening) :
    s.received f = ((s.ended f).giveOwners (s.isOwn f) f).settle s.order := by
  obtain ⟨-, -, hr⟩ := hh
  have heq := s.ended_eq f
  have hclash : (s.ended f).clashCheck (s.isOwn f) f = s.ended f := clashCheck_of_noClash (by rw [heq]; exact hc)
  have hleave : (s.ended f).leaveListening f = s.ended f := if_neg (by rw [heq]; exact hs)
  have hrestarting : (s.ended f).trig.restarting = false := by rw [heq]; exact hr
  have horder : (s.ended f).order = s.order := by rw [heq]; rfl
  have hhandle : s.received f = (s.ended f).handleFrame (s.isOwn f) f := rfl
  rw [hhandle, handleFrame, hclash, hleave, hrestarting, horder]
  rfl

theorem exec_roll {f : RollFrame} (hh : s.Hears (.roll f)) (hc : s.NoClash (.roll f)) (hs : s.start.station ≠ .listening) :
    exec (.rollReception f) s
      = .next (((s.ended (.roll f)).handleRoll (s.isOwn (.roll f)) f).settle s.order) := by
  have hexec := exec_reception hh
  rw [received_of_heard hh hc hs] at hexec
  exact hexec

/-! ## The ROLL place -/

theorem joinPoint_of_highTake (h : t.agree.highTake = s.agree.highTake) : t.joinPoint = s.joinPoint := by
  rw [joinPoint, joinPoint, h]

theorem settle_joinPoint (l : List Addr) (s : State) : (s.settle l).joinPoint = s.joinPoint := by
  obtain ⟨-, -, -, hhigh, -⟩ := s.settle_takes l
  exact joinPoint_of_highTake hhigh

/-- R74, R88: settling refreshes the ROLL place, and that is all it does there. -/
theorem settle_roll (l : List Addr) (s : State) :
    (s.settle l).frames.queue.roll = s.frames.queue.roll.map s.refreshed := by
  have hpoint : s.reassess.offerParts.joinPoint = s.joinPoint := joinPoint_of_highTake (by simp [reassess])
  have hrefreshed : s.reassess.offerParts.refreshed = s.refreshed := by
    funext p
    rw [refreshed, refreshed, hpoint]
  have hframes : (s.settle l).frames = s.reassess.offerParts.refreshRoll.frames := by simp [settle]
  rw [hframes, refreshRoll_eq, hrefreshed]
  simp

/-- R74: what settling leaves of a ROLL frame off the wire. -/
theorem settle_roll_of_fresh {g : RollFrame} (h : s.frames.queue.roll = some (.fresh g)) (l : List Addr) :
    (s.settle l).frames.queue.roll.map (fun p => p.frame)
      = some (if g.mode = .call then g else { g with field := (s.settle l).joinPoint }) := by
  rw [settle_roll, h, settle_joinPoint]
  by_cases hm : g.mode = .call <;> simp [refreshed, Place.fresh, hm]

theorem settle_roll_none (h : s.frames.queue.roll = none) (l : List Addr) : (s.settle l).frames.queue.roll = none := by
  rw [settle_roll, h]
  rfl

theorem ended_other {f : Frame} (h : s.isOwn f = false) (hr : (s.frames.queue.roll.bind Place.leaveUnsent) = none) :
    (s.ended f).frames.queue.roll = none := by
  rw [ended, h, if_neg Bool.false_ne_true, endOther_eq, leaveWire_eq, hr]
  rfl

/-- R139: the sent ROLL frame leaves its place to the kept offer. -/
theorem ended_own {f : RollFrame} (h : s.isOwn (.roll f) = true) :
    (s.ended (.roll f)).frames.queue.roll = (s.frames.queue.roll.bind Place.keptOffer).map Place.fresh := by
  obtain ⟨p, hp, hwire, -⟩ := Queue.roll_of_onWire (by simpa [isOwn] using h : s.frames.queue.onWire = some (.roll f))
  have hended : (s.ended (.roll f)).frames.queue.roll = s.frames.queue.roll.bind Place.leaveSent := by
    rw [ended, if_pos h]
    rfl
  rw [hended, hp, Option.bind_some, Option.bind_some, Place.leaveSent, if_pos hwire, Place.keptOffer]
  cases p.kept <;> rfl

/-! ## The sender's entry -/

theorem modifyEntry_entry (g : RosterEntry → RosterEntry) (a b : Addr) (s : State) :
    (s.modifyEntry a g).entry b = if b = a then g (s.entry a) else s.entry b := by
  rw [modifyEntry, entry_setEntry]

/-- R47, R87: but for a collector's own, the entry follows the frame. -/
theorem hearRoll_of_other {a : Addr} (h : s.ownsEntry a = false) (g : RosterEntry → RosterEntry) :
    s.hearRoll a g = s.modifyEntry a g := by
  rw [hearRoll, h, if_neg Bool.false_ne_true]

theorem hearRoll_of_owned {a : Addr} (h : s.ownsEntry a = true) (g : RosterEntry → RosterEntry) : s.hearRoll a g = s := by
  rw [hearRoll, h, if_pos rfl]

theorem ownsEntry_of_ne {a : Addr} (h : a ≠ s.pins.address ∨ s.isAcquirer = true) : s.ownsEntry a = false := by
  unfold ownsEntry
  rcases h with h | h
  · simp [h]
  · simp [isCollector_of_acquirer h]

/-! ## A ROLL of another station -/

/-- R80: a RUNNING station with an empty ROLL place offers an ECHO. -/
theorem offerEcho_roll (hs : s.start.station = .running) (hm : s.start.muteAttr = false)
    (hr : s.frames.queue.roll = none) : s.offerEcho.frames.queue.roll = some (.fresh (s.rollFrame .echo)) := by
  simp [offerEcho, offerRoll, hs, hm, hr, Place.offer]

/-- R80: an ECHO off the wire is withdrawn. -/
theorem withdrawEcho_roll (h : ∀ p ∈ s.frames.queue.roll, p.onWire = false) :
    ∀ p ∈ s.withdrawEcho.frames.queue.roll, p.frame.mode ≠ .echo := by
  intro p hp
  unfold withdrawEcho at hp
  split at hp
  · next q hq =>
    split at hp
    · simp [Place.withdraw, h q (by rw [hq]; rfl)] at hp
    · next hmode =>
      obtain rfl : q = p := by simpa [hq] using hp
      exact hmode
  · next hq => simp [hq] at hp

/-- R75 to R80: what a ROLL frame with a matching signature moves. -/
theorem otherRoll_of_match {f : RollFrame} (hsig : f.signature = s.config.signature) (ho : s.ownsEntry f.sender = false) :
    (∀ a : Addr, (s.otherRoll f).entry a = if a = f.sender then (s.entry f.sender).rolled f else s.entry a)
      ∧ (s.otherRoll f).insp = s.insp
      ∧ (s.otherRoll f).agree = (if f.mode = .call then s else s.raiseHighTake (joinMark f.field)).agree := by
  have howned (n : Nat) : (s.raiseHighTake n).ownsEntry f.sender = false := by simpa [ownsEntry, isCollector] using ho
  have hentry (n : Nat) (a : Addr) : (s.raiseHighTake n).entry a = s.entry a := entry_of_roster (by simp) a
  unfold otherRoll
  rw [if_neg (not_not.mpr hsig)]
  cases hm : f.mode with
  | call =>
    dsimp only
    rw [hearRoll_of_other ho]
    have hoffer (a : Addr) : (s.modifyEntry f.sender (RosterEntry.called f)).offerEcho.entry a
        = (s.modifyEntry f.sender (RosterEntry.called f)).entry a := entry_of_roster (by simp) a
    refine ⟨fun a => ?_, by simp, by simp⟩
    rw [hoffer, modifyEntry_entry, RosterEntry.rolled, hm]
  | join =>
    dsimp only
    rw [hearRoll_of_other (howned _)]
    refine ⟨fun a => ?_, by simp, by simp⟩
    rw [modifyEntry_entry, hentry, hentry, RosterEntry.rolled, hm]
  | echo =>
    dsimp only
    rw [hearRoll_of_other (howned _)]
    have hwithdraw (u : State) (a : Addr) : u.withdrawEcho.entry a = u.entry a := entry_of_roster (by simp) a
    refine ⟨fun a => ?_, by simp, by simp⟩
    rw [hwithdraw, modifyEntry_entry, hentry, hentry, RosterEntry.rolled, hm]

/-- R80: a CALL draws an ECHO, whatever its signature. -/
theorem otherRoll_offers {f : RollFrame} (hm : f.mode = .call) (hs : s.start.station = .running)
    (ha : s.start.muteAttr = false) (hr : s.frames.queue.roll = none) :
    ∃ g, (s.otherRoll f).frames.queue.roll = some (.fresh g) ∧ g.mode = .echo := by
  have hoffer (u : State) (hstart : u.start = s.start) (hframes : u.frames = s.frames) :
      ∃ g, u.offerEcho.frames.queue.roll = some (.fresh g) ∧ g.mode = .echo :=
    ⟨_, offerEcho_roll (by rw [hstart, hs]) (by rw [hstart, ha]) (by rw [hframes, hr]), rfl⟩
  unfold otherRoll
  split
  · exact hoffer _ (by simp) (by simp)
  · rw [hm]
    exact hoffer _ (by simp) (by simp)

/-- R80: an ECHO withdraws the own one. -/
theorem otherRoll_withdraws {f : RollFrame} (hsig : f.signature = s.config.signature) (hm : f.mode = .echo)
    (h : ∀ p ∈ s.frames.queue.roll, p.onWire = false) :
    ∀ p ∈ (s.otherRoll f).frames.queue.roll, p.frame.mode ≠ .echo := by
  unfold otherRoll
  rw [if_neg (not_not.mpr hsig), hm]
  exact withdrawEcho_roll (by simpa using h)

theorem refreshed_mode (s : State) (p : Place RollFrame) : (s.refreshed p).frame.mode = p.frame.mode := by
  unfold refreshed
  split <;> rfl

theorem joinMark_eq (x : BitVec 32) : joinMark x = if x = 0 then maxEvent else x.toNat - 1 := rfl

theorem raiseHighTake_highTake (n : Nat) (s : State) : (s.raiseHighTake n).agree.highTake
    = if s.start.station = .joining then max s.agree.highTake n else s.agree.highTake := by
  unfold raiseHighTake
  split <;> rfl

theorem raiseHighTake_agree (n : Nat) (s : State) : (s.raiseHighTake n).agree.evn = s.agree.evn
    ∧ (s.raiseHighTake n).agree.pendingTakes = s.agree.pendingTakes
    ∧ (s.raiseHighTake n).agree.takeList = s.agree.takeList := by
  unfold raiseHighTake
  split <;> exact ⟨rfl, rfl, rfl⟩

theorem tracks_station (h : s.tracks = true) : s.start.station ≠ .listening ∧ s.start.station ≠ .rollcall := by
  constructor <;> intro hs <;> simp [tracks, hs] at h

theorem handleRoll_of_tracks (h : s.tracks = true) (own : Bool) (f : RollFrame) :
    s.handleRoll own f = if own then s.ownRoll f else s.otherRoll f := by
  simp [handleRoll, (tracks_station h).2, h]

end State

/-- Settles O28. -/
theorem rollOfAnotherStation : Obligations.RollOfAnotherStation := by
  intro s f hh hown hsender htracks hsig
  have hexec := State.exec_roll hh (hsender.elim (fun h => Or.inr (Or.inl h)) fun h => Or.inr (Or.inr h.2))
    (State.tracks_station htracks).1
  have hended := s.ended_eq (.roll f)
  have hwires := s.ended_wires (.roll f)
  have hroll := State.ended_other hown
  have howns : s.ownsEntry f.sender = false := State.ownsEntry_of_ne (hsender.imp_right And.left)
  rw [hown] at hexec
  generalize (s.ended (.roll f)).frames = fr at hended hwires hroll
  rw [hended, State.handleRoll_of_tracks (s := s.setFrames fr) htracks, if_neg Bool.false_ne_true] at hexec
  obtain ⟨hentry, hinsp, hagree⟩ := State.otherRoll_of_match (s := s.setFrames fr) hsig howns
  have hoffers := State.otherRoll_offers (s := s.setFrames fr) (f := f)
  have hwithdraws := State.otherRoll_withdraws (s := s.setFrames fr) hsig (f := f)
  obtain ⟨hpins, hstart, hconfig, htrig, htime, hstore, -, hbuild, -, hfree, -⟩ := (s.setFrames fr).otherRoll_frame f
  generalize (s.setFrames fr).otherRoll f = v at hexec hentry hinsp hagree hoffers hwithdraws hpins hstart hconfig htrig htime hstore hbuild hfree
  obtain ⟨tpins, tstart, tconfig, ttrig, ttime, troster, tinsp, tfree, -⟩ := v.settle_frame s.order
  obtain ⟨-, tevn, tpending, thigh, -⟩ := v.settle_takes s.order
  have tentry (a : Addr) : (v.settle s.order).entry a = v.entry a := State.entry_of_roster troster a
  have hself := (tentry f.sender).trans ((hentry f.sender).trans (if_pos rfl))
  refine ⟨_, hexec, fun hm => ?_, fun hm => ?_, fun hm => ?_, fun a ha => ?_, fun hm hs ha hr => ?_, fun hm p hp => ?_,
    ?_, ?_, ?_, tinsp.trans hinsp, ?_, fun hinv => ?_, ?_, ttime.trans htime, tstart.trans hstart, ttrig.trans htrig,
    tpins.trans hpins, tconfig.trans hconfig, tfree.trans hfree⟩
  · rw [hself, RosterEntry.rolled, hm]
    exact RosterEntry.called_eq f _
  · rw [hself, RosterEntry.rolled, hm]
    rfl
  · rw [hself, RosterEntry.rolled, hm]
    rfl
  · rw [tentry, hentry, if_neg ha]
    rfl
  · obtain ⟨g, hg, hmode⟩ := hoffers hm hs ha (hroll hr)
    have hfresh := congrArg (Option.map fun g : RollFrame => (g.mode, g.field)) (State.settle_roll_of_fresh hg s.order)
    simpa [Function.comp_def, hmode] using hfresh
  · rw [State.settle_roll] at hp
    obtain ⟨q, hq, rfl⟩ := Option.map_eq_some_iff.mp hp
    rw [State.refreshed_mode]
    obtain ⟨-, -, oroll⟩ := State.wires_off hwires
    exact hwithdraws hm oroll q hq
  · rw [thigh, hagree]
    by_cases hm : f.mode = .call
    · simp [hm]
    · rw [if_neg hm, State.raiseHighTake_highTake]
      simp only [ne_eq, hm, not_false_eq_true, and_true, State.joinMark_eq]
      rfl
  · rw [tevn, hagree]
    split
    · rfl
    · exact (State.raiseHighTake_agree _ _).1
  · rw [tpending, hagree]
    split
    · rfl
    · exact (State.raiseHighTake_agree _ _).2.1
  · rw [(State.settle_store _ _).2, hstore]
    rfl
  · exact State.settlesBuilds_settle hinv (by rw [hbuild]; rfl)
  · have hlast : (v.settle s.order).build.lastDelivered = v.build.lastDelivered := by simp
    rw [hlast, hbuild]
    rfl

end Sys2Proof.Machine
end

section
/-! The own JOIN and the own ECHO received back (R78, R80, R28). -/

namespace Sys2Proof.Machine
namespace State
variable {s t u : State}

/-- R28: a collector's EVN, and an exhausted one's, does not move at the own JOIN. -/
theorem joinEvn_stays (h : s.isCollector = true ∨ s.agree.exhausted = true) (x : BitVec 32) : s.joinEvn x = s := by
  refine if_pos ?_
  rcases h with h | h
  · simp [isAcquirer_of_collector h]
  · simp [h]

theorem joinEvn_moves (ha : s.isAcquirer = true) (he : s.agree.exhausted = false) (x : BitVec 32) : s.joinEvn x =
    if x = 0 then s.becomeExhausted maxEvent else s.setAgree { s.agree with evn := max s.agree.evn x.toNat } :=
  if_neg (by simp [ha, he])

theorem joinEvn_agree (x : BitVec 32) (s : State) : (s.joinEvn x).agree.pendingTakes = s.agree.pendingTakes
    ∧ (s.joinEvn x).agree.highTake = s.agree.highTake := by
  unfold joinEvn
  split
  · exact ⟨rfl, rfl⟩
  · split <;> exact ⟨rfl, rfl⟩

/-- R78: in JOINING and SILENCED the own JOIN enters RUNNING. -/
theorem ownJoin_enters (h : s.start.station = .joining ∨ s.start.station = .silenced) (f : RollFrame) :
    s.ownJoin f = ((s.modifyEntry f.sender (RosterEntry.joined f)).setStation .running).joinEvn f.field :=
  if_pos (by simpa using h)

theorem ownJoin_stays (h : s.start.station = .running ∨ s.start.station = .mute) (f : RollFrame) :
    s.ownJoin f = s.modifyEntry f.sender (RosterEntry.joined f) :=
  if_neg (by rcases h with h | h <;> simp [h])

/-- R78, R80: the own ROLL frame moves the sender's entry and, at the own JOIN, the numbering. -/
theorem ownRoll_moves {f : RollFrame} (hm : f.mode ≠ .call) :
    (∀ a : Addr, (s.ownRoll f).entry a = if a = f.sender then (s.entry f.sender).rolled f else s.entry a)
      ∧ (s.ownRoll f).agree.pendingTakes = s.agree.pendingTakes ∧ (s.ownRoll f).agree.highTake = s.agree.highTake := by
  unfold ownRoll
  cases hmode : f.mode with
  | call => exact absurd hmode hm
  | echo =>
    refine ⟨fun a => ?_, by simp, by simp⟩
    rw [modifyEntry_entry, RosterEntry.rolled, hmode]
  | join =>
    have hroster : (s.ownJoin f).roster = (s.modifyEntry f.sender (RosterEntry.joined f)).roster := by
      unfold ownJoin
      dsimp only
      split <;> simp
    have hagree : (s.ownJoin f).agree.pendingTakes = s.agree.pendingTakes ∧ (s.ownJoin f).agree.highTake = s.agree.highTake := by
      unfold ownJoin
      dsimp only
      split
      · exact joinEvn_agree f.field _
      · exact ⟨rfl, rfl⟩
    refine ⟨fun a => ?_, hagree⟩
    dsimp only
    rw [entry_of_roster hroster, modifyEntry_entry, RosterEntry.rolled, hmode]

/-- R78: but for the own JOIN that enters RUNNING, neither state nor numbering moves. -/
theorem ownRoll_stays {f : RollFrame} (hm : f.mode ≠ .call)
    (h : f.mode = .echo ∨ s.start.station = .running ∨ s.start.station = .mute) :
    (s.ownRoll f).start = s.start ∧ (s.ownRoll f).agree = s.agree ∧ (s.ownRoll f).insp = s.insp := by
  unfold ownRoll
  cases hmode : f.mode with
  | call => exact absurd hmode hm
  | echo => exact ⟨rfl, rfl, rfl⟩
  | join =>
    dsimp only
    rw [ownJoin_stays (h.resolve_left (by simp [hmode]))]
    exact ⟨rfl, rfl, rfl⟩

end State

/-- Settles O29. -/
theorem ownJoinEntersRunning : Obligations.OwnJoinEntersRunning := by
  intro s f hh hown htracks hmode
  have hexec := State.exec_roll hh (Or.inl hown) (State.tracks_station htracks).1
  have hended := s.ended_eq (.roll f)
  have hfailures := State.ended_failures _ s hown
  have hroll := State.ended_own hown
  rw [hown] at hexec
  generalize (s.ended (.roll f)).frames = fr at hended hfailures hroll
  rw [hended, State.handleRoll_of_tracks (s := s.setFrames fr) htracks, if_pos rfl] at hexec
  obtain ⟨hentry, hpending, hhigh⟩ := State.ownRoll_moves (s := s.setFrames fr) hmode
  have hstays := State.ownRoll_stays (s := s.setFrames fr) hmode
  obtain ⟨hpins, hconfig, htrig, htime, hstore, -, hframes, hbuild, -, hfree, -⟩ := (s.setFrames fr).ownRoll_frame f
  have hjoin (hm : f.mode = .join) (hs : s.start.station = .joining ∨ s.start.station = .silenced) :
      (s.setFrames fr).ownRoll f
        = (((s.setFrames fr).modifyEntry f.sender (RosterEntry.joined f)).setStation .running).joinEvn f.field := by
    rw [State.ownRoll, hm]
    exact State.ownJoin_enters (s := s.setFrames fr) hs f
  generalize (s.setFrames fr).ownRoll f = v at hexec hentry hpending hhigh hstays hpins hconfig htrig htime hstore hframes hbuild hfree hjoin
  obtain ⟨tpins, tstart, tconfig, ttrig, ttime, troster, tinsp, tfree, -⟩ := v.settle_frame s.order
  obtain ⟨-, tevn, tpending, thigh, texhausted, -⟩ := v.settle_takes s.order
  obtain ⟨-, tfailures, -⟩ := v.settle_queue s.order
  have tentry (a : Addr) : (v.settle s.order).entry a = v.entry a := State.entry_of_roster troster a
  have hself := (tentry f.sender).trans ((hentry f.sender).trans (if_pos rfl))
  refine ⟨_, hexec, fun hm => ?_, fun hm => ?_, fun a ha => ?_, fun hm hs => ?_, fun h => ?_, ?_,
    tpending.trans hpending, thigh.trans hhigh, fun hinv => State.settlesBuilds_settle hinv (by rw [hbuild]; rfl),
    ttime.trans htime, ttrig.trans htrig, ⟨tpins.trans hpins, tconfig.trans hconfig, tfree.trans hfree⟩, ?_⟩
  · rw [hself, RosterEntry.rolled, hm]
    rfl
  · rw [hself, RosterEntry.rolled, hm]
    rfl
  · rw [tentry, hentry, if_neg ha]
    rfl
  · have hv := hjoin hm hs
    rw [tstart, tevn, texhausted, tinsp]
    refine ⟨by rw [hv]; simp, fun hno => ?_, fun ha he hz => ?_, fun ha he hz => ?_⟩
    · rw [State.joinEvn_stays (s := ((s.setFrames fr).modifyEntry f.sender (RosterEntry.joined f)).setStation .running) hno] at hv
      rw [hv]
      exact ⟨rfl, rfl, rfl⟩
    · rw [State.joinEvn_moves (s := ((s.setFrames fr).modifyEntry f.sender (RosterEntry.joined f)).setStation .running) ha he,
        if_neg hz] at hv
      rw [hv]
      exact ⟨rfl, he, rfl⟩
    · rw [State.joinEvn_moves (s := ((s.setFrames fr).modifyEntry f.sender (RosterEntry.joined f)).setStation .running) ha he,
        if_pos hz] at hv
      refine ⟨by rw [hv]; rfl, by rw [hv]; rfl, ?_⟩
      rw [State.Raised, tinsp, hv]
      rfl
  · obtain ⟨hstart, hagree, hinsp⟩ := hstays h
    exact ⟨tstart.trans hstart, tevn.trans (by rw [hagree]; rfl), texhausted.trans (by rw [hagree]; rfl), tinsp.trans hinsp⟩
  · have hkept : v.frames.queue.roll = (s.frames.queue.roll.bind Place.keptOffer).map Place.fresh := by
      rw [hframes]
      exact hroll
    cases ho : s.frames.queue.roll.bind Place.keptOffer with
    | none =>
      rw [ho] at hkept
      rw [State.settle_roll_none hkept]
      rfl
    | some g =>
      rw [ho] at hkept
      exact State.settle_roll_of_fresh hkept s.order
  · rw [tfailures, hframes]
    exact hfailures

end Sys2Proof.Machine
end

section
/-! A ROLL frame with a differing signature (R75, R181), and the ROLL frames of ROLLCALL (R180, R181, R184). -/

namespace Sys2Proof.Machine
namespace State
variable {s t u : State}

theorem ownsEntry_self (h : s.isCollector = true) : s.ownsEntry s.pins.address = true := by simp [ownsEntry, h]

/-- R75, R181: a differing signature makes the sender MISMATCHED, a collector's own entry excepted. -/
theorem mismatch_entry (f : RollFrame) (s : State) (a : Addr) : (s.mismatch f).entry a =
    if a = f.sender ∧ s.ownsEntry f.sender = false then (s.entry f.sender).mismatched f else s.entry a := by
  have hroster : (s.mismatch f).roster = (s.hearRoll f.sender (RosterEntry.mismatched f)).roster := by
    unfold mismatch
    dsimp only
    split <;> simp
  rw [entry_of_roster hroster]
  cases ho : s.ownsEntry f.sender with
  | true =>
    rw [hearRoll_of_owned ho]
    simp
  | false =>
    rw [hearRoll_of_other ho, modifyEntry_entry]
    simp

theorem mismatch_roster {f : RollFrame} (h : s.ownsEntry f.sender = true) : (s.mismatch f).roster = s.roster := by
  unfold mismatch
  dsimp only
  rw [hearRoll_of_owned h]
  split <;> simp

/-- R75: the fault comes at the first such ROLL alone. -/
theorem mismatch_insp (f : RollFrame) (s : State) : (s.mismatch f).insp.counters = s.insp.counters
    ∧ ((s.entry f.sender).state = .mismatched → (s.mismatch f).insp = s.insp)
    ∧ ((s.entry f.sender).state ≠ .mismatched → s.Raised (s.mismatch f) .signatureMismatch f.sender.val) := by
  have hheard : (s.hearRoll f.sender (RosterEntry.mismatched f)).insp = s.insp
      ∧ (s.hearRoll f.sender (RosterEntry.mismatched f)).time = s.time := by simp
  obtain ⟨hinsp, htime⟩ := hheard
  unfold mismatch
  dsimp only
  split
  · next h => exact ⟨congrArg Inspection.counters hinsp, fun _ => hinsp, fun hne => absurd h hne⟩
  · next h => exact ⟨by rw [← hinsp]; rfl, fun hm => absurd hm h, fun _ => by rw [Raised, ← hinsp, ← htime]; rfl⟩

/-! ## The end of the roll call -/

/-- R184: the blocks at the entry to JOINING. -/
theorem enterJoining_blocks (s : State) :
    s.enterJoining.start = { s.start with
        station := if s.start.muteAttr then .running else .joining
        listenTimer := none, rollTimer := none, rollCallReason := false, rollMet := false }
      ∧ (∀ a : Addr, s.enterJoining.entry a = (s.entry a).toCalling)
      ∧ s.enterJoining.agree = Agreement.blank ∧ s.enterJoining.store = Store.empty
      ∧ s.enterJoining.build = BuildUnit.empty := by
  have hroster : s.enterJoining.roster = s.roster.each RosterEntry.toCalling := by simp [enterJoining]
  refine ⟨by simp [enterJoining], fun a => ?_, by simp [enterJoining], by simp [enterJoining], by simp [enterJoining]⟩
  rw [entry, hroster]
  exact Roster.each_get RosterEntry.toCalling s.roster a

/-- R184: the JOIN that is offered there. -/
theorem enterJoining_roll (hm : s.start.muteAttr = false) (hw : ∀ p ∈ s.frames.queue.roll, p.onWire = false) :
    ∃ g, s.enterJoining.frames.queue.roll = some (.fresh g) ∧ g.mode = .join := by
  have hoffer : s.enterJoining.frames.queue.roll
      = Place.offer (s.enterJoining.rollFrame .join) s.frames.queue.roll := by
    simp [enterJoining, offerRoll, hm, rollFrame, joinPoint, channelCount]
  refine ⟨s.enterJoining.rollFrame .join, hoffer.trans ?_, rfl⟩
  cases hr : s.frames.queue.roll with
  | none => rfl
  | some p => simp [Place.offer, hw p (by rw [hr]; rfl)]

/-- R39: on an empty list nothing is removed. -/
theorem removeDrained_of_blank (h : s.agree = Agreement.blank) : s.removeDrained.agree = Agreement.blank := by
  rw [removeDrained, h]
  rfl

/-- R88: under a blank agreement unit settling moves no list and no record. -/
theorem settle_of_blank_agree (h : s.agree = Agreement.blank) (l : List Addr) :
    (s.settle l).agree = Agreement.blank ∧ (s.settle l).store = s.store := by
  have hblank := removeDrained_of_blank h
  have hreassess : s.reassess.agree = Agreement.blank := by simpa [reassess] using hblank
  refine ⟨by rw [settle_agree, hblank], ?_⟩
  rw [settle_records, offerParts_of_no_turn (ownTurn_of_no_take (by rw [hreassess]; rfl))]
  simp

/-- R75, R181, R184: what a differing signature leads to. -/
theorem handleRoll_of_differ {f : RollFrame} (hs : s.tracks = true ∨ s.start.station = .rollcall)
    (hsig : f.signature ≠ s.config.signature) : s.handleRoll false f =
      if s.start.station = .rollcall ∧ f.mode = .echo then (s.mismatch f).enterJoining
      else if s.tracks = true ∧ f.mode = .call then (s.mismatch f).offerEcho
      else s.mismatch f := by
  rcases hs with ht | hs
  · rw [handleRoll_of_tracks ht, if_neg Bool.false_ne_true, if_neg fun h => (tracks_station ht).2 h.1, otherRoll, if_pos hsig]
    simp [ht]
  · have ht : s.tracks = false := by simp [tracks, hs]
    rw [handleRoll, if_pos hs, rollcallRoll, if_neg Bool.false_ne_true]
    cases hm : f.mode <;> simp [hsig, hs, ht]

/-- R75, R80: but for an ECHO in ROLLCALL the frame marks its sender, and a CALL may draw an ECHO. -/
theorem handleRoll_differ_stays {f : RollFrame} (hs : s.tracks = true ∨ s.start.station = .rollcall)
    (hsig : f.signature ≠ s.config.signature) (hend : ¬ (s.start.station = .rollcall ∧ f.mode = .echo)) :
    (s.handleRoll false f).roster = (s.mismatch f).roster ∧ (s.handleRoll false f).insp = (s.mismatch f).insp
      ∧ (s.handleRoll false f).agree = s.agree ∧ (s.handleRoll false f).start = s.start
      ∧ (s.handleRoll false f).build = s.build
      ∧ (f.mode = .call → s.start.station = .running → s.start.muteAttr = false → s.frames.queue.roll = none →
        ∃ g, (s.handleRoll false f).frames.queue.roll = some (.fresh g) ∧ g.mode = .echo) := by
  rw [handleRoll_of_differ hs hsig, if_neg hend]
  split
  · refine ⟨by simp, by simp, by simp, by simp, by simp, fun _ hrun hm hr => ?_⟩
    exact ⟨_, offerEcho_roll (by simpa using hrun) (by simpa using hm) (by simpa using hr), rfl⟩
  · next hdraws =>
    refine ⟨rfl, rfl, by simp, by simp, by simp, fun hc hrun => ?_⟩
    exact absurd ⟨by simp [tracks, hrun], hc⟩ hdraws

end State

/-- Settles O30. -/
theorem differingSignatureMismatches : Obligations.DifferingSignatureMismatches := by
  intro s f hh hown hsender hstation hsig
  have hlistening : s.start.station ≠ .listening := fun hl => by
    rcases hstation with ht | hs
    · exact (State.tracks_station ht).1 hl
    · rw [hs] at hl
      cases hl
  have hexec := State.exec_roll hh (Or.inr hsender) hlistening
  have hended := s.ended_eq (.roll f)
  have hwires := s.ended_wires (.roll f)
  have hroll := State.ended_other hown
  rw [hown] at hexec
  generalize (s.ended (.roll f)).frames = fr at hended hwires hroll
  rw [hended] at hexec
  obtain ⟨-, -, oroll⟩ := State.wires_off hwires
  have hentry := (s.setFrames fr).mismatch_entry f
  have howned := State.mismatch_roster (s := s.setFrames fr) (f := f)
  obtain ⟨hcounters, hsame, hraised⟩ := (s.setFrames fr).mismatch_insp f
  obtain ⟨hpins, hconfig, htrig, htime, -, -, hfree, -⟩ := (s.setFrames fr).handleRoll_frame false f
  obtain ⟨tpins, tstart, tconfig, ttrig, ttime, troster, tinsp, tfree, -⟩ :=
    ((s.setFrames fr).handleRoll false f).settle_frame s.order
  have htail := And.intro (ttime.trans htime) (And.intro (ttrig.trans htrig)
    (And.intro (tpins.trans hpins) (And.intro (tconfig.trans hconfig) (tfree.trans hfree))))
  have hself (h : f.sender ≠ s.pins.address ∨ s.isAcquirer = true) :
      ((s.setFrames fr).mismatch f).entry f.sender = (s.entry f.sender).mismatched f :=
    (hentry f.sender).trans (if_pos ⟨rfl, State.ownsEntry_of_ne h⟩)
  have hothers (a : Addr) (h : a ≠ f.sender ∨ s.ownsEntry f.sender = true) :
      ((s.setFrames fr).mismatch f).entry a = s.entry a :=
    (hentry a).trans (if_neg fun hb => h.elim (fun ha => ha hb.1) fun ho => Bool.false_ne_true (hb.2.symm.trans ho))
  by_cases hend : s.start.station = .rollcall ∧ f.mode = .echo
  · have hv : (s.setFrames fr).handleRoll false f = ((s.setFrames fr).mismatch f).enterJoining :=
      (State.handleRoll_of_differ (s := s.setFrames fr) hstation hsig).trans (if_pos hend)
    obtain ⟨mpins, mstart, mconfig, mtrig, mtime, -, magree, -, mframes, mbuild, -⟩ := (s.setFrames fr).mismatch_frame f
    obtain ⟨hstart, hcalling, hagree, hstore, hbuild⟩ := ((s.setFrames fr).mismatch f).enterJoining_blocks
    have hjoins := State.enterJoining_roll (s := (s.setFrames fr).mismatch f)
    have hinsp : ((s.setFrames fr).mismatch f).enterJoining.insp = ((s.setFrames fr).mismatch f).insp := by simp
    rw [hv] at hexec tstart troster tinsp htail
    have tentry (a : Addr) : (((s.setFrames fr).mismatch f).enterJoining.settle s.order).entry a
        = (((s.setFrames fr).mismatch f).entry a).toCalling := (State.entry_of_roster troster a).trans (hcalling a)
    obtain ⟨tagree, tstore⟩ := State.settle_of_blank_agree hagree s.order
    obtain ⟨tbuild, -⟩ := State.settle_of_no_build (by rw [hbuild]; rfl) s.order
    refine ⟨_, hexec, fun h => ?_, fun h => absurd hend (by rcases h with h | h <;> simp [h]),
      fun _ _ => ⟨fun a ha => ?_, tagree, tstore.trans hstore, tbuild.trans hbuild, ?_, fun hm => ?_⟩,
      fun hm => absurd (hm.symm.trans hend.2) (by decide), fun h => ?_, fun h => ?_, ?_, htail⟩
    · rw [tentry, hself h]
      rfl
    · have hsame : ((s.setFrames fr).mismatch f).entry a = s.entry a := by
        refine hothers a (ha.imp_right fun hme => ?_)
        have hmute : s.detectsClash = false := hsender.resolve_left (not_not.mpr hme)
        have hcollector : s.isCollector = true := by
          simp only [State.detectsClash, hend.1, Bool.not_eq_false', Bool.and_eq_true] at hmute
          exact hmute.1
        simp [State.ownsEntry, hcollector, hme]
      rw [tentry, hsame]
      unfold RosterEntry.toCalling
      split <;> rfl
    · rw [tstart, hstart, mstart]
      rfl
    · obtain ⟨g, hg, hmode⟩ := hjoins (by rw [mstart]; exact hm) (by rw [mframes]; exact oroll)
      have hfresh := congrArg (Option.map fun g : RollFrame => (g.mode, g.field)) (State.settle_roll_of_fresh hg s.order)
      have hpoint : (((s.setFrames fr).mismatch f).enterJoining.settle s.order).joinPoint = 1#32 := by
        rw [State.joinPoint, tagree]
        rfl
      rw [hpoint] at hfresh
      simpa [Function.comp_def, hmode] using hfresh
    · rw [tinsp, hinsp]
      exact hsame h
    · rw [State.Raised, tinsp, hinsp]
      exact hraised h
    · rw [tinsp, hinsp]
      exact hcounters
  · obtain ⟨hroster, hinsp, hagree, hstart, hbuild, hoffers⟩ :=
      State.handleRoll_differ_stays (s := s.setFrames fr) hstation hsig hend
    generalize (s.setFrames fr).handleRoll false f = v at *
    obtain ⟨-, tevn, -, thigh, -⟩ := v.settle_takes s.order
    have tentry (a : Addr) : (v.settle s.order).entry a = ((s.setFrames fr).mismatch f).entry a :=
      State.entry_of_roster (troster.trans hroster) a
    refine ⟨_, hexec, fun h => (tentry _).trans (hself h), fun _ => ⟨fun a ha => (tentry a).trans (hothers a (Or.inl ha)),
      fun hme hc => ?_, fun hinv => State.settlesBuilds_settle hinv (by rw [hbuild]; rfl), ?_, ?_, tstart.trans hstart⟩,
      fun hs hm => absurd ⟨hs, hm⟩ hend, fun hm hs ha hr => ?_, fun h => ?_, fun h => ?_, ?_, htail⟩
    · exact (troster.trans hroster).trans (howned (by
      rw [hme]
      exact State.ownsEntry_self (s := s.setFrames fr) hc))
    · rw [tevn, hagree]
      rfl
    · rw [thigh, hagree]
      rfl
    · obtain ⟨g, hg, hmode⟩ := hoffers hm hs ha (hroll hr)
      have hfresh := congrArg (Option.map fun g : RollFrame => (g.mode, g.field)) (State.settle_roll_of_fresh hg s.order)
      simpa [Function.comp_def, hmode] using hfresh
    · rw [tinsp, hinsp]
      exact hsame h
    · rw [State.Raised, tinsp, hinsp]
      exact hraised h
    · rw [tinsp, hinsp]
      exact hcounters

end Sys2Proof.Machine
end

section
/-! The frames of ROLLCALL: CALL, JOIN and ECHO (R180, R181, R184), and the other kinds (R32, R68, R73, R179). -/

namespace Sys2Proof.Machine
namespace State
variable {s t u : State}

theorem handleRoll_of_rollcall (h : s.start.station = .rollcall) (own : Bool) (f : RollFrame) :
    s.handleRoll own f = s.rollcallRoll own f := if_pos h

/-- R180, R181: a CALL in ROLLCALL. -/
theorem rollcallRoll_call {f : RollFrame} (hsig : f.signature = s.config.signature) (hm : f.mode = .call) {own : Bool}
    (h : own = true ∨ s.ownsEntry f.sender = false) : s.rollcallRoll own f =
      if own then s.ownCall f else s.modifyEntry f.sender (RosterEntry.rollCalled f) := by
  unfold rollcallRoll
  cases own with
  | true => simp [hm]
  | false =>
    rw [← hearRoll_of_other (h.resolve_left Bool.false_ne_true)]
    simp [hm, hsig]

/-- R181: a JOIN in ROLLCALL is ignored. -/
theorem rollcallRoll_join {f : RollFrame} (hsig : f.signature = s.config.signature) (hm : f.mode = .join) (own : Bool) :
    s.rollcallRoll own f = s := by
  unfold rollcallRoll
  cases own <;> simp [hm, hsig]

/-- R184: an ECHO of another station ends the roll call. -/
theorem rollcallRoll_echo {f : RollFrame} (hsig : f.signature = s.config.signature) (hm : f.mode = .echo) :
    s.rollcallRoll false f = s.enterJoining.otherRoll f := by
  unfold rollcallRoll
  simp [hm, hsig]

theorem rollcallRoll_own_echo {f : RollFrame} (hm : f.mode = .echo) : s.rollcallRoll true f = s := by
  unfold rollcallRoll
  simp [hm]

theorem toCalling_ne_present (e : RosterEntry) : e.toCalling.state ≠ .present := by
  unfold RosterEntry.toCalling
  split
  · simp
  · next h => exact h

/-- R80: an ECHO leaves an entry that is not PRESENT. -/
theorem echoed_toCalling (f : RollFrame) (e : RosterEntry) : e.toCalling.echoed f = e.toCalling :=
  if_neg (toCalling_ne_present e)

theorem withdrawEcho_of_other (h : ∀ p ∈ s.frames.queue.roll, p.frame.mode ≠ .echo) : s.withdrawEcho = s := by
  unfold withdrawEcho
  split
  · next p hp => exact if_neg (h p hp)
  · rfl

/-- R184, R80: what the ECHO that ends a roll call leaves, once the station has joined. -/
theorem joining_echo {f : RollFrame} (hsig : f.signature = s.config.signature) (hm : f.mode = .echo)
    (ho : s.ownsEntry f.sender = false) (hw : ∀ p ∈ s.frames.queue.roll, p.onWire = false) :
    (∀ a : Addr, (s.enterJoining.otherRoll f).entry a = (s.entry a).toCalling)
      ∧ (s.enterJoining.otherRoll f).insp = s.insp
      ∧ (s.enterJoining.otherRoll f).agree = (s.enterJoining.raiseHighTake (joinMark f.field)).agree
      ∧ (s.start.muteAttr = false →
        ∃ g, (s.enterJoining.otherRoll f).frames.queue.roll = some (.fresh g) ∧ g.mode = .join) := by
  obtain ⟨-, hcalling, -⟩ := s.enterJoining_blocks
  obtain ⟨hentry, hinsp, hagree⟩ := otherRoll_of_match (s := s.enterJoining) (f := f) (by simpa using hsig)
    (by simpa [ownsEntry, isCollector] using ho)
  refine ⟨fun a => ?_, by simpa using hinsp, by rw [hagree, hm]; rfl, fun hmute => ?_⟩
  · rw [hentry]
    split
    · next ha => rw [RosterEntry.rolled, hm, hcalling, ha]; exact echoed_toCalling f _
    · exact hcalling a
  · obtain ⟨g, hg, hmode⟩ := enterJoining_roll hmute hw
    refine ⟨g, ?_, hmode⟩
    rw [otherRoll, if_neg (not_not.mpr (by simpa using hsig)), hm]
    dsimp only
    rw [withdrawEcho_of_other (by simp [hg, Place.fresh, hmode])]
    simpa using hg

/-- R180, R181: the caller's entry in ROLLCALL, and the roll timer at the own CALL. -/
theorem rollcall_call {f : RollFrame} (hsig : f.signature = s.config.signature) (hm : f.mode = .call) {own : Bool}
    (h : own = true ∨ s.ownsEntry f.sender = false) :
    (∀ a : Addr, (s.rollcallRoll own f).entry a = if a = f.sender then (s.entry f.sender).rollCalled f else s.entry a)
      ∧ (s.rollcallRoll own f).start
        = (if own then { s.start with rollTimer := some (Config.msTicks s.config.rolltime) } else s.start)
      ∧ (s.rollcallRoll own f).agree = s.agree ∧ (s.rollcallRoll own f).insp = s.insp := by
  rw [rollcallRoll_call hsig hm h]
  cases own with
  | true => exact ⟨fun a => modifyEntry_entry _ _ _ _, rfl, rfl, rfl⟩
  | false => exact ⟨fun a => modifyEntry_entry _ _ _ _, rfl, rfl, rfl⟩

/-- R179, R184: no ROLL frame with a matching signature lists or numbers anything in ROLLCALL, nor raises a fault. -/
theorem rollcall_quiet {f : RollFrame} (hagree : s.agree = Agreement.blank) (hsig : f.signature = s.config.signature)
    {own : Bool} (h : own = true ∨ s.ownsEntry f.sender = false) (hw : ∀ p ∈ s.frames.queue.roll, p.onWire = false) :
    (s.rollcallRoll own f).agree.evn = 0 ∧ (s.rollcallRoll own f).agree.takeList = []
      ∧ (s.rollcallRoll own f).insp = s.insp := by
  cases hm : f.mode with
  | call =>
    obtain ⟨-, -, ragree, rinsp⟩ := rollcall_call hsig hm h
    rw [ragree, hagree]
    exact ⟨rfl, rfl, rinsp⟩
  | join =>
    rw [rollcallRoll_join hsig hm, hagree]
    exact ⟨rfl, rfl, rfl⟩
  | echo =>
    cases own with
    | true =>
      rw [rollcallRoll_own_echo hm, hagree]
      exact ⟨rfl, rfl, rfl⟩
    | false =>
      obtain ⟨-, rinsp, ragree, -⟩ := joining_echo hsig hm (h.resolve_left Bool.false_ne_true) hw
      obtain ⟨-, -, hblank, -⟩ := s.enterJoining_blocks
      obtain ⟨hevn, -, hlist⟩ := s.enterJoining.raiseHighTake_agree (joinMark f.field)
      rw [rollcallRoll_echo hsig hm, ragree, hevn, hlist, hblank]
      exact ⟨rfl, rfl, rinsp⟩

/-- R32, R68, R73: in ROLLCALL the other kinds have no owner. -/
theorem giveOwners_of_rollcall (h : s.start.station = .rollcall) {f : Frame} (hf : f.isRoll = false) (own : Bool) :
    s.giveOwners own f = s := by
  have ht : s.tracks = false := by simp [tracks, h]
  unfold giveOwners
  cases f with
  | take g => simp [ht]
  | frag g => simp [handleFrag, ht]
  | skip g => simp [handleSkip, ht]
  | roll g => cases hf

/-- R179: what settling leaves of a station that numbers, times and builds nothing. -/
theorem settle_of_emptied (h : s.Emptied) (l : List Addr) : (s.settle l).Emptied ∧ (s.settle l).port = s.port := by
  obtain ⟨hstore, hagree, hturn, hbuild⟩ := h
  obtain ⟨tagree, tstore⟩ := settle_of_blank_agree hagree l
  obtain ⟨tbuild, tport⟩ := settle_of_no_build (by rw [hbuild]; rfl) l
  have hblank := removeDrained_of_blank hagree
  have hnone : s.removeDrained.watchedNow = none := watchedNow_of_no_take (by rw [hblank]; rfl)
  have hheard : s.removeDrained.heardNow = 0 := by
    rw [heardNow, hnone]
    simp [hturn, Turn.blank]
  have hrest : s.removeDrained.turn = Turn.blank := by simpa using hturn
  refine ⟨⟨tstore.trans hstore, tagree, ?_, tbuild.trans hbuild⟩, tport⟩
  rw [settle_turn, reassess, evalTimer_of_no_take (by rw [hblank]; rfl) (by rw [hrest]; rfl), hheard, hrest]
  rfl

end State

/-- Settles O31. -/
theorem rollcallTakesRollFrames : Obligations.RollcallTakesRollFrames := by
  intro s f g hs hagree
  have hlistening : s.start.station ≠ .listening := by simp [hs]
  refine ⟨fun hh howner hsig => ?_, fun hh hc hkind => ?_⟩
  · have hexec := State.exec_roll hh (howner.imp_right Or.inl) hlistening
    have hended := s.ended_eq (.roll f)
    have hwires := s.ended_wires (.roll f)
    generalize (s.ended (.roll f)).frames = fr at hended hwires
    rw [hended, State.handleRoll_of_rollcall (s := s.setFrames fr) hs] at hexec
    obtain ⟨-, -, oroll⟩ := State.wires_off hwires
    have howns : s.isOwn (.roll f) = true ∨ (s.setFrames fr).ownsEntry f.sender = false :=
      howner.imp_right fun h => State.ownsEntry_of_ne (s := s.setFrames fr) (Or.inl h)
    obtain ⟨hevn, hlist, hinsp⟩ := State.rollcall_quiet (s := s.setFrames fr) hagree hsig howns oroll
    have hcall := State.rollcall_call (s := s.setFrames fr) (f := f) hsig (own := s.isOwn (.roll f))
    have hjoin := State.rollcallRoll_join (s := s.setFrames fr) (f := f) hsig
    have hecho := State.rollcallRoll_echo (s := s.setFrames fr) (f := f) hsig
    have hends := State.joining_echo (s := s.setFrames fr) (f := f) hsig
    obtain ⟨hstart, -, hblank, -⟩ := (s.setFrames fr).enterJoining_blocks
    obtain ⟨hpins, hconfig, htrig, htime, -, -, hfree, -⟩ := (s.setFrames fr).rollcallRoll_frame (s.isOwn (.roll f)) f
    obtain ⟨v, hv⟩ : ∃ v, v = (s.setFrames fr).rollcallRoll (s.isOwn (.roll f)) f := ⟨_, rfl⟩
    rw [← hv] at hexec hevn hlist hinsp hpins hconfig htrig htime hfree
    obtain ⟨tpins, tstart, tconfig, ttrig, ttime, troster, tinsp, tfree, -⟩ := v.settle_frame s.order
    obtain ⟨ttakes, tevn, -, thigh, -⟩ := v.settle_takes s.order
    have tentry (a : Addr) : (v.settle s.order).entry a = v.entry a := State.entry_of_roster troster a
    refine ⟨_, hexec, fun hm => ?_, fun hm => ?_, fun hm hother => ?_, tevn.trans hevn, ?_, tinsp.trans hinsp,
      ttime.trans htime, ttrig.trans htrig, tpins.trans hpins, tconfig.trans hconfig, tfree.trans hfree⟩
    · obtain ⟨hentry, hcalled, -⟩ := hcall hm howns
      rw [← hv] at hentry hcalled
      refine ⟨(tentry _).trans ((hentry _).trans (if_pos rfl)), fun a ha => ?_, tstart.trans hcalled⟩
      rw [tentry, hentry, if_neg ha]
      rfl
    · rw [hv, hjoin hm] at troster tstart
      rw [hv, hjoin hm]
      exact ⟨troster, tstart⟩
    · obtain ⟨hentry, -, hjoined, hroll⟩ := hends hm (howns.resolve_left (by simp [hother])) oroll
      rw [hother, hecho hm] at hv
      rw [← hv] at hentry hjoined hroll
      have vstart : v.start = (s.setFrames fr).enterJoining.start := by
        rw [hv]
        simp
      refine ⟨(tstart.trans vstart).trans hstart, fun a ha => ?_, fun hmute => ⟨?_, ?_⟩⟩
      · have hcalling : (v.settle s.order).entry a = { s.entry a with state := .calling } :=
          ((tentry a).trans (hentry a)).trans (if_pos ha)
        rw [State.mark, hcalling]
        exact ⟨rfl, rfl, rfl⟩
      · have hstation : (s.setFrames fr).enterJoining.start.station = .joining := by rw [hstart]; exact if_neg (by simp [hmute])
        rw [thigh, hjoined, State.raiseHighTake_highTake, if_pos hstation, hblank]
        exact Nat.zero_max _
      · obtain ⟨g, hg, hmode⟩ := hroll hmute
        have hfresh := congrArg (Option.map fun g : RollFrame => (g.mode, g.field)) (State.settle_roll_of_fresh hg s.order)
        simpa [Function.comp_def, hmode] using hfresh
    · rw [ttakes, hlist]
      rfl
  · have hexec := State.exec_reception hh
    rw [State.received_of_heard hh hc hlistening] at hexec
    have hended := s.ended_eq g
    have hdat := s.ended_dat g
    generalize (s.ended g).frames = fr at hended hdat
    rw [hended, State.giveOwners_of_rollcall (s := s.setFrames fr) hs hkind] at hexec
    obtain ⟨tpins, tstart, tconfig, ttrig, ttime, troster, tinsp, tfree, -⟩ := (s.setFrames fr).settle_frame s.order
    obtain ⟨-, -, tdat⟩ := (s.setFrames fr).settle_queue s.order
    obtain ⟨tagree, -⟩ := State.settle_of_blank_agree (s := s.setFrames fr) hagree s.order
    exact ⟨_, hexec, troster, tagree.trans hagree.symm, fun he => State.settle_of_emptied (s := s.setFrames fr) he s.order,
      tstart, tinsp, ttime, ttrig, ⟨tpins, tconfig, tfree⟩, tdat.trans hdat⟩

end Sys2Proof.Machine
end

section
/-! Parts and SKIPs for which no OPEN build is to be had (R94, R95, R97, R105). -/

namespace Sys2Proof.Machine
namespace State
variable {s t u v w : State}

/-! ## What becomes of a frame in the build unit -/

section BuildFrame

variable {n : Nat} {stamp : Option Time} {apply : Build → State → State}

/-- R95, R105: a late frame is counted. -/
theorem buildFrame_late (hb : w.builds = true)
    (h : n ≤ w.build.floor ∨ ∃ b, w.build.builds.find? (fun y : Build => y.number = n) = some b ∧ b.state ≠ .opened) :
    w.buildFrame n stamp apply = w.bump .lateFrags := by
  unfold buildFrame
  rw [hb, Bool.not_true, if_neg Bool.false_ne_true]
  by_cases hn : n ≤ w.build.floor
  · rw [if_pos hn]
  · obtain ⟨b, hfind, hclosed⟩ := h.resolve_left hn
    rw [if_neg hn, hfind]
    exact if_neg hclosed

/-- R97: a ninth build overflows. -/
theorem buildFrame_overflow (hb : w.builds = true) (hn : w.build.floor < n)
    (hfind : w.build.builds.find? (fun y : Build => y.number = n) = none) (hl : 8 ≤ w.build.builds.length) :
    w.buildFrame n stamp apply = (w.bump .buildOverflows).raise .buildOverflow n := by
  unfold buildFrame
  rw [hb, Bool.not_true, if_neg Bool.false_ne_true, if_neg (Nat.not_le.mpr hn), hfind]
  exact if_pos hl

theorem buildFrame_opened (hb : w.builds = true) (hn : w.build.floor < n) {b : Build}
    (hfind : w.build.builds.find? (fun y : Build => y.number = n) = some b) (ho : b.state = .opened) :
    w.buildFrame n stamp apply = apply b w := by
  unfold buildFrame
  rw [hb, Bool.not_true, if_neg Bool.false_ne_true, if_neg (Nat.not_le.mpr hn), hfind]
  exact if_pos ho

theorem buildFrame_new (hb : w.builds = true) (hn : w.build.floor < n)
    (hfind : w.build.builds.find? (fun y : Build => y.number = n) = none) (hl : w.build.builds.length < 8) :
    w.buildFrame n stamp apply = apply (w.newBuild n stamp)
      (w.setBuild { w.build with builds := insertBuild (w.newBuild n stamp) w.build.builds }) := by
  unfold buildFrame
  rw [hb, Bool.not_true, if_neg Bool.false_ne_true, if_neg (Nat.not_le.mpr hn), hfind]
  exact if_neg (Nat.not_le.mpr hl)

end BuildFrame

/-- R97, R105: where no OPEN build is to be had there is a closed one, or the table is full. -/
theorem contributionBefore_none {n : Nat} {m : Addr} {b : Bool} (h : s.contributionBefore n m b = none) :
    (∃ x, s.build.builds.find? (fun y : Build => y.number = n) = some x ∧ x.state ≠ .opened)
      ∨ s.build.builds.find? (fun y : Build => y.number = n) = none ∧ 8 ≤ s.build.builds.length := by
  unfold contributionBefore at h
  cases hf : s.build.builds.find? (fun y : Build => y.number = n) with
  | some x =>
    rw [hf] at h
    refine Or.inl ⟨x, rfl, fun ho => ?_⟩
    simp [ho] at h
  | none =>
    rw [hf] at h
    refine Or.inr ⟨rfl, Nat.le_of_not_lt fun hl => ?_⟩
    simp [hl] at h

/-- R95, R97, R105: the frames that reach the build unit and find no OPEN build. `w` is the station as their other
owners leave it. -/
theorem buildFrame_unbuilt {n : Nat} {stamp : Option Time} {apply : Build → State → State} (hb : w.builds = true)
    (hbuild : w.build = s.build) (hcounters : w.insp.counters = s.insp.counters)
    (h : n ≤ s.build.floor ∨ s.contributionBefore n 0 false = none) :
    (w.buildFrame n stamp apply).build = s.build ∧ (w.buildFrame n stamp apply).freeIndex = w.freeIndex
      ∧ (n ≤ s.build.floor ∨ (s.build.builds.find? (fun y : Build => y.number = n)).isSome = true →
        (w.buildFrame n stamp apply).insp.counters = (s.bump .lateFrags).insp.counters)
      ∧ (s.build.floor < n → s.build.builds.find? (fun y : Build => y.number = n) = none →
        8 ≤ s.build.builds.length
          ∧ (w.buildFrame n stamp apply).insp.counters = (s.bump .buildOverflows).insp.counters
          ∧ w.Raised (w.buildFrame n stamp apply) .buildOverflow n) := by
  have hbump (c : Counter) : (w.bump c).insp.counters = (s.bump c).insp.counters := by simp [bump, hcounters]
  by_cases hlate : n ≤ s.build.floor ∨ ∃ x, s.build.builds.find? (fun y : Build => y.number = n) = some x ∧ x.state ≠ .opened
  · rw [buildFrame_late hb (hbuild ▸ hlate)]
    refine ⟨hbuild, rfl, fun _ => hbump _, fun hn hnone => ?_⟩
    obtain ⟨x, hx, -⟩ := hlate.resolve_left (Nat.not_le.mpr hn)
    rw [hnone] at hx
    cases hx
  · obtain ⟨hn, hclosed⟩ := not_or.mp hlate
    obtain ⟨hnone, hfull⟩ := (contributionBefore_none (h.resolve_left hn)).resolve_left hclosed
    rw [buildFrame_overflow hb (hbuild ▸ Nat.lt_of_not_le hn) (hbuild ▸ hnone) (hbuild ▸ hfull)]
    refine ⟨hbuild, rfl, fun h => absurd h (by simp [hn, hnone]), fun _ _ => ⟨hfull, hbump _, rfl⟩⟩

/-! ## The frames that reach it -/

/-- R94: a SILENT or CALLING sender is no member, and no one to be learned. -/
theorem heeds_of_outside {m : Addr} (h : (s.entry m).state = .silent ∨ (s.entry m).state = .calling) : s.heeds m = false := by
  rw [heeds_eq, isMember_eq]
  rcases h with h | h <;> simp [RosterEntry.isMember, h]

/-- R94: which parts reach the build unit. -/
def BuildsPart (f : FragFrame) (s : State) : Prop :=
  s.heeds f.sender = true ∧ s.mark f.sender < f.number.toNat
    ∨ ((s.entry f.sender).state = .silent ∨ (s.entry f.sender).state = .calling)
      ∧ (s.entry f.sender).role ≠ some .collector

theorem handleFrag_of_built {f : FragFrame} (h : s.tracks = true) (hr : s.BuildsPart f) (own : Bool) :
    s.handleFrag own f = (s.partTaken own f).buildFrame f.number.toNat
      ((s.hearEvent f.number.toNat).takeTime f.number.toNat) (State.applyPart f) := by
  rw [handleFrag_of_tracks own f h, if_pos]
  unfold partReaches
  rw [heardFrom_isMember]
  rcases hr with ⟨hm, hn⟩ | ⟨hout, hrole⟩
  · have hlt := heardFrom_mark_lt hn
    simp [hm, Nat.not_le.mpr hlt]
  · rw [heardFrom_entry_of_not_heeds (heeds_of_outside hout)]
    rcases hout with hs | hs <;> simp [RosterEntry.heardOutside, hs, hrole]

/-- R55: such a part is not late for the marks. -/
theorem partTaken_insp_of_built {f : FragFrame} (hr : s.BuildsPart f) (own : Bool) :
    (s.partTaken own f).insp = (s.hearEvent f.number.toNat).insp := by
  rw [partTaken_insp, if_neg]
  rintro ⟨hm, hl⟩
  rcases hr with ⟨-, hn⟩ | ⟨hout, -⟩
  · exact absurd hl (Nat.not_le.mpr (heardFrom_mark_lt hn))
  · rw [heeds_of_outside hout] at hm
    cases hm

/-- R63: the station as a SKIP against another member leaves it for the build unit. -/
def skipTaken (f : SkipFrame) (s : State) : State :=
  ((((s.skipHeard false f).missTurn f.subject f.number.toNat).withdrawSkipFor f.subject)).reassess

theorem skipTaken_frame (f : SkipFrame) (s : State) :
    (s.skipTaken f).pins = s.pins ∧ (s.skipTaken f).start = s.start ∧ (s.skipTaken f).config = s.config
      ∧ (s.skipTaken f).trig = s.trig ∧ (s.skipTaken f).time = s.time ∧ (s.skipTaken f).build = s.build
      ∧ (s.skipTaken f).freeIndex = s.freeIndex := by
  obtain ⟨hpins, hstart, hconfig, htrig, htime, -, hbuild, hfree⟩ := skipHeard_frame false f s
  simp [skipTaken, hpins, hstart, hconfig, htrig, htime, hbuild, hfree]

theorem skipTaken_insp (f : SkipFrame) (s : State) : (s.skipTaken f).insp.faults = s.refusalFaults f.number.toNat
    ∧ (s.skipTaken f).insp.counters = s.insp.counters := by
  have hinsp : (s.skipTaken f).insp = (s.skipHeard false f).insp := by simp [skipTaken]
  rw [hinsp]
  exact skipHeard_insp false f s

theorem builds_congr (hp : t.pins = s.pins) (hs : t.start = s.start) : t.builds = s.builds := by
  simp only [builds, isCollector, hp, hs]

theorem tracks_of_builds (h : s.builds = true) : s.tracks = true := by
  rw [tracks_iff]
  simp only [builds, Bool.and_eq_true, Bool.or_eq_true, decide_eq_true_eq] at h
  rcases h.2 with hs | hs <;> simp [hs]

/-- R95, R97, R105: a frame for event `n` reached the build unit and found no OPEN build. -/
structure Unbuilt (n : Nat) (s v : State) : Prop where
  pins : v.pins = s.pins
  start : v.start = s.start
  config : v.config = s.config
  trig : v.trig = s.trig
  time : v.time = s.time
  build : v.build = s.build
  freeIndex : v.freeIndex = s.freeIndex
  late : n ≤ s.build.floor ∨ (s.build.builds.find? (fun y : Build => y.number = n)).isSome = true →
    v.insp.counters = (s.bump .lateFrags).insp.counters
  overflow : s.build.floor < n → s.build.builds.find? (fun y : Build => y.number = n) = none →
    8 ≤ s.build.builds.length ∧ v.insp.counters = (s.bump .buildOverflows).insp.counters
      ∧ v.insp.faults = (s.refusalFaults n).enter
        { code := .buildOverflow, context := n, time := s.time.counter, state := s.time.state }

theorem handleFrag_finds_no_build {f : FragFrame} (hb : s.builds = true) (hr : s.BuildsPart f)
    (h : f.number.toNat ≤ s.build.floor ∨ s.contributionBefore f.number.toNat 0 false = none) (own : Bool) :
    s.Unbuilt f.number.toNat (s.handleFrag own f) := by
  obtain ⟨hpins, hstart, hconfig, htrig, htime, hbuild, hfree, -⟩ := partTaken_frame own f s
  obtain ⟨-, -, -, hfaults, hcounters⟩ := s.hearEvent_effects f.number.toNat
  have hinsp := partTaken_insp_of_built hr own
  have hunbuilt := buildFrame_unbuilt (stamp := (s.hearEvent f.number.toNat).takeTime f.number.toNat)
    (apply := State.applyPart f) ((partTaken_builds own f s).trans hb) hbuild (by rw [hinsp, hcounters]) h
  rw [handleFrag_of_built (tracks_of_builds hb) hr]
  obtain ⟨ubuild, ufree, ulate, uover⟩ := hunbuilt
  refine ⟨by simp [hpins], by simp [hstart], by simp [hconfig], by simp [htrig], by simp [htime], ubuild,
    ufree.trans hfree, ulate, fun hn hnone => ?_⟩
  obtain ⟨hfull, hcount, hraised⟩ := uover hn hnone
  rw [Raised, hinsp, hfaults, htime] at hraised
  exact ⟨hfull, hcount, hraised⟩

theorem handleSkip_finds_no_build {f : SkipFrame} (hb : s.builds = true) (hme : f.subject ≠ s.pins.address)
    (hm : s.heeds f.subject = true) (hn : s.mark f.subject < f.number.toNat)
    (h : f.number.toNat ≤ s.build.floor ∨ s.contributionBefore f.number.toNat 0 false = none) :
    s.Unbuilt f.number.toNat (s.handleSkip false f) := by
  obtain ⟨hpins, hstart, hconfig, htrig, htime, hbuild, hfree⟩ := skipTaken_frame f s
  obtain ⟨hfaults, hcounters⟩ := skipTaken_insp f s
  have hunbuilt := buildFrame_unbuilt (stamp := (s.hearEvent f.number.toNat).takeTime f.number.toNat)
    (apply := State.applySkip f) ((builds_congr hpins hstart).trans hb) hbuild hcounters h
  have hhandle : s.handleSkip false f = (s.skipTaken f).buildFrame f.number.toNat
      ((s.hearEvent f.number.toNat).takeTime f.number.toNat) (State.applySkip f) :=
    handleSkip_other (tracks_of_builds hb) (skipCounts_of_heeded hm hn) hme
  rw [hhandle]
  obtain ⟨ubuild, ufree, ulate, uover⟩ := hunbuilt
  refine ⟨by simp [hpins], by simp [hstart], by simp [hconfig], by simp [htrig], by simp [htime], ubuild,
    ufree.trans hfree, ulate, fun hn hnone => ?_⟩
  obtain ⟨hfull, hcount, hraised⟩ := uover hn hnone
  rw [Raised, hfaults, htime] at hraised
  exact ⟨hfull, hcount, hraised⟩

/-- R97: the overflow's fault, after the refusal's where the list refused the event. -/
theorem Unbuilt.flag {n : Nat} {r : FaultRecord} (h : v.insp.faults = r.enter
    { code := .buildOverflow, context := n, time := s.time.counter, state := s.time.state }) :
    v.insp.faults.flags.getLsbD 10 = true := by
  rw [h, FaultRecord.enter_flags, BitVec.getLsbD_or]
  simp [FaultCode.flag, FaultCode.number]

end State

/-- Settles O34. -/
theorem partsWithoutABuildAreCounted : Obligations.PartsWithoutABuildAreCounted := by
  intro s c n hb hinv hframe hnone
  have hended : ∀ f : Frame, ∃ fr, s.ended f = s.setFrames fr := fun f => ⟨_, s.ended_eq f⟩
  obtain ⟨fr, v, hexec, hv⟩ : ∃ fr v, exec c s = .next (v.settle s.order) ∧ (s.setFrames fr).Unbuilt n v := by
    rcases hframe with ⟨f, rfl, rfl, hh, hc, hr⟩ | ⟨k, rfl, rfl, hh, hc, hown, hme, hm, hn⟩
    · obtain ⟨fr, hfr⟩ := hended (.frag f)
      have hexec := State.exec_frag hh hc (State.tracks_of_builds hb)
      rw [hfr] at hexec
      exact ⟨fr, _, hexec, State.handleFrag_finds_no_build (s := s.setFrames fr) hb hr hnone _⟩
    · obtain ⟨fr, hfr⟩ := hended (.skip k)
      have hexec := State.exec_skip hh hc (State.tracks_of_builds hb)
      rw [hfr, hown] at hexec
      exact ⟨fr, _, hexec, State.handleSkip_finds_no_build (s := s.setFrames fr) hb hme hm hn hnone⟩
  obtain ⟨tpins, tstart, tconfig, ttrig, ttime, -, tinsp, tfree, -⟩ := v.settle_frame s.order
  obtain ⟨tcontent, tlast⟩ := v.settle_builds s.order
  refine ⟨_, hexec, fun h => ?_, fun hn hfind => ?_, tcontent.trans (by rw [hv.build]; rfl),
    State.settlesBuilds_settle hinv (by rw [hv.build]; rfl), tlast.trans (by rw [hv.build]; rfl), ttime.trans hv.time,
    tstart.trans hv.start, ttrig.trans hv.trig, tpins.trans hv.pins, tconfig.trans hv.config, tfree.trans hv.freeIndex⟩
  · rw [tinsp]
    exact hv.late h
  · obtain ⟨hfull, hcount, hfaults⟩ := hv.overflow hn hfind
    refine ⟨Nat.le_antisymm hinv.1 hfull, ?_, ?_, fun hlisted => ?_⟩
    · rw [tinsp]
      exact hcount
    · rw [tinsp]
      exact State.Unbuilt.flag hfaults
    · rw [State.Raised, tinsp, hfaults]
      have hstands : (s.setFrames fr).refusalFaults n = s.insp.faults :=
        if_neg fun h => Bool.false_ne_true (h.1.1.symm.trans hlisted)
      rw [hstands]
      rfl

end Sys2Proof.Machine
end

section
/-! A part or a SKIP that an OPEN build takes (R96, R99, R101, R102): the build it finds or makes, the contribution it
settles, and what the settling after it leaves (R103, R106). -/

namespace Sys2Proof.Machine

/-! ## Lists of builds and of contributions -/

theorem insertBuild_filter {p : Build → Bool} {b : Build} (hb : ¬ p b = true) (l : List Build) :
    (insertBuild b l).filter p = l.filter p := by
  induction l with
  | nil => simp [insertBuild, hb]
  | cons x l ih =>
    unfold insertBuild
    split
    · rw [List.filter_cons_of_neg hb]
    · simp only [List.filter_cons, ih]

/-- R102: the other addresses' contributions stand. -/
theorem putContribution_filter (c : Contribution) (l : List Contribution) :
    (putContribution c l).filter (fun d => d.member ≠ c.member) = l.filter (fun d => d.member ≠ c.member) := by
  induction l with
  | nil => simp [putContribution]
  | cons x l ih =>
    unfold putContribution
    split
    · simp
    · split
      · next he => simp [← he]
      · simp only [List.filter_cons, ih]

theorem mem_putContribution_of_ne {c d : Contribution} {l : List Contribution} (h : d.member ≠ c.member) :
    d ∈ putContribution c l ↔ d ∈ l := by
  have hfilter := congrArg (fun k => d ∈ k) (putContribution_filter c l)
  simpa [h] using hfilter

/-- What is shown of builds picked by their numbers. -/
theorem filter_of_shown {l k : List Build} (p : Nat → Bool) (h : l.map Build.shown = k.map Build.shown) :
    (l.filter fun b => p b.number).map Build.shown = (k.filter fun b => p b.number).map Build.shown := by
  have hfilter := congrArg (List.filter fun b : Build => p b.number) h
  rw [List.filter_map, List.filter_map] at hfilter
  exact hfilter

namespace State
variable {s t u v w : State}

/-! ## The OPEN build for an event -/

/-- R96: the build for event `n`, a new one where the table holds none. -/
def openBuild (n : Nat) (stamp : Option Time) (w : State) : Build :=
  (w.build.builds.find? fun y : Build => y.number = n).getD (w.newBuild n stamp)

/-- R91, R96: the table with it. -/
def withOpen (n : Nat) (stamp : Option Time) (w : State) : List Build :=
  if (w.build.builds.find? fun y : Build => y.number = n).isSome then w.build.builds
  else insertBuild (w.newBuild n stamp) w.build.builds

def opening (n : Nat) (stamp : Option Time) (w : State) : State :=
  w.setBuild { w.build with builds := w.withOpen n stamp }

/-- R96, R102: where an OPEN build is to be had, and what contribution the frame meets in it. -/
theorem contributionBefore_some {n : Nat} {m : Addr} {out : Bool} {c : Contribution}
    (h : w.contributionBefore n m out = some c) :
    (∃ x, w.build.builds.find? (fun y : Build => y.number = n) = some x ∧ x.state = .opened ∧ c = x.contribution m)
      ∨ w.build.builds.find? (fun y : Build => y.number = n) = none ∧ w.build.builds.length < 8 ∧ c = .fresh m out := by
  unfold contributionBefore at h
  cases hf : w.build.builds.find? (fun y : Build => y.number = n) with
  | some x =>
    rw [hf] at h
    by_cases ho : x.state = .opened
    · exact Or.inl ⟨x, rfl, ho, by simpa [ho, eq_comm] using h⟩
    · simp [ho] at h
  | none =>
    rw [hf] at h
    by_cases hl : w.build.builds.length < 8
    · exact Or.inr ⟨rfl, hl, by simpa [hl, eq_comm] using h⟩
    · simp [hl] at h

section Open

variable {n : Nat} {m : Addr} {out : Bool} {c : Contribution} {stamp : Option Time}

theorem buildFrame_of_room {apply : Build → State → State} (hb : w.builds = true) (hn : w.build.floor < n)
    (h : w.contributionBefore n m out = some c) :
    w.buildFrame n stamp apply = apply (w.openBuild n stamp) (w.opening n stamp) := by
  unfold opening openBuild withOpen
  rcases contributionBefore_some h with ⟨x, hx, ho, -⟩ | ⟨hnone, hl, -⟩
  · rw [buildFrame_opened hb hn hx ho, hx]
    rfl
  · rw [buildFrame_new hb hn hnone hl, hnone]
    rfl

theorem openBuild_opened (h : w.contributionBefore n m out = some c) :
    (w.openBuild n stamp).number = n ∧ (w.openBuild n stamp).state = .opened
      ∧ w.openBuild n stamp ∈ w.withOpen n stamp := by
  unfold openBuild withOpen
  rcases contributionBefore_some h with ⟨x, hx, ho, -⟩ | ⟨hnone, -, -⟩
  · have hnumber : x.number = n := by simpa using List.find?_some hx
    rw [hx]
    exact ⟨hnumber, ho, List.mem_of_find?_eq_some hx⟩
  · rw [hnone]
    exact ⟨rfl, rfl, mem_insertBuild.mpr (Or.inl rfl)⟩

/-- R102: the contribution that the frame meets there. -/
theorem openBuild_contribution (h : w.contributionBefore n m out = some c) (hout : out = !w.isMember m) :
    (w.openBuild n stamp).contribution m = c := by
  unfold openBuild
  rcases contributionBefore_some h with ⟨x, hx, -, hc⟩ | ⟨hnone, -, hc⟩
  · rw [hx, hc]
    rfl
  · rw [hnone, hc, hout, Option.getD_none, Build.contribution, newBuild, List.find?_map]
    by_cases hm : w.isMember m = true
    · have hfind : w.order.find? ((fun c : Contribution => decide (c.member = m)) ∘ fun a => .fresh a false) = some m := by
        have hsome : (w.order.find? ((fun c : Contribution => decide (c.member = m)) ∘ fun a => .fresh a false)).isSome := by
          rw [List.find?_isSome]
          exact ⟨m, mem_order.mpr hm, by simp [Contribution.fresh]⟩
        obtain ⟨a, ha⟩ := Option.isSome_iff_exists.mp hsome
        have heq := List.find?_some ha
        simp only [Function.comp_apply, Contribution.fresh, decide_eq_true_eq] at heq
        rw [ha, heq]
      rw [hfind, hm]
      rfl
    · have hfind : w.order.find? ((fun c : Contribution => decide (c.member = m)) ∘ fun a => .fresh a false) = none := by
        refine List.find?_eq_none.mpr fun a ha heq => hm ?_
        simp only [Function.comp_apply, Contribution.fresh, decide_eq_true_eq] at heq
        exact heq ▸ mem_order.mp ha
      rw [hfind, Bool.eq_false_iff.mpr hm]
      rfl

/-- R91: it is the only one of its number. -/
theorem withOpen_unique (hinv : w.TableInv) (h : w.contributionBefore n m out = some c) {y : Build}
    (hy : y ∈ w.withOpen n stamp) (hn : y.number = n) : y = w.openBuild n stamp := by
  unfold openBuild
  unfold withOpen at hy
  rcases contributionBefore_some h with ⟨x, hx, -, -⟩ | ⟨hnone, -, -⟩
  · rw [hx, Option.isSome_some, if_pos rfl] at hy
    have hfind := find_of_mem hinv hy
    rw [hn] at hfind
    rw [hfind]
    rfl
  · rw [hnone, Option.isSome_none, if_neg Bool.false_ne_true] at hy
    rw [hnone]
    refine (mem_insertBuild.mp hy).resolve_right fun hmem => ?_
    simpa [hn] using List.find?_eq_none.mp hnone y hmem

theorem withOpen_filter (n : Nat) (stamp : Option Time) (w : State) : (w.withOpen n stamp).filter (fun x => x.number ≠ n)
    = w.build.builds.filter (fun x => x.number ≠ n) := by
  unfold withOpen
  split
  · rfl
  · exact insertBuild_filter (by simp [newBuild]) _

/-- R96: a new build takes no build memory. -/
theorem opening_samples (n : Nat) (stamp : Option Time) (w : State) :
    (w.opening n stamp).build.samples = w.build.samples := by
  unfold opening withOpen
  split
  · rfl
  · simp only [setBuild_build, BuildUnit.samples, ((BuildKept.insertBuild_perm _ _).map Build.samples).sum_eq,
      List.map_cons, List.sum_cons, BuildKept.newBuild_samples, Nat.zero_add]

end Open

/-! ## The frame applied -/

/-- R99, R101, R107: the OPEN build for `n` with a contribution settled, its flag and its timer set. -/
def openTaken (n : Nat) (stamp : Option Time) (c : Contribution) (cut : Bool) (w : State) : Build :=
  { w.openBuild n stamp with
    contributions := putContribution c (w.openBuild n stamp).contributions
    truncated := cut, timer := some w.closeTicks }

/-- R99, R101: `v` is `w` after its OPEN build for `n` has taken a frame so. -/
structure TakesInto (n : Nat) (stamp : Option Time) (c : Contribution) (cut : Bool) (w v : State) : Prop where
  builds : v.build.builds
    = (w.withOpen n stamp).map fun x => if x.number = n then w.openTaken n stamp c cut else x
  last : v.build.lastDelivered = w.build.lastDelivered
  roster : v.roster = w.roster

section Taken

variable {n : Nat} {m : Addr} {out cut : Bool} {c c' : Contribution} {stamp : Option Time}

theorem openTaken_number (h : w.contributionBefore n m out = some c) : (w.openTaken n stamp c' cut).number = n :=
  (openBuild_opened h).1

/-- The other builds stand. -/
theorem TakesInto.others (hv : TakesInto n stamp c' cut w v) (h : w.contributionBefore n m out = some c) :
    v.build.builds.filter (fun x => x.number ≠ n) = w.build.builds.filter (fun x => x.number ≠ n) := by
  have hnumber := openTaken_number (stamp := stamp) (c' := c') (cut := cut) h
  rw [hv.builds, ← withOpen_filter n stamp w, List.filter_map]
  have hsame : (fun x : Build => decide (x.number ≠ n)) ∘ (fun x => if x.number = n then w.openTaken n stamp c' cut else x)
      = fun x : Build => decide (x.number ≠ n) := by
    funext x
    by_cases hx : x.number = n <;> simp [hx, hnumber]
  rw [hsame]
  refine (List.map_congr_left fun x hx => ?_).trans (List.map_id _)
  have hx : x.number ≠ n := by simpa using (List.mem_filter.mp hx).2
  rw [if_neg hx]
  rfl

theorem TakesInto.mem (hv : TakesInto n stamp c' cut w v) (h : w.contributionBefore n m out = some c) :
    w.openTaken n stamp c' cut ∈ v.build.builds := by
  obtain ⟨hnumber, -, hmem⟩ := openBuild_opened (stamp := stamp) h
  rw [hv.builds]
  exact List.mem_map.mpr ⟨_, hmem, if_pos hnumber⟩

theorem contributionSettled_member (leaving : List Addr) (n : Nat) (c : Contribution) :
    (v.contributionSettled leaving n c).member = c.member := by
  unfold contributionSettled
  split <;> rfl

theorem contributionSettled_of_settled (leaving : List Addr) (n : Nat) (h : c.state ≠ .waiting) :
    v.contributionSettled leaving n c = c := if_neg h

/-- R103, R106: the OPEN build that took the frame, as the settling leaves it. -/
theorem TakesInto.settled (hv : TakesInto n stamp c' cut w v) (h : w.contributionBefore n m out = some c)
    (before : List Addr) : ∃ b ∈ (v.settle before).build.builds, b.number = n ∧ b.time = (w.openBuild n stamp).time
      ∧ b.contributions = (putContribution c' (w.openBuild n stamp).contributions).map
        (v.contributionSettled (before.filter fun a => a ∉ v.order) n)
      ∧ b.truncated = cut ∧ (b.state = .opened → b.timer = some w.closeTicks) := by
  obtain ⟨hnumber, hopened, -⟩ := openBuild_opened (stamp := stamp) h
  have htaken : (w.openTaken n stamp c' cut).state = .opened := hopened
  have hmem : v.settleBuild (before.filter fun a => a ∉ v.order) (w.openTaken n stamp c' cut)
      ∈ v.build.builds.map (v.settleBuild (before.filter fun a => a ∉ v.order)) := List.mem_map_of_mem (hv.mem h)
  obtain ⟨b, hb, hshown⟩ := mem_of_shown (settle_shown before v).symm hmem
  have hsettled := hshown.symm
  refine ⟨b, hb, ?_, ?_, ?_, ?_, fun ho => ?_⟩
  · have hn := congrArg Build.number hshown
    rw [settleBuild_of_opened htaken] at hn
    exact hn.trans hnumber
  · have htime := congrArg Build.time hshown
    rw [settleBuild_of_opened htaken] at htime
    exact htime
  · have hcontributions := congrArg Build.contributions hshown
    rw [settleBuild_of_opened htaken, openTaken_number h] at hcontributions
    exact hcontributions
  · have htruncated := congrArg Build.truncated hshown
    rw [settleBuild_of_opened htaken] at htruncated
    exact htruncated
  · have hstill := (Build.shown_opened _).mp ((congrArg Build.state hsettled).trans ((Build.shown_opened b).mpr ho))
    exact (timer_of_settled hstill hsettled).2

/-- R103, R106: and the other builds. -/
theorem others_settled (hothers : v.build.builds.filter (fun x => x.number ≠ n) = s.build.builds.filter (fun x => x.number ≠ n))
    {t : State} (ht : t = v.settle s.order) :
    (t.build.builds.filter (fun x => x.number ≠ n)).map Build.content
        = (s.build.builds.filter (fun x => x.number ≠ n)).map Build.content
      ∧ (t.build.builds.filter (fun x => x.number ≠ n)).map (·.contributions)
        = (s.build.builds.filter (fun x => x.number ≠ n)).map (s.settledContributions t) := by
  have hshown := filter_of_shown (fun k => k ≠ n) (settle_shown s.order v)
  have hsame : (fun x : Build => decide (x.number ≠ n)) ∘ v.settleBuild (s.order.filter fun a => a ∉ v.order)
      = fun x : Build => decide (x.number ≠ n) := by
    funext x
    have hcontent := congrArg Build.number (settleBuild_content v (s.order.filter fun a => a ∉ v.order) x)
    have hnumber : (v.settleBuild (s.order.filter fun a => a ∉ v.order) x).number = x.number := hcontent
    rw [Function.comp_apply, hnumber]
  have hroster : t.roster = v.roster := by rw [ht]; simp
  rw [List.filter_map, hsame, hothers, ← ht] at hshown
  constructor
  · rw [map_of_shown Build.content (fun _ => rfl) hshown, List.map_map]
    exact List.map_congr_left fun x _ => settleBuild_content v _ x
  · rw [map_of_shown (fun b => b.contributions) (fun _ => rfl) hshown, List.map_map]
    exact List.map_congr_left fun x _ => settleBuild_contributions hroster x

/-- R106: every build that was OPEN, or is new, is OPEN as the settling finds it. -/
theorem TakesInto.closes (hv : TakesInto n stamp c' cut w v) (h : w.contributionBefore n m out = some c)
    (hbuild : w.build = s.build) (hinv : s.TableInv) : s.ClosesFinished (v.settle s.order) := by
  obtain ⟨-, hopened, -⟩ := openBuild_opened (stamp := stamp) h
  refine closesFinished_settle s.order fun y hy hbefore => ?_
  by_cases hn : y.number = n
  · rw [hv.builds] at hy
    obtain ⟨x, -, rfl⟩ := List.mem_map.mp hy
    by_cases hx : x.number = n
    · rw [if_pos hx]
      exact hopened
    · rw [if_neg hx] at hn
      exact absurd hn hx
  · have hmem : y ∈ v.build.builds.filter (fun x => x.number ≠ n) := List.mem_filter.mpr ⟨hy, by simpa using hn⟩
    rw [hv.others h, hbuild] at hmem
    exact hbefore y (find_of_mem hinv (List.mem_filter.mp hmem).1)

/-- R96, R103: a new build after the settling: the members of the turn order and the frame's address, of which nothing
has been received. -/
theorem TakesInto.fresh (hv : TakesInto n stamp c' cut w v) (hm : c'.member = m)
    (hnone : w.build.builds.find? (fun y : Build => y.number = n) = none) {l : List Contribution}
    (hl : l = (putContribution c' (w.openBuild n stamp).contributions).map
      (v.contributionSettled (s.order.filter fun a => a ∉ v.order) n)) :
    (∀ a : Addr, (∃ d ∈ l, d.member = a) ↔ v.isMember a = true ∨ a = m)
      ∧ ∀ d ∈ l, d.member ≠ m → d.parts = 0 ∧ d.samples = [] ∧ d.flags = noFlags ∧ d.joined = false
        ∧ (d.state = .waiting ∨ d.state = .unheard) := by
  have hopen : (w.openBuild n stamp).contributions = w.order.map fun a => .fresh a false := by
    unfold openBuild
    rw [hnone]
    rfl
  have horder (a : Addr) : a ∈ w.order ↔ v.isMember a = true := by rw [← order_of_roster hv.roster, mem_order]; rfl
  have hother {e : Contribution} (he : e.member ≠ m) : e ∈ putContribution c' (w.openBuild n stamp).contributions
      ↔ ∃ a ∈ w.order, .fresh a false = e := by
    rw [mem_putContribution_of_ne (hm.symm ▸ he), hopen, List.mem_map]
  constructor
  · intro a
    rw [hl]
    constructor
    · rintro ⟨d, hd, rfl⟩
      obtain ⟨e, he, rfl⟩ := List.mem_map.mp hd
      rw [contributionSettled_member]
      by_cases hme : e.member = m
      · exact Or.inr hme
      · obtain ⟨a, ha, rfl⟩ := (hother hme).mp he
        exact Or.inl ((horder a).mp ha)
    · intro ha
      by_cases hme : a = m
      · exact ⟨_, List.mem_map_of_mem (mem_putContribution_self c' _), by rw [contributionSettled_member, hm, hme]⟩
      · have hfresh := (hother (e := .fresh a false) hme).mpr ⟨a, (horder a).mpr (ha.resolve_right hme), rfl⟩
        exact ⟨_, List.mem_map_of_mem hfresh, contributionSettled_member _ _ _⟩
  · intro d hd hne
    rw [hl] at hd
    obtain ⟨e, he, rfl⟩ := List.mem_map.mp hd
    rw [contributionSettled_member] at hne
    obtain ⟨a, ha, rfl⟩ := (hother hne).mp he
    have hstays : a ∉ s.order.filter fun a => a ∉ v.order := by
      rw [order_of_roster hv.roster]
      simp [ha]
    unfold contributionSettled
    rw [if_pos (show (Contribution.fresh a false).state = .waiting from rfl)]
    refine ⟨rfl, rfl, rfl, rfl, ?_⟩
    rw [show (Contribution.fresh a false).member = a from rfl, if_neg hstays]
    cases v.finished n
    · exact Or.inl rfl
    · exact Or.inr rfl

/-- R103, R106: in an existing build the other contributions are settled, and that is all. -/
theorem TakesInto.standing (hm : c'.member = m) {x : Build}
    (hx : w.build.builds.find? (fun y : Build => y.number = n) = some x) (ho : x.state = .opened) {t : State}
    (hroster : t.roster = v.roster) {l : List Contribution}
    (hl : l = (putContribution c' (w.openBuild n stamp).contributions).map
      (v.contributionSettled (s.order.filter fun a => a ∉ v.order) n)) :
    l.filter (fun d => d.member ≠ m) = (s.settledContributions t x).filter (fun d => d.member ≠ m) := by
  have hopen : w.openBuild n stamp = x := by
    unfold openBuild
    rw [hx]
    rfl
  have hnumber : x.number = n := by simpa using List.find?_some hx
  have hcongr : t.contributionSettled (s.order.filter fun a => a ∉ t.order) x.number
      = v.contributionSettled (s.order.filter fun a => a ∉ v.order) n := by
    funext d
    rw [contributionSettled, contributionSettled, finished_of_roster hroster, order_of_roster hroster, hnumber]
  have hsame : (fun d : Contribution => decide (d.member ≠ m)) ∘ v.contributionSettled (s.order.filter fun a => a ∉ v.order) n
      = fun d : Contribution => decide (d.member ≠ m) := by
    funext d
    rw [Function.comp_apply, contributionSettled_member]
  rw [hl, settledContributions_of_opened ho, hcongr, List.filter_map, List.filter_map, hsame, hopen, ← hm,
    putContribution_filter]

/-- R96, R99, R101, R102: what the statements say of the build that took the frame. -/
theorem TakesInto.shows (hv : TakesInto n stamp c' cut w v) (h : w.contributionBefore n m out = some c)
    (hbuild : w.build = s.build) (hm : c'.member = m) (hc' : c'.state ≠ .waiting) {t : State}
    (ht : t = v.settle s.order) : ∃ b ∈ t.build.builds, b.number = n
      ∧ (s.build.builds.find? (fun y : Build => y.number = n) = none → b.time = stamp
        ∧ (∀ a : Addr, (∃ d ∈ b.contributions, d.member = a) ↔ t.isMember a = true ∨ a = m)
        ∧ ∀ d ∈ b.contributions, d.member ≠ m → d.parts = 0 ∧ d.samples = [] ∧ d.flags = noFlags ∧ d.joined = false
          ∧ (d.state = .waiting ∨ d.state = .unheard))
      ∧ (∀ x ∈ s.build.builds.find? (fun y : Build => y.number = n), b.time = x.time
        ∧ b.contributions.filter (fun d => d.member ≠ m)
          = (s.settledContributions t x).filter (fun d => d.member ≠ m))
      ∧ (b.state = .opened → b.timer = some w.closeTicks) ∧ b.truncated = cut ∧ c' ∈ b.contributions := by
  have hroster : t.roster = v.roster := by rw [ht]; simp
  obtain ⟨b, hb, hnumber, htime, hcontributions, htruncated, htimer⟩ := hv.settled h s.order
  rw [← ht] at hb
  have hcases := contributionBefore_some h
  rw [hbuild] at hcases
  refine ⟨b, hb, hnumber, fun hnone => ?_, fun x hx => ?_, htimer, htruncated, ?_⟩
  · rw [← hbuild] at hnone
    obtain ⟨hmembers, hfresh⟩ := hv.fresh (s := s) hm hnone hcontributions
    have hmember (a : Addr) : t.isMember a = v.isMember a := congrArg RosterEntry.isMember (entry_of_roster hroster a)
    refine ⟨?_, fun a => hmember a ▸ hmembers a, hfresh⟩
    rw [htime, openBuild, hnone]
    rfl
  · have ho : x.state = .opened := by
      rcases hcases with ⟨y, hy, ho, -⟩ | ⟨hnone, -⟩
      · rw [Option.mem_def, hy] at hx
        exact Option.some.inj hx ▸ ho
      · rw [Option.mem_def, hnone] at hx
        cases hx
    rw [← hbuild] at hx
    refine ⟨?_, TakesInto.standing (s := s) hm hx ho hroster hcontributions⟩
    rw [htime, openBuild, Option.mem_def.mp hx]
    rfl
  · rw [hcontributions]
    exact List.mem_map.mpr ⟨c', mem_putContribution_self c' _, contributionSettled_of_settled _ _ hc'⟩

end Taken

/-! ## The timestamp of a new build -/

theorem find?_insertTake (n : Nat) {l : List TakeEntry} (h : ∀ e ∈ l, e.number ≠ n) :
    ((insertTake { number := n, time := none } l).find? fun e => e.number = n) = some { number := n, time := none } := by
  induction l with
  | nil => simp [insertTake]
  | cons x l ih =>
    unfold insertTake
    split
    · simp
    · have hx : ¬ x.number = n := h x List.mem_cons_self
      rw [List.find?_cons_of_neg (by simpa using hx)]
      exact ih fun e he => h e (List.mem_cons_of_mem _ he)

/-- R98, log 19: an implied take has no time, so the timestamp is that of the list as it stood. -/
theorem hearEvent_takeTime (n : Nat) (s : State) : (s.hearEvent n).takeTime n = s.takeTime n := by
  obtain ⟨hlist, -⟩ := s.hearEvent_effects n
  rw [takeTime, hlist]
  split
  · next h =>
    have hno := unlisted_not_mem h.1.1
    have hnone : s.agree.takeList.find? (fun e => e.number = n) = none :=
      List.find?_eq_none.mpr fun e he => by simpa using hno e he
    rw [find?_insertTake n hno, takeTime, hnone]
    rfl
  · rfl

end State
end Sys2Proof.Machine
end

section
/-! The parts and the SKIPs that an OPEN build takes (R94 to R104, R106, R107). -/

namespace Sys2Proof.Machine
namespace State
variable {s t u v w : State}

section

variable {n : Nat} {m : Addr} {out cut : Bool} {c c' : Contribution} {stamp : Option Time}

theorem contributionBefore_member (h : w.contributionBefore n m out = some c) : c.member = m := by
  rcases contributionBefore_some h with ⟨x, -, -, rfl⟩ | ⟨-, -, rfl⟩
  · exact BuildKept.contribution_member x m
  · rfl

/-- R96: a final contribution stands in an existing build. -/
theorem opening_of_final (h : w.contributionBefore n m out = some c) (hf : c.isFinal = true) : w.opening n stamp = w := by
  unfold opening withOpen
  rcases contributionBefore_some h with ⟨x, hx, -, -⟩ | ⟨-, -, rfl⟩
  · rw [hx]
    rfl
  · cases hf

theorem openBuild_truncated (h : w.contributionBefore n m out = some c) : (w.openBuild n stamp).truncated
    = (w.build.builds.find? (fun y : Build => y.number = n)).any (·.truncated) := by
  unfold openBuild
  rcases contributionBefore_some h with ⟨x, hx, -, -⟩ | ⟨hnone, -, -⟩
  · rw [hx]
    rfl
  · rw [hnone]
    rfl

/-- R99: a part that meets a final contribution changes nothing. -/
theorem applyPart_final {f : FragFrame} (h : w.contributionBefore n f.sender out = some c) (hout : out = !w.isMember f.sender)
    (hf : c.isFinal = true) : (w.opening n stamp).applyPart f (w.openBuild n stamp) = w := by
  unfold applyPart
  dsimp only
  rw [openBuild_contribution h hout, if_pos hf, opening_of_final h hf]

/-- R99, R100, R104, R107: a part applied to its contribution. -/
theorem applyPart_takes {f : FragFrame} (h : w.contributionBefore n f.sender out = some c)
    (hout : out = !w.isMember f.sender) (hf : c.isFinal = false) :
    TakesInto n stamp (c.applyPart f w.build.freeEntries (Config.surplusPartIsDone w.freeIndex))
        ((w.openBuild n stamp).truncated || decide (w.build.freeEntries < f.samples.length)) w
        ((w.opening n stamp).applyPart f (w.openBuild n stamp))
      ∧ ((w.opening n stamp).applyPart f (w.openBuild n stamp)).insp.counters
        = (if w.build.freeEntries < f.samples.length ∧ (w.openBuild n stamp).truncated = false
          then w.bump .truncatedBuilds else w).insp.counters := by
  have hfree : (w.opening n stamp).build.freeEntries = w.build.freeEntries := by
    rw [BuildUnit.freeEntries, opening_samples, BuildUnit.freeEntries]
  unfold applyPart
  dsimp only
  rw [openBuild_contribution h hout, hf, if_neg Bool.false_ne_true, hfree]
  refine ⟨⟨?_, ?_, ?_⟩, ?_⟩
  · have hput : ((w.opening n stamp).putBuild (w.openTaken n stamp
        (c.applyPart f w.build.freeEntries (Config.surplusPartIsDone w.freeIndex))
        ((w.openBuild n stamp).truncated || decide (w.build.freeEntries < f.samples.length)))).build.builds
        = (w.withOpen n stamp).map fun x => if x.number = n then w.openTaken n stamp
          (c.applyPart f w.build.freeEntries (Config.surplusPartIsDone w.freeIndex))
          ((w.openBuild n stamp).truncated || decide (w.build.freeEntries < f.samples.length)) else x := by
      have htaken := openTaken_number (stamp := stamp)
        (c' := c.applyPart f w.build.freeEntries (Config.surplusPartIsDone w.freeIndex))
        (cut := (w.openBuild n stamp).truncated || decide (w.build.freeEntries < f.samples.length)) h
      unfold putBuild
      rw [htaken]
      rfl
    rw [← hput]
    split <;> split <;> rfl
  · split <;> split <;> rfl
  · split <;> split <;> rfl
  · have hdrops : (decide (w.build.freeEntries < f.samples.length) && !(w.openBuild n stamp).truncated) = true
        ↔ w.build.freeEntries < f.samples.length ∧ (w.openBuild n stamp).truncated = false := by simp
    simp only [hdrops]
    split <;> split <;> rfl

theorem contributionBefore_congr (h : w.build = s.build) : w.contributionBefore n m out = s.contributionBefore n m out := by
  rw [contributionBefore, contributionBefore, h]

theorem tableInv_congr (h : w.build = s.build) (hinv : s.TableInv) : w.TableInv := by
  unfold TableInv
  rw [h]
  exact hinv

/-- R99, R100: no part leaves its contribution WAITING. -/
theorem stateAfter_not_waiting (c : Contribution) (f : FragFrame) (b : Bool) : c.stateAfter f b ≠ .waiting := by
  unfold Contribution.stateAfter
  (repeat' split) <;> simp

end

/-- R55: the members are those of the reception's start, the sender among them where it is heeded. -/
theorem partTaken_isMember (own : Bool) (f : FragFrame) (s : State) : (s.partTaken own f).isMember f.sender = s.heeds f.sender := by
  have hroster : (s.partTaken own f).roster = ((s.heardFrom f.sender f.number.toNat).partCounted f).roster := by
    unfold partTaken
    split <;> simp
  rw [isMember_eq, entry_of_roster hroster, ← isMember_eq, partCounted_isMember, heardFrom_isMember]

/-- R94 to R104: a part that an OPEN build takes. `w` is the station as the part's other owners leave it. -/
theorem handleFrag_builds {f : FragFrame} (hb : s.builds = true) (hr : s.BuildsPart f) (hn : s.build.floor < f.number.toNat)
    {c : Contribution} (hc : s.contributionBefore f.number.toNat f.sender (!s.heeds f.sender) = some c) (own : Bool) :
    ∃ w, w.build = s.build ∧ w.insp.counters = s.insp.counters ∧ w.config = s.config ∧ w.freeIndex = s.freeIndex
      ∧ w.contributionBefore f.number.toNat f.sender (!s.heeds f.sender) = some c
      ∧ (c.isFinal = true → (s.handleFrag own f).build = s.build
        ∧ (s.handleFrag own f).insp.counters = s.insp.counters)
      ∧ (c.isFinal = false → TakesInto f.number.toNat (s.takeTime f.number.toNat)
          (c.applyPart f s.build.freeEntries (Config.surplusPartIsDone s.freeIndex))
          ((s.build.builds.find? (fun y : Build => y.number = f.number.toNat)).any (·.truncated)
            || decide (s.build.freeEntries < f.samples.length)) w (s.handleFrag own f)
        ∧ (s.handleFrag own f).insp.counters = (if s.build.freeEntries < f.samples.length
            ∧ (s.build.builds.find? (fun y : Build => y.number = f.number.toNat)).any (·.truncated) = false
          then s.bump .truncatedBuilds else s).insp.counters) := by
  obtain ⟨-, -, hconfig, -, -, hbuild, hfree, -⟩ := partTaken_frame own f s
  obtain ⟨-, -, -, -, hcounters⟩ := s.hearEvent_effects f.number.toNat
  have hcount : (s.partTaken own f).insp.counters = s.insp.counters := by rw [partTaken_insp_of_built hr, hcounters]
  have hmember := congrArg (!·) (partTaken_isMember own f s).symm
  have hbump : ((s.partTaken own f).bump .truncatedBuilds).insp.counters = (s.bump .truncatedBuilds).insp.counters := by
    simp [bump, hcount]
  have hcw := (contributionBefore_congr hbuild).trans hc
  rw [handleFrag_of_built (tracks_of_builds hb) hr, hearEvent_takeTime]
  refine ⟨s.partTaken own f, hbuild, hcount, hconfig, hfree, hcw, ?_⟩
  rw [buildFrame_of_room ((partTaken_builds own f s).trans hb) (by rwa [hbuild]) hcw, ← hbuild, ← hfree,
    ← openBuild_truncated (stamp := s.takeTime f.number.toNat) hcw]
  refine ⟨fun hf => ?_, fun hf => ?_⟩
  · rw [applyPart_final hcw hmember hf]
    exact ⟨rfl, hcount⟩
  · obtain ⟨htakes, hinsp⟩ := applyPart_takes (stamp := s.takeTime f.number.toNat) hcw hmember hf
    refine ⟨htakes, hinsp.trans ?_⟩
    split
    · exact hbump
    · exact hcount

end State

/-- Settles O33. -/
theorem partEntersItsBuild : Obligations.PartEntersItsBuild := by
  intro s f hh hclash hb hinv hr hn c hc
  have hexec := State.exec_frag hh hclash (State.tracks_of_builds hb)
  have hended := s.ended_eq (.frag f)
  generalize (s.ended (.frag f)).frames = fr at hended
  rw [hended] at hexec
  obtain ⟨w, hbuild, -, hconfig, -, hcw, hfinal, htaken⟩ :=
    State.handleFrag_builds (s := s.setFrames fr) hb hr hn hc (s.isOwn (.frag f))
  obtain ⟨hpins, hstart, hconf, htrig, htime, -⟩ := (s.setFrames fr).handleFrag_frame (s.isOwn (.frag f)) f
  generalize (s.setFrames fr).handleFrag (s.isOwn (.frag f)) f = v at *
  obtain ⟨tpins, tstart, tconfig, ttrig, ttime, -, tinsp, -⟩ := v.settle_frame s.order
  obtain ⟨-, tlast⟩ := v.settle_builds s.order
  have hbuilds : c.isFinal = true ∨ c.isFinal = false := by cases c.isFinal <;> simp
  have hothers : v.build.builds.filter (fun x => x.number ≠ f.number.toNat)
      = s.build.builds.filter (fun x => x.number ≠ f.number.toNat) := by
    rcases hbuilds with hf | hf
    · rw [(hfinal hf).1]
      rfl
    · rw [(htaken hf).1.others hcw, hbuild]
      rfl
  obtain ⟨tcontent, tcontributions⟩ := State.others_settled (s := s) hothers rfl
  refine ⟨_, hexec, fun hf => ⟨State.settlesBuilds_settle hinv (by rw [(hfinal hf).1]; rfl), ?_⟩, fun hf => ?_, tcontent,
    tcontributions, ?_, ?_, fun hf => ?_, ttime.trans htime, tstart.trans hstart, ttrig.trans htrig, tpins.trans hpins,
    tconfig.trans hconf⟩
  · rw [tinsp]
    exact (hfinal hf).2
  · obtain ⟨htakes, -⟩ := htaken hf
    have hmember := State.contributionBefore_member hcw
    have hsender : (c.applyPart f (s.setFrames fr).build.freeEntries
        (Config.surplusPartIsDone (s.setFrames fr).freeIndex)).member = f.sender := hmember
    obtain ⟨b, hmem, hnumber, hnew, hold, htimer, htruncated, hd⟩ := htakes.shows (s := s) hcw hbuild hsender
      (State.stateAfter_not_waiting _ _ _) rfl
    refine ⟨b, hmem, hnumber, hnew, hold, fun ho => (htimer ho).trans (by rw [State.closeTicks, State.turnTicks, hconfig]; rfl),
      htruncated, _, hd, hsender, rfl, rfl, rfl, fun hlost => ⟨?_, ?_⟩, fun hlost => ?_, fun hlast => ?_,
      fun hlast hlost => ⟨fun hp => ?_, fun hp => ?_, fun hp => ?_⟩⟩
    · exact if_pos hlost
    · exact if_pos hlost
    · simp [Contribution.applyPart, hlost, unionFlags, noFlags, BuildUnit.freeEntries, Config.buildEntries]
      rfl
    · have hwhole : f.lost = false := by
        have hvalid := hh.2.1
        simp only [frameValid, Bool.and_eq_true, Bool.not_eq_true', hlast] at hvalid
        simpa using hvalid.2
      simp [Contribution.applyPart, Contribution.stateAfter, hlast, hwhole]
    · simp [Contribution.applyPart, Contribution.stateAfter, hlast, hlost, hp]
    · simp [Contribution.applyPart, Contribution.stateAfter, hlast, hlost, hp, Nat.ne_of_lt hp]
    · have hne : ¬ c.parts = f.index.toNat := Nat.ne_of_gt hp
      have hnot : ¬ c.parts < f.index.toNat := Nat.lt_asymm hp
      simp only [Contribution.applyPart, Contribution.stateAfter, hlast, hlost, hne, hnot, if_false, Bool.not_true,
        Bool.false_eq_true]
      exact (em _).imp (fun h => if_pos h) fun h => if_neg h
  · rcases hbuilds with hf | hf
    · exact (State.settlesBuilds_settle hinv (by rw [(hfinal hf).1]; rfl)).2.2
    · exact (htaken hf).1.closes hcw hbuild hinv
  · rcases hbuilds with hf | hf
    · rw [tlast, (hfinal hf).1]
      rfl
    · rw [tlast, (htaken hf).1.last, hbuild]
      rfl
  · rw [tinsp, (htaken hf).2, apply_ite State.insp, apply_ite Inspection.counters]
    refine if_congr (and_congr_right fun _ => ?_) rfl rfl
    cases hfind : s.build.builds.find? (fun y : Build => y.number = f.number.toNat) with
    | none => simp [hfind]
    | some x => simp [hfind]

end Sys2Proof.Machine
end

section
/-! The SKIPs that an OPEN build takes (R94, R96, R101, R102). -/

namespace Sys2Proof.Machine
namespace State
variable {s t u v w : State}

section

variable {n : Nat} {m : Addr} {out cut : Bool} {c c' : Contribution} {stamp : Option Time}

theorem applySkip_final {f : SkipFrame} (h : w.contributionBefore n f.subject out = some c)
    (hout : out = !w.isMember f.subject) (hf : c.isFinal = true) :
    (w.opening n stamp).applySkip f (w.openBuild n stamp) = w := by
  unfold applySkip
  dsimp only
  rw [openBuild_contribution h hout, if_pos hf, opening_of_final h hf]

/-- R101, R107: a SKIP applied to its contribution. -/
theorem applySkip_takes {f : SkipFrame} (h : w.contributionBefore n f.subject out = some c)
    (hout : out = !w.isMember f.subject) (hf : c.isFinal = false) :
    TakesInto n stamp (c.applySkip f.heard.toNat) (w.openBuild n stamp).truncated w
        ((w.opening n stamp).applySkip f (w.openBuild n stamp)) := by
  unfold applySkip
  dsimp only
  rw [openBuild_contribution h hout, hf, if_neg Bool.false_ne_true]
  have htaken := openTaken_number (stamp := stamp) (c' := c.applySkip f.heard.toNat) (cut := (w.openBuild n stamp).truncated) h
  refine ⟨?_, rfl, rfl⟩
  have hput : ((w.opening n stamp).putBuild (w.openTaken n stamp (c.applySkip f.heard.toNat)
      (w.openBuild n stamp).truncated)).build.builds = (w.withOpen n stamp).map fun x =>
        if x.number = n then w.openTaken n stamp (c.applySkip f.heard.toNat) (w.openBuild n stamp).truncated else x := by
    unfold putBuild
    rw [htaken]
    rfl
  exact hput


theorem applySkip_eq (hf : c.isFinal = false) (heard : BitVec 3) : c.applySkip heard.toNat
    = { c with state := if c.state = .waiting ∧ heard = 0 then .skipped else .partly } := by
  have hzero : heard.toNat = 0 ↔ heard = 0 := ⟨fun h => BitVec.eq_of_toNat_eq h, fun h => by rw [h]; rfl⟩
  unfold Contribution.applySkip
  cases hs : c.state with
  | waiting =>
    dsimp only
    simp only [hzero, true_and]
  | partly =>
    dsimp only
    rw [if_neg (by simp), ← hs]
  | done => simp [Contribution.isFinal, hs] at hf
  | lost => simp [Contribution.isFinal, hs] at hf
  | skipped => simp [Contribution.isFinal, hs] at hf
  | unheard => simp [Contribution.isFinal, hs] at hf
  | notExpected => simp [Contribution.isFinal, hs] at hf

theorem openBuild_members (hinv : w.TableInv) (h : w.contributionBefore n m out = some c) :
    (w.openBuild n stamp).contributions.Pairwise fun x y => x.member < y.member := by
  unfold openBuild
  rcases contributionBefore_some h with ⟨x, hx, -, -⟩ | ⟨hnone, -, -⟩
  · obtain ⟨-, -, -, -, hbuilds⟩ := hinv
    obtain ⟨-, -, -, hmembers⟩ := hbuilds x (List.mem_of_find?_eq_some hx)
    rw [hx]
    exact hmembers
  · rw [hnone]
    exact (BuildKept.newBuild_kept w n stamp).members

/-- R93, R101: a frame that brings no samples takes no build memory. -/
theorem TakesInto.samples (hv : TakesInto n stamp c' cut w v) (hinv : w.TableInv)
    (h : w.contributionBefore n m out = some c) (hout : out = !w.isMember m) (hm : c'.member = m)
    (hs : c'.samples = c.samples) : v.build.samples = w.build.samples := by
  have hput := BuildKept.samples_put (w.openBuild n stamp) (openBuild_members (stamp := stamp) hinv h) hm
  rw [openBuild_contribution h hout, hs] at hput
  have hsame : (w.openTaken n stamp c' cut).samples = (w.openBuild n stamp).samples := Nat.add_right_cancel hput
  rw [← opening_samples n stamp w, BuildUnit.samples, BuildUnit.samples, hv.builds, List.map_map]
  refine congrArg List.sum (List.map_congr_left fun x hx => ?_)
  rw [Function.comp_apply]
  split
  · next hn => rw [hsame, withOpen_unique hinv h hx hn]
  · rfl

end

/-! ## The station as a SKIP's other owners leave it -/

/-- R63: the SKIP's mark, and what it does to the station itself. -/
def skipReached (own : Bool) (f : SkipFrame) (s : State) : State :=
  ((s.skipHeard own f).skipTurn f.subject f.number.toNat).reassess

/-- R84: a collector is never SILENCED. -/
theorem skipTurn_start_of_collector (h : s.isCollector = true) (m : Addr) (n : Nat) : (s.skipTurn m n).start = s.start := by
  have hrole : s.pins.role = .collector := by simpa [isCollector] using h
  unfold skipTurn
  dsimp only
  split
  · split
    · rw [ownSilence_start, if_neg (by simp [isAcquirer, hrole])]
      simp
    · simp
  · simp

theorem skipTurn_count {c : Counter} (hc : c ≠ .lateDrops) (m : Addr) (n : Nat) (s : State) :
    (s.skipTurn m n).count c = s.count c := by
  have hdrop (u : State) : (u.dropRecord n).count c = u.count c := by
    unfold dropRecord
    split
    · exact count_bump_of_ne hc _
    · rfl
  have hsilence (u : State) : (u.ownSilence n).count c = u.count c := by
    unfold ownSilence
    dsimp only
    split <;> simp [count, enterSilenced]
  have hmiss : ((s.missTurn m n).withdrawSkipFor m).count c = s.count c := by simp [count]
  unfold skipTurn
  dsimp only
  split
  · split
    · rw [hsilence, hdrop, hmiss]
    · rw [hdrop, hmiss]
  · exact hmiss

theorem skipReached_frame (h : s.isCollector = true) (own : Bool) (f : SkipFrame) :
    (s.skipReached own f).pins = s.pins ∧ (s.skipReached own f).start = s.start
      ∧ (s.skipReached own f).config = s.config ∧ (s.skipReached own f).trig = s.trig
      ∧ (s.skipReached own f).time = s.time ∧ (s.skipReached own f).build = s.build
      ∧ (s.skipReached own f).freeIndex = s.freeIndex := by
  obtain ⟨hpins, hstart, hconfig, htrig, htime, -, hbuild, hfree⟩ := skipHeard_frame own f s
  have hturn := skipTurn_start_of_collector (s := s.skipHeard own f) (by rwa [isCollector, hpins]) f.subject f.number.toNat
  simp [skipReached, hpins, hturn, hstart, hconfig, htrig, htime, hbuild, hfree]

theorem skipReached_count {c : Counter} (hdrops : c ≠ .lateDrops) (hsent : c ≠ .skipsSent) (own : Bool) (f : SkipFrame)
    (s : State) : (s.skipReached own f).count c = s.count c := by
  have hreassess : (s.skipReached own f).count c = ((s.skipHeard own f).skipTurn f.subject f.number.toNat).count c := by
    simp [skipReached, count]
  rw [hreassess, skipTurn_count hdrops, count, (skipHeard_insp own f s).2]
  split
  · exact count_bump_of_ne hsent s
  · rfl

theorem handleSkip_of_reached {f : SkipFrame} (h : s.tracks = true) (hm : s.heeds f.subject = true)
    (hn : s.mark f.subject < f.number.toNat) (own : Bool) : s.handleSkip own f
      = (s.skipReached own f).buildFrame f.number.toNat (s.takeTime f.number.toNat) (State.applySkip f) := by
  rw [handleSkip_eq own f h, if_pos (skipCounts_of_heeded hm hn), hearEvent_takeTime]
  rfl

/-- R47, R81: an address that is heeded is an acquirer's. -/
theorem heardEntry_role {m : Addr} (h : s.heeds m = true) : (s.heardEntry m).role = some .acquirer := by
  unfold heardEntry
  by_cases ha : (s.entry m).state = .absent
  · rw [if_pos ha]
  · rw [if_neg ha]
    rw [heeds_eq, Bool.or_eq_true, decide_eq_true_eq] at h
    have hmember := h.resolve_right fun hc => ha hc.1
    rw [isMember_eq, RosterEntry.isMember, Bool.and_eq_true, decide_eq_true_eq, decide_eq_true_eq] at hmember
    exact hmember.2

/-- R82: a subject that the SKIP silences stands outside the turn order (log 20). -/
theorem skipReached_isMember {f : SkipFrame} (h : s.tracks = true) (hm : s.heeds f.subject = true)
    (hn : s.mark f.subject < f.number.toNat) (own : Bool) : (s.skipReached own f).isMember f.subject
      = !decide (s.config.misslim ≤ (s.heardEntry f.subject).misses + 1) := by
  have hentry := handleSkip_entry_of_heeded (own := own) h hm hn f.subject
  rw [if_pos rfl, handleSkip_of_reached h hm hn, entry_of_roster (s := s.skipReached own f) (by simp)] at hentry
  rw [isMember_eq, hentry, RosterEntry.isMember]
  dsimp only
  rw [heardEntry_role hm]
  by_cases hl : s.config.misslim ≤ (s.heardEntry f.subject).misses + 1 <;> simp [hl]

/-- R94 to R102: a SKIP that an OPEN build takes. `w` is the station as the SKIP's other owners leave it. -/
theorem handleSkip_builds {f : SkipFrame} (hb : s.builds = true) (hinv : s.TableInv) (hm : s.heeds f.subject = true)
    (hmark : s.mark f.subject < f.number.toNat) (hn : s.build.floor < f.number.toNat) {c : Contribution}
    (hc : s.contributionBefore f.number.toNat f.subject
      (decide (s.config.misslim ≤ (s.heardEntry f.subject).misses + 1)) = some c) (own : Bool) :
    ∃ w, w.build = s.build ∧ w.config = s.config
      ∧ w.contributionBefore f.number.toNat f.subject
        (decide (s.config.misslim ≤ (s.heardEntry f.subject).misses + 1)) = some c
      ∧ (c.isFinal = true → (s.handleSkip own f).build = s.build)
      ∧ (c.isFinal = false → TakesInto f.number.toNat (s.takeTime f.number.toNat) (c.applySkip f.heard.toNat)
          ((s.build.builds.find? (fun y : Build => y.number = f.number.toNat)).any (·.truncated)) w
          (s.handleSkip own f))
      ∧ (s.handleSkip own f).build.samples = s.build.samples ∧ (s.handleSkip own f).start = s.start
      ∧ (s.handleSkip own f).count .truncatedBuilds = s.count .truncatedBuilds
      ∧ (s.handleSkip own f).count .lateFrags = s.count .lateFrags := by
  have htracks := tracks_of_builds hb
  have hcollector : s.isCollector = true := by
    rw [builds, Bool.and_eq_true] at hb
    exact hb.1
  obtain ⟨hpins, hstart, hconfig, -, -, hbuild, -⟩ := skipReached_frame hcollector own f
  have hcw := (contributionBefore_congr hbuild).trans hc
  have hwinv := tableInv_congr hbuild hinv
  have hout : decide (s.config.misslim ≤ (s.heardEntry f.subject).misses + 1) = !(s.skipReached own f).isMember f.subject := by
    rw [skipReached_isMember htracks hm hmark, Bool.not_not]
  have hcounts (k : Counter) (hdrops : k ≠ .lateDrops) (hsent : k ≠ .skipsSent) :
      (((s.skipReached own f).opening f.number.toNat (s.takeTime f.number.toNat)).applySkip f
        ((s.skipReached own f).openBuild f.number.toNat (s.takeTime f.number.toNat))).count k = s.count k := by
    rw [applySkip_count, ← skipReached_count hdrops hsent own f s]
    rfl
  have hhandle := handleSkip_of_reached htracks hm hmark own
  have hstart' : (s.handleSkip own f).start = s.start := by
    rw [hhandle]
    simp [hstart]
  rw [buildFrame_of_room ((builds_congr hpins hstart).trans hb) (by rwa [hbuild]) hcw] at hhandle
  rw [hhandle] at hstart' ⊢
  have hfinal (hf : c.isFinal = true) := applySkip_final (stamp := s.takeTime f.number.toNat) hcw hout hf
  have htakes (hf : c.isFinal = false) := applySkip_takes (stamp := s.takeTime f.number.toNat) hcw hout hf
  refine ⟨s.skipReached own f, hbuild, hconfig, hcw, fun hf => by rw [hfinal hf, hbuild], fun hf => ?_, ?_, hstart',
    hcounts _ (by decide) (by decide), hcounts _ (by decide) (by decide)⟩
  · rw [← hbuild, ← openBuild_truncated (stamp := s.takeTime f.number.toNat) hcw]
    exact htakes hf
  · cases hf : c.isFinal with
    | true => rw [hfinal hf, hbuild]
    | false =>
      have hsame := applySkip_eq hf f.heard
      have hmember := contributionBefore_member hcw
      rw [(htakes hf).samples hwinv hcw hout (by rw [hsame]; exact hmember) (by rw [hsame]), hbuild]

end State

/-- Settles O35. -/
theorem skipSettlesContribution : Obligations.SkipSettlesContribution := by
  intro s f hh hclash hb hinv hm hmark hn c hc
  have hexec := State.exec_skip hh hclash (State.tracks_of_builds hb)
  have hended := s.ended_eq (.skip f)
  generalize (s.ended (.skip f)).frames = fr at hended
  rw [hended] at hexec
  obtain ⟨w, hbuild, hconfig, hcw, hfinal, htaken, hsamples, hstart, htruncated, hlate⟩ :=
    State.handleSkip_builds (s := s.setFrames fr) hb hinv hm hmark hn hc (s.isOwn (.skip f))
  obtain ⟨hpins, hconf, htrig, htime, -, hfree, -⟩ := (s.setFrames fr).handleSkip_frame (s.isOwn (.skip f)) f
  generalize (s.setFrames fr).handleSkip (s.isOwn (.skip f)) f = v at *
  obtain ⟨tpins, tstart, tconfig, ttrig, ttime, -, tinsp, tfree, -⟩ := v.settle_frame s.order
  obtain ⟨-, tlast⟩ := v.settle_builds s.order
  have hbuilds : c.isFinal = true ∨ c.isFinal = false := by cases c.isFinal <;> simp
  have hothers : v.build.builds.filter (fun x => x.number ≠ f.number.toNat)
      = s.build.builds.filter (fun x => x.number ≠ f.number.toNat) := by
    rcases hbuilds with hf | hf
    · rw [hfinal hf]
      rfl
    · rw [(htaken hf).others hcw, hbuild]
      rfl
  obtain ⟨tcontent, tcontributions⟩ := State.others_settled (s := s) hothers rfl
  refine ⟨_, hexec, fun hf => State.settlesBuilds_settle hinv (by rw [hfinal hf]; rfl), fun hf => ?_, tcontent,
    tcontributions, ?_, ?_, ?_, ?_, ?_, ttime.trans htime, tstart.trans hstart, ttrig.trans htrig, tpins.trans hpins,
    tconfig.trans hconf, tfree.trans hfree⟩
  · have hsame := State.applySkip_eq hf f.heard
    have hmember := State.contributionBefore_member hcw
    have hsubject : (c.applySkip f.heard.toNat).member = f.subject := by rw [hsame]; exact hmember
    have hsettled : (c.applySkip f.heard.toNat).state ≠ .waiting := by
      rw [hsame]
      dsimp only
      split <;> simp
    obtain ⟨b, hmem, hnumber, hnew, hold, htimer, hcut, hd⟩ := (htaken hf).shows (s := s) hcw hbuild hsubject hsettled rfl
    exact ⟨b, hmem, hnumber, hnew, hold,
      fun ho => (htimer ho).trans (by rw [State.closeTicks, State.turnTicks, hconfig]; rfl), hcut, _, hd, hsame⟩
  · rcases hbuilds with hf | hf
    · exact (State.settlesBuilds_settle hinv (by rw [hfinal hf]; rfl)).2.2
    · exact (htaken hf).closes hcw hbuild hinv
  · have hmaps := congrArg (List.map Prod.snd) (v.settle_samples s.order)
    simp only [List.map_map, Function.comp_def] at hmaps
    exact (congrArg List.sum hmaps).trans hsamples
  · rcases hbuilds with hf | hf
    · rw [tlast, hfinal hf]
      rfl
    · rw [tlast, (htaken hf).last, hbuild]
      rfl
  · rw [State.count, tinsp]
    exact htruncated
  · rw [State.count, tinsp]
    exact hlate

end Sys2Proof.Machine
end

section
/-! A station that gave up sending: a MUTE acquirer, or a collector with `muteAttr`. Nothing that it receives
puts a frame into its queue (R74, R86, R142). -/

namespace Sys2Proof.Machine
namespace State
variable {s t u : State} {k : Nat}

/-- A station that offers nothing, with an empty queue and this failure count. -/
structure Silent (k : Nat) (s : State) : Prop where
  offers : s.isAcquirer = true ∧ s.start.station = .mute ∨ s.isCollector = true ∧ s.start.muteAttr = true
  queue : s.frames.queue = Queue.empty
  failures : s.frames.failures = k

namespace Silent

theorem congr (h : s.Silent k) (hp : t.pins = s.pins) (hs : t.start = s.start) (hf : t.frames = s.frames) : t.Silent k := by
  refine ⟨?_, hf ▸ h.queue, hf ▸ h.failures⟩
  rw [isAcquirer, isCollector, hp, hs]
  exact h.offers

theorem outside (h : s.Silent k) : s.takesTurns = false := by
  rcases h.offers with ⟨-, hs⟩ | ⟨hc, -⟩
  · exact takesTurns_of_station (by simp [hs])
  · simp [takesTurns, isAcquirer_of_collector hc]

theorem sending (h : s.Silent k) : s.sending = false := by
  rcases h.offers with ⟨-, hs⟩ | ⟨-, hm⟩
  · simp [State.sending, mayDrive, hs]
  · simp [State.sending, hm]

/-- R84: nothing SILENCES it further. -/
theorem not_running (h : s.Silent k) : ¬ (s.isAcquirer = true ∧ s.start.station = .running) := by
  rintro ⟨ha, hs⟩
  rcases h.offers with ⟨-, hm⟩ | ⟨hc, -⟩
  · rw [hm] at hs
    cases hs
  · rw [isAcquirer_of_collector hc] at ha
    cases ha

/-- R74: it offers no ROLL frame. -/
theorem offerRoll (h : s.Silent k) (m : RollMode) : s.offerRoll m = s := by
  refine if_pos ?_
  rcases h.offers with ⟨-, hs⟩ | ⟨-, hm⟩
  · simp [hs]
  · simp [hm]

theorem withdrawSkip (h : s.Silent k) : s.withdrawSkip.Silent k := by
  have hframes : s.withdrawSkip.frames = s.frames := by
    have hkeep : Place.withdraw s.frames.queue.skip = s.frames.queue.skip := by rw [h.queue]; rfl
    rw [withdrawSkip_queue, hkeep]
  exact h.congr rfl rfl hframes

theorem stopTimer (h : s.Silent k) : s.stopTimer.Silent k := by
  unfold State.stopTimer dropSkip
  split
  · exact h.withdrawSkip.congr rfl rfl rfl
  · exact h.congr rfl rfl rfl

theorem withdrawSkipFor (h : s.Silent k) (m : Addr) : (s.withdrawSkipFor m).Silent k := by
  unfold State.withdrawSkipFor
  split
  · split
    · exact h.stopTimer
    · exact h
  · exact h

theorem reassess (h : s.Silent k) : s.reassess.Silent k :=
  h.congr (by simp) (by simp) (reassess_of_outside h.outside (by rw [h.queue]; rfl)).2

theorem settle (h : s.Silent k) (l : List Addr) : (s.settle l).Silent k :=
  h.congr (by simp) (by simp) (settle_of_outside h.outside h.queue l).2.1

/-! ### FRAG parts and SKIPs -/

theorem heardFrom (h : s.Silent k) (m : Addr) (n : Nat) : (s.heardFrom m n).Silent k :=
  reassess (s := (s.hearEvent n).learn m n) (h.congr (by simp) (by simp) (by simp))

theorem countPart (h : s.Silent k) (m : Addr) (n : Nat) : (s.countPart m n).Silent k := by
  unfold State.countPart
  dsimp only
  split
  · split
    · exact h.congr rfl rfl rfl
    · exact h.congr rfl rfl rfl
    · exact h.withdrawSkip.congr rfl rfl rfl
  · exact h

theorem partCounted (h : s.Silent k) (f : FragFrame) : (s.partCounted f).Silent k := by
  have hpassed : (s.passImplied f.sender f.number.toNat).Silent k := h.congr (by simp) (by simp) (by simp)
  unfold State.partCounted currentPart
  dsimp only
  split
  · exact h
  · split
    · exact h.congr rfl rfl rfl
    · split
      · exact reassess (hpassed.congr (by simp) (by simp) (by simp))
      · exact hpassed.reassess.countPart _ _

theorem handleFrag (h : s.Silent k) (f : FragFrame) : (s.handleFrag false f).Silent k := by
  cases ht : s.tracks with
  | false => simpa [State.handleFrag, ht] using h
  | true =>
    have htaken : (s.partTaken false f).Silent k := by
      rw [partTaken, if_neg Bool.false_ne_true]
      exact (h.heardFrom _ _).partCounted f
    rw [handleFrag_of_tracks false f ht]
    split
    · exact htaken.congr (by simp) (by simp) (by simp)
    · exact htaken

theorem ownSilence (h : s.Silent k) (n : Nat) : (s.ownSilence n).Silent k := by
  have hraised : (s.raise .silenced n).Silent k := h.congr rfl rfl rfl
  have hno : ¬ ((s.raise .silenced n).isAcquirer && decide ((s.raise .silenced n).start.station = .running)) = true := by
    simpa using hraised.not_running
  unfold State.ownSilence
  dsimp only
  rw [if_neg hno, hraised.offerRoll]
  exact hraised

theorem skipTurn (h : s.Silent k) (m : Addr) (n : Nat) : (s.skipTurn m n).Silent k := by
  have hmissed : ((s.missTurn m n).withdrawSkipFor m).Silent k :=
    withdrawSkipFor (s := s.missTurn m n) (h.congr (by simp) (by simp) (by simp)) m
  have hdropped : (((s.missTurn m n).withdrawSkipFor m).dropRecord n).Silent k := hmissed.congr (by simp) (by simp) (by simp)
  unfold State.skipTurn
  dsimp only
  split
  · split
    · exact hdropped.ownSilence n
    · exact hdropped
  · exact hmissed

theorem handleSkip (h : s.Silent k) (f : SkipFrame) : (s.handleSkip false f).Silent k := by
  cases ht : s.tracks with
  | false => simpa [State.handleSkip, ht] using h
  | true =>
    have hheard : (s.skipHeard false f).Silent k := by
      rw [skipHeard, if_neg Bool.false_ne_true]
      exact h.heardFrom f.subject f.number.toNat
    rw [handleSkip_eq false f ht]
    split
    · exact (hheard.skipTurn f.subject f.number.toNat).reassess.congr (by simp) (by simp) (by simp)
    · exact hheard

/-! ### ROLL frames -/

theorem offerEcho (h : s.Silent k) : s.offerEcho = s := by
  unfold State.offerEcho
  split
  · exact h.offerRoll _
  · rfl

theorem withdrawEcho (h : s.Silent k) : s.withdrawEcho = s := by
  refine withdrawEcho_of_other fun p hp => ?_
  rw [h.queue] at hp
  cases hp

theorem otherRoll (h : s.Silent k) (f : RollFrame) : (s.otherRoll f).Silent k := by
  have hmarked : (s.mismatch f).Silent k := h.congr (by simp) (by simp) (by simp)
  have hheard (n : Nat) (g : RosterEntry → RosterEntry) : ((s.raiseHighTake n).hearRoll f.sender g).Silent k :=
    h.congr (by simp) (by simp) (by simp)
  have hcalled : (s.hearRoll f.sender (RosterEntry.called f)).Silent k := h.congr (by simp) (by simp) (by simp)
  unfold State.otherRoll
  dsimp only
  split
  · rw [hmarked.offerEcho, ite_self]
    exact hmarked
  · split
    · rw [hcalled.offerEcho]
      exact hcalled
    · exact hheard _ _
    · rw [(hheard _ _).withdrawEcho]
      exact hheard _ _

/-- R184: the entry to JOINING of a collector with `muteAttr` offers nothing. -/
theorem enterJoining (h : s.Silent k) (hs : s.start.station ≠ .mute) : s.enterJoining.Silent k := by
  obtain ⟨hc, hm⟩ := h.offers.resolve_left fun hmute => hs hmute.2
  have hframes : s.enterJoining.frames = s.frames := by simp [State.enterJoining, State.offerRoll, hm]
  refine ⟨Or.inr ⟨by simpa [isCollector] using hc, ?_⟩, hframes ▸ h.queue, hframes ▸ h.failures⟩
  rw [(s.enterJoining_blocks).1]
  exact hm

theorem enterRollcall (h : s.Silent k) (hs : s.start.station ≠ .mute) : s.enterRollcall.Silent k := by
  obtain ⟨hc, hm⟩ := h.offers.resolve_left fun hmute => hs hmute.2
  have hframes : s.enterRollcall.frames = s.frames := by simp [State.enterRollcall, State.offerRoll, hm]
  refine ⟨Or.inr ⟨by simpa [isCollector] using hc, ?_⟩, hframes ▸ h.queue, hframes ▸ h.failures⟩
  simpa [State.enterRollcall] using hm

theorem handleRoll (h : s.Silent k) (f : RollFrame) : (s.handleRoll false f).Silent k := by
  unfold State.handleRoll
  split
  · next hs =>
    have hmute : s.start.station ≠ .mute := by simp [hs]
    have hmarked : (s.mismatch f).Silent k := h.congr (by simp) (by simp) (by simp)
    exact rollcallRoll_cases (P := Silent k) false f s (stays := h)
      (called := fun ho => absurd ho Bool.false_ne_true) (marked := fun _ => hmarked)
      (present := fun _ _ => h.congr (by simp) (by simp) (by simp))
      (joins := fun _ _ => hmarked.enterJoining (by simpa using hmute))
      (echoed := fun _ _ => (h.enterJoining hmute).otherRoll f)
  · split
    · exact h
    · exact h.otherRoll f

end Silent

/-! ## A TAKE with nothing to match -/

/-- R32, R36: a TAKE that matches no pending entry leaves frames, store and time. -/
theorem handleTake_quiet (h : s.matches = false ∨ s.agree.pendingTakes = []) (n : Nat) (x : Time) :
    (s.handleTake n x).frames = s.frames ∧ (s.handleTake n x).store = s.store ∧ (s.handleTake n x).time = s.time
      ∧ (s.handleTake n x).agree.pendingTakes = s.agree.pendingTakes := by
  have hfill : (s.fillTake n x).frames = s.frames ∧ (s.fillTake n x).store = s.store ∧ (s.fillTake n x).time = s.time
      ∧ (s.fillTake n x).agree.pendingTakes = s.agree.pendingTakes := by
    unfold fillTake
    split <;> exact ⟨rfl, rfl, rfl, rfl⟩
  have hcatch (u : State) : (u.catchUp n).frames = u.frames ∧ (u.catchUp n).store = u.store
      ∧ (u.catchUp n).time = u.time := by
    unfold catchUp
    split
    · exact ⟨rfl, rfl, rfl⟩
    · split <;> exact ⟨rfl, rfl, rfl⟩
  cases hl : s.listed n with
  | true =>
    rw [handleTake_listed hl]
    exact hfill
  | false =>
    by_cases hn : n ≤ s.agree.highTake
    · rw [handleTake_stale hl hn]
      exact ⟨rfl, rfl, rfl, rfl⟩
    · obtain ⟨u, hu, hpending, -, -, hstore, htime, hframes, -, hmatches, -⟩ :=
        handleTake_matches hl (Nat.lt_of_not_le hn) x
      rw [hu]
      cases hm : u.matches with
      | false =>
        rw [matchTake_of_no_match hm]
        exact ⟨hframes, hstore, htime, hpending⟩
      | true =>
        have hnone := h.resolve_left (by rw [← hmatches, hm]; simp)
        obtain ⟨cframes, cstore, ctime⟩ := hcatch u
        rw [matchTake_of_nothing_pending hm (hpending.trans hnone)]
        exact ⟨cframes.trans hframes, cstore.trans hstore, ctime.trans htime, (catchUp_pending n u).trans hpending⟩

theorem matches_of_collector (h : s.isCollector = true) : s.matches = false := by
  simp [State.matches, isAcquirer_of_collector h]

namespace Silent

/-- R74, R86, R142: whatever a silent station receives, it stays so. -/
theorem giveOwners (h : s.Silent k) (hp : s.isAcquirer = true → s.agree.pendingTakes = []) (f : Frame) :
    (s.giveOwners false f).Silent k := by
  cases f with
  | take g =>
    have hquiet := handleTake_quiet (h.offers.symm.imp (fun hc => matches_of_collector hc.1) fun ha => hp ha.1)
      g.number.toNat g.time
    unfold State.giveOwners
    dsimp only
    split
    · exact h.congr (by simp) (by simp) hquiet.1
    · exact h
  | frag g => exact h.handleFrag g
  | skip g => exact h.handleSkip g
  | roll g => exact h.handleRoll g

theorem leaveListening (h : s.Silent k) (f : Frame) : (s.leaveListening f).Silent k := by
  unfold State.leaveListening
  split
  · next hs =>
    have hmute : s.start.station ≠ .mute := by simp [hs]
    (repeat' split)
    · exact h.enterRollcall hmute
    · exact h.enterJoining hmute
    · exact h.enterJoining hmute
    · exact h.enterJoining hmute
    · exact h.enterJoining hmute
  · exact h

end Silent

/-! ## What another station's frame leaves of state and store -/

theorem handleSkip_start_of_collector (h : s.isCollector = true) (own : Bool) (f : SkipFrame) :
    (s.handleSkip own f).start = s.start := by
  cases ht : s.tracks with
  | false => simp [handleSkip, ht]
  | true =>
    obtain ⟨hpins, hstart, -⟩ := skipHeard_frame own f s
    rw [handleSkip_eq own f ht]
    split
    · have hturn := skipTurn_start_of_collector (s := s.skipHeard own f) (by rwa [isCollector, hpins]) f.subject f.number.toNat
      simp [hturn, hstart]
    · exact hstart

/-- R84: where no SKIP can silence it, a tracking station keeps its state at another station's frame. -/
theorem giveOwners_start (ht : s.tracks = true) (h : s.isCollector = true ∨ s.start.station ≠ .running) (f : Frame) :
    (s.giveOwners false f).start = s.start := by
  unfold giveOwners
  cases f with
  | take g =>
    dsimp only
    split <;> simp
  | frag g => simp
  | skip g =>
    rcases h with hc | hr
    · exact handleSkip_start_of_collector hc false g
    · exact (handleSkip_start false g s).resolve_right fun h => hr h.1
  | roll g =>
    dsimp only
    rw [handleRoll_of_tracks ht, if_neg Bool.false_ne_true]
    simp

theorem shrinks_empty {x : Store} (h : Store.empty.Shrinks x) : x = Store.empty := by
  obtain ⟨hrecords, hwindow⟩ := h
  have hnil : x.records = [] := by simpa [Store.empty] using hrecords
  have hclosed := hwindow rfl
  rw [hnil] at hclosed
  obtain ⟨window, records⟩ := x
  simp only [List.any_nil, Option.isSome_eq_false_iff, Option.isNone_iff_eq_none] at hnil hclosed
  rw [hnil, hclosed]
  rfl

/-- R17, R20: another station's frame puts nothing into an empty store. -/
theorem giveOwners_store (ht : s.tracks = true) (hstore : s.store = Store.empty)
    (h : s.matches = false ∨ s.agree.pendingTakes = []) (f : Frame) : (s.giveOwners false f).store = Store.empty := by
  unfold giveOwners
  cases f with
  | take g =>
    obtain ⟨-, hkeeps, -⟩ := handleTake_quiet h g.number.toNat g.time
    dsimp only
    rw [if_pos ht, hkeeps, hstore]
  | frag g => rw [handleFrag_store_of_keeps ht (Or.inl rfl), hstore]
  | skip g =>
    have hshrinks := handleSkip_shrinks false g s
    rw [hstore] at hshrinks
    exact shrinks_empty hshrinks
  | roll g =>
    dsimp only
    rw [handleRoll_of_tracks ht, if_neg Bool.false_ne_true]
    simp [hstore]

theorem otherRoll_pending (f : RollFrame) (s : State) : (s.otherRoll f).agree.pendingTakes = s.agree.pendingTakes := by
  have hraised (n : Nat) := (s.raiseHighTake_agree n).2.1
  unfold otherRoll
  dsimp only
  (repeat' split) <;> simp [hraised]

theorem giveOwners_pending (ht : s.tracks = true) (h : s.matches = false ∨ s.agree.pendingTakes = []) (f : Frame) :
    (s.giveOwners false f).agree.pendingTakes = s.agree.pendingTakes := by
  unfold giveOwners
  cases f with
  | take g =>
    obtain ⟨-, -, -, hpending⟩ := handleTake_quiet h g.number.toNat g.time
    dsimp only
    rw [if_pos ht, hpending]
  | frag g =>
    exact (handleFrag_run false g ht).pendingTakes.trans (hearEvent_run g.number.toNat s).2.1
  | skip g =>
    exact (handleSkip_run false g ht).pendingTakes.trans (hearEvent_run g.number.toNat s).2.1
  | roll g =>
    dsimp only
    rw [handleRoll_of_tracks ht, if_neg Bool.false_ne_true]
    exact otherRoll_pending g s

end State
end Sys2Proof.Machine
end

section
/-! The address clash (R86, R87, R147, R155, R180). -/

namespace Sys2Proof.Machine
namespace State
variable {s t u c : State} {k : Nat}

/-- R86: the station once a clash is found. -/
def clashed (f : Frame) (s : State) : State := (s.raise .addressClash (frameField f).toNat).giveUpSending

theorem clashed_frames (f : Frame) (s : State) : (s.clashed f).frames = { s.frames with queue := Queue.empty } :=
  Queued.giveUpSending_frames _

theorem clashed_frame (f : Frame) (s : State) : (s.clashed f).pins = s.pins ∧ (s.clashed f).config = s.config
    ∧ (s.clashed f).time = s.time ∧ (s.clashed f).roster = s.roster ∧ (s.clashed f).build = s.build
    ∧ (s.clashed f).port = s.port ∧ (s.clashed f).freeIndex = s.freeIndex := by
  simp [clashed]

theorem clashed_raised (f : Frame) (s : State) : s.Raised (s.clashed f) .addressClash (frameField f).toNat
    ∧ (s.clashed f).insp.counters = s.insp.counters := by
  have hinsp : (s.clashed f).insp = (s.raise .addressClash (frameField f).toNat).insp := by simp [clashed]
  rw [Raised, hinsp]
  exact ⟨rfl, rfl⟩

theorem clashed_of_acquirer (h : s.isAcquirer = true) (f : Frame) :
    s.clashed f = (s.raise .addressClash (frameField f).toNat).enterMute := if_pos h

theorem clashed_of_collector (h : s.isCollector = true) (f : Frame) :
    s.clashed f = (s.raise .addressClash (frameField f).toNat).takeMuteAttr :=
  if_neg fun ha => by
    have hno := isAcquirer_of_collector h
    have hsame : (s.raise .addressClash (frameField f).toNat).isAcquirer = s.isAcquirer := rfl
    rw [hsame, hno] at ha
    cases ha

theorem acquirer_or_collector (s : State) : s.isAcquirer = true ∨ s.isCollector = true := by
  unfold isAcquirer isCollector
  cases s.pins.role <;> simp

/-- R86, R142: it is silent. -/
theorem clashed_silent (f : Frame) (s : State) : (s.clashed f).Silent s.frames.failures := by
  have hframes := clashed_frames f s
  refine ⟨?_, by rw [hframes], by rw [hframes]⟩
  obtain ⟨hpins, -⟩ := clashed_frame f s
  rcases s.acquirer_or_collector with ha | hc
  · refine Or.inl ⟨by rwa [isAcquirer, hpins], ?_⟩
    rw [clashed_of_acquirer ha]
    simp
  · refine Or.inr ⟨by rwa [isCollector, hpins], ?_⟩
    rw [clashed_of_collector hc]
    exact (takeMuteAttr_start _).1

/-- R86: what the clash leaves of an acquirer. -/
theorem clashed_acquirer (h : s.isAcquirer = true) (f : Frame) :
    (s.clashed f).start = { s.start with station := .mute, listenTimer := none, rollTimer := none, rollMet := false }
      ∧ (s.clashed f).store = Store.empty ∧ (s.clashed f).agree = { s.agree with pendingTakes := [] }
      ∧ (s.clashed f).trig = { s.trig with normalPulse := none, restartPulse := none }
      ∧ (s.clashed f).turn = Turn.blank := by
  rw [clashed_of_acquirer h]
  simp [enterMute]

/-- R86, R180: and of a collector. -/
theorem clashed_collector (h : s.isCollector = true) (f : Frame) :
    (s.clashed f).start.station = (if s.start.station = .joining then .running else s.start.station)
      ∧ (s.clashed f).start.rollTimer = (if s.start.station = .rollcall ∧ s.start.rollTimer = none ∧ s.start.rollMet = false
        then some (Config.msTicks s.config.rolltime) else s.start.rollTimer)
      ∧ (s.clashed f).trig = s.trig ∧ (s.clashed f).agree = s.agree ∧ (s.clashed f).store = s.store
      ∧ (s.clashed f).turn = s.turn := by
  rw [clashed_of_collector h]
  refine ⟨takeMuteAttr_station _, (takeMuteAttr_start _).2, ?_⟩
  simp

/-- R147, R178: what the station makes of the frame then, out of a restarting span. -/
def handled (f : Frame) (l : List Addr) (c : State) : State := ((c.leaveListening f).giveOwners false f).settle l

/-- R86, R147, R163: a clashing frame. -/
theorem received_of_clash {f : Frame} (hown : s.isOwn f = false) (hsender : frameSender f = s.pins.address)
    (hd : s.detectsClash = true) : s.received f = if s.trig.restarting then (s.ended f).clashed f
      else ((s.ended f).clashed f).handled f s.order := by
  have heq := s.ended_eq f
  have hclash : (s.ended f).clashCheck (s.isOwn f) f = (s.ended f).clashed f := by
    rw [hown]
    refine if_pos ?_
    rw [heq]
    simp only [Bool.not_false, Bool.true_and, Bool.and_eq_true, decide_eq_true_eq]
    exact ⟨hsender, hd⟩
  have hrestarting : (s.ended f).trig.restarting = s.trig.restarting := by rw [heq]; rfl
  have horder : (s.ended f).order = s.order := by rw [heq]; rfl
  have hhandle : s.received f = (s.ended f).handleFrame (s.isOwn f) f := rfl
  rw [hhandle, handleFrame, hclash, hrestarting, horder, hown]
  rfl

theorem exec_received {f : Frame} (ht : s.takesFrame = true) (hv : frameValid f = true) :
    exec f.reception s = .next (s.received f) := by
  have hreceive : s.receive f = s.received f := by simp [receive_eq, ht, hv]
  cases f <;> exact congrArg Host.Outcome.next hreceive

/-! ## What the clashing frame does after the clash -/

/-- The blocks that stand through the owners of a frame. -/
theorem handled_frame (f : Frame) (l : List Addr) (c : State) : (c.handled f l).pins = c.pins
    ∧ (c.handled f l).config = c.config ∧ (c.handled f l).trig = c.trig := by
  simp [handled]

theorem handled_insp (f : Frame) (l : List Addr) (c : State) : c.insp.Grows (c.handled f l).insp := by
  have hleave : (c.leaveListening f).insp = c.insp := by simp
  have hgrows := (c.leaveListening f).giveOwners_grows false f
  rw [hleave] at hgrows
  have hsettle : (c.handled f l).insp = ((c.leaveListening f).giveOwners false f).insp := by simp [handled]
  rwa [hsettle]

theorem leaveListening_of_other (h : c.start.station ≠ .listening) (f : Frame) : c.leaveListening f = c := if_neg h

/-- R86: a MUTE acquirer stays as the clash left it, whatever the frame. -/
theorem handled_mute (h : c.Silent k) (hs : c.start.station = .mute) (hstore : c.store = Store.empty)
    (hp : c.agree.pendingTakes = []) (f : Frame) (l : List Addr) :
    (c.handled f l).start = c.start ∧ (c.handled f l).store = Store.empty
      ∧ (c.handled f l).agree.pendingTakes = [] ∧ (c.handled f l).turn.timer = .stopped := by
  have ht : c.tracks = true := by simp [tracks, hs]
  have howners := h.giveOwners (fun _ => hp) f
  rw [handled, leaveListening_of_other (by simp [hs])]
  obtain ⟨htimer, -, hsettled⟩ := settle_of_outside howners.outside howners.queue l
  refine ⟨?_, ?_, ?_, htimer⟩
  · rw [(settle_frame _ _).2.1, giveOwners_start ht (Or.inr (by simp [hs]))]
  · rw [hsettled, giveOwners_store ht hstore (Or.inr hp)]
  · rw [(settle_takes _ _).2.2.1, giveOwners_pending ht (Or.inr hp), hp]

theorem handled_silent (h : c.Silent k) (hp : c.isAcquirer = true → c.start.station = .mute ∧ c.agree.pendingTakes = [])
    (f : Frame) (l : List Addr) : (c.handled f l).Silent k := by
  refine ((h.leaveListening f).giveOwners (fun ha => ?_) f).settle l
  obtain ⟨hs, hpending⟩ := hp (by simpa [isAcquirer] using ha)
  rwa [leaveListening_of_other (by simp [hs])]

/-- R47, R87: a collector's own entry stands at a frame that carries its address. -/
theorem giveOwners_ownEntry (ht : c.tracks = true) (hc : c.isCollector = true) (hrole : c.ownEntry.role ≠ some .acquirer)
    {f : Frame} (hsender : frameSender f = c.pins.address) : (c.giveOwners false f).ownEntry = c.ownEntry := by
  have hmember : c.isMember c.pins.address = false := by
    have hne : ¬ c.ownEntry.role = some .acquirer := hrole
    rw [isMember_eq, RosterEntry.isMember]
    simp only [Bool.and_eq_false_iff, decide_eq_false_iff_not]
    exact Or.inr hne
  have hunheeded : c.heeds c.pins.address = false := by
    rw [heeds_eq, hmember, ownsEntry_self hc]
    simp
  have hpins : (c.giveOwners false f).pins = c.pins := by simp
  rw [ownEntry, ownEntry, hpins]
  unfold giveOwners
  cases f with
  | take g =>
    dsimp only
    rw [if_pos ht]
    exact entry_of_roster (by simp) _
  | frag g =>
    have hsame : g.sender = c.pins.address := hsender
    exact entry_of_roster (handleFrag_roster_of_still ht (Or.inr (hsame ▸ hunheeded))) _
  | skip g =>
    dsimp only
    rw [handleSkip_entry false g ht]
    by_cases hsubject : c.pins.address = g.subject
    · have hno : c.heeds g.subject = false := hsubject ▸ hunheeded
      rw [if_neg fun h => by simp [skipCounts, hno] at h, hsubject, heardFrom_entry_of_not_heeds hno]
    · rw [if_neg fun h => hsubject h.2, heardFrom_entry_of_ne hsubject]
  | roll g =>
    have hsame : g.sender = c.pins.address := hsender
    have howned : c.ownsEntry g.sender = true := hsame ▸ ownsEntry_self hc
    dsimp only
    rw [handleRoll_of_tracks ht, if_neg Bool.false_ne_true]
    refine entry_of_roster ?_ _
    have hraised (n : Nat) : (c.raiseHighTake n).ownsEntry g.sender = true := by simpa [ownsEntry, isCollector] using howned
    unfold otherRoll
    dsimp only
    split
    · split
      · rw [← mismatch_roster howned]
        simp
      · exact mismatch_roster howned
    · split
      · rw [hearRoll_of_owned howned]
        simp
      · rw [hearRoll_of_owned (hraised _)]
        simp
      · rw [hearRoll_of_owned (hraised _)]
        simp

/-- R181, R184: but for an ECHO no frame of another station moves the start-up of a station in ROLLCALL. -/
theorem giveOwners_rollcall (hs : c.start.station = .rollcall) {f : Frame} (hf : f.isEcho = false) :
    (c.giveOwners false f).start = c.start := by
  cases hroll : f.isRoll with
  | false => rw [giveOwners_of_rollcall hs hroll]
  | true =>
    cases f with
    | roll g =>
      have hmode : ¬ g.mode = .echo := by simpa [Frame.isEcho] using hf
      unfold giveOwners
      dsimp only
      rw [handleRoll_of_rollcall hs]
      exact rollcallRoll_cases (P := fun t => t.start = c.start) false g c (stays := rfl)
        (called := fun ho => absurd ho Bool.false_ne_true) (marked := fun _ => by simp) (present := fun _ _ => by simp)
        (joins := fun _ hm => absurd hm hmode) (echoed := fun _ hm => absurd hm hmode)
    | take g => cases hroll
    | frag g => cases hroll
    | skip g => cases hroll

/-- R211: what is raised in the clash stands at the end of the reception. -/
theorem clash_faults {x : FaultRecord} {f : FirstFault} {y : FaultRecord} (h : (x.enter f).Stands y) (hcode : f.code = .addressClash) :
    y.flags.getLsbD 4 = true ∧ (x.first = none → y.first = some f) := by
  refine ⟨?_, fun hx => h.first f (by rw [FaultRecord.enter_of_empty hx]; rfl)⟩
  have hset : (x.enter f).flags.getLsbD 4 = true := by
    rw [FaultRecord.enter_flags, BitVec.getLsbD_or, hcode]
    simp [FaultCode.flag, FaultCode.number]
  rw [← h.flags, BitVec.getLsbD_and, Bool.and_eq_true] at hset
  exact hset.2

theorem ended_other_failures {f : Frame} (h : s.isOwn f = false) : (s.ended f).frames.failures = s.frames.failures := by
  rw [ended, h, if_neg Bool.false_ne_true, endOther_eq]

/-- R136, R139: an empty queue stays empty at the end of a frame. -/
theorem ended_empty (h : s.frames.queue = Queue.empty) (f : Frame) : (s.ended f).frames.queue = Queue.empty := by
  unfold ended
  split
  · unfold endOwn
    rw [h]
    rfl
  · rw [endOther_eq, leaveWire_eq, h]
    rfl

/-- R47, R87: so it stands at the end of the reception. -/
theorem handled_ownEntry (hs : c.start.station = .joining ∨ c.start.station = .running) (hc : c.isCollector = true)
    (hrole : c.ownEntry.role ≠ some .acquirer) {f : Frame} (hsender : frameSender f = c.pins.address) (l : List Addr) :
    (c.handled f l).ownEntry = c.ownEntry := by
  have ht : c.tracks = true := by rcases hs with h | h <;> simp [tracks, h]
  have hpins : (c.handled f l).pins = c.pins := (handled_frame f l c).1
  have howners := giveOwners_ownEntry ht hc hrole hsender
  have hroster : (c.handled f l).roster = (c.giveOwners false f).roster := by
    rw [handled, leaveListening_of_other (by rcases hs with h | h <;> simp [h])]
    simp
  rw [← howners, ownEntry, ownEntry, hpins, giveOwners_frame false f c |>.1]
  exact entry_of_roster hroster _

theorem handled_start_of_collector (hs : c.start.station = .running) (hc : c.isCollector = true) (f : Frame) (l : List Addr) :
    (c.handled f l).start = c.start := by
  rw [handled, leaveListening_of_other (by simp [hs]), (settle_frame _ _).2.1,
    giveOwners_start (by simp [tracks, hs]) (Or.inl hc)]

theorem handled_start_of_rollcall (hs : c.start.station = .rollcall) {f : Frame} (hf : f.isEcho = false) (l : List Addr) :
    (c.handled f l).start = c.start := by
  rw [handled, leaveListening_of_other (by simp [hs]), (settle_frame _ _).2.1, giveOwners_rollcall hs hf]

/-- R86: an acquirer once the clashing frame is dealt with. -/
theorem clash_acquirer (ha : s.isAcquirer = true) {f : Frame} {l : List Addr}
    (ht : t = s.clashed f ∨ t = (s.clashed f).handled f l) :
    t.start = { s.start with station := .mute, listenTimer := none, rollTimer := none, rollMet := false }
      ∧ t.store = Store.empty ∧ t.agree.pendingTakes = [] ∧ t.turn.timer = .stopped
      ∧ t.trig = { s.trig with normalPulse := none, restartPulse := none } := by
  obtain ⟨hstart, hstore, hagree, htrig, hturn⟩ := clashed_acquirer ha f
  rcases ht with rfl | rfl
  · exact ⟨hstart, hstore, by rw [hagree], by rw [hturn]; rfl, htrig⟩
  · obtain ⟨tstart, tstore, tpending, ttimer⟩ :=
      handled_mute (clashed_silent f s) (by rw [hstart]) hstore (by rw [hagree]) f l
    exact ⟨tstart.trans hstart, tstore, tpending, ttimer, (handled_frame f l _).2.2.trans htrig⟩

theorem clash_silent {f : Frame} {l : List Addr} (ht : t = s.clashed f ∨ t = (s.clashed f).handled f l) :
    t.Silent s.frames.failures := by
  rcases ht with rfl | rfl
  · exact clashed_silent f s
  · refine handled_silent (clashed_silent f s) (fun ha => ?_) f l
    obtain ⟨hpins, -⟩ := clashed_frame f s
    obtain ⟨hstart, -, hagree, -⟩ := clashed_acquirer (s := s) (by rwa [isAcquirer, hpins] at ha) f
    exact ⟨by rw [hstart], by rw [hagree]⟩

/-- R86, R87, R180: and a collector. -/
theorem clash_collector (hc : s.isCollector = true) {f : Frame} (hsender : frameSender f = s.pins.address) {l : List Addr}
    (ht : s.trig.restarting = true ∧ t = s.clashed f ∨ s.trig.restarting = false ∧ t = (s.clashed f).handled f l) :
    t.trig = s.trig
      ∧ (s.RosterInv → s.start.station = .joining ∨ s.start.station = .running → t.ownEntry = s.ownEntry)
      ∧ (s.start.station = .joining → t.start.station = .running)
      ∧ (s.start.station = .rollcall → s.start.rollTimer = none → s.start.rollMet = false →
        s.trig.restarting = true ∨ f.isEcho = false →
        t.start.station = .rollcall ∧ t.start.rollTimer = some (Config.msTicks s.config.rolltime)) := by
  obtain ⟨hpins, -, -, hroster, -⟩ := clashed_frame f s
  obtain ⟨hstation, hroll, htrig, -⟩ := clashed_collector hc f
  have hentry : (s.clashed f).ownEntry = s.ownEntry := by
    rw [ownEntry, ownEntry, hpins]
    exact entry_of_roster hroster _
  have hcc : (s.clashed f).isCollector = true := by rwa [isCollector, hpins]
  rcases ht with ⟨-, rfl⟩ | ⟨hr, rfl⟩
  · refine ⟨htrig, fun _ _ => hentry, fun hs => by rw [hstation, if_pos hs], fun hs hn hm _ => ⟨?_, ?_⟩⟩
    · rw [hstation, if_neg (by simp [hs]), hs]
    · rw [hroll, if_pos ⟨hs, hn, hm⟩]
  · refine ⟨(handled_frame f l _).2.2.trans htrig, fun hinv hs => ?_, fun hs => ?_, fun hs hn hm hecho => ?_⟩
    · have hrun : (s.clashed f).start.station = .joining ∨ (s.clashed f).start.station = .running := by
        rw [hstation]
        rcases hs with h | h <;> simp [h]
      rw [← hentry]
      exact handled_ownEntry hrun hcc (by rw [hentry]; exact hinv.2.2 hc) (by rw [hpins]; exact hsender) l
    · have hrun : (s.clashed f).start.station = .running := by rw [hstation, if_pos hs]
      rw [handled_start_of_collector hrun hcc, hrun]
    · have hrollcall : (s.clashed f).start.station = .rollcall := by rw [hstation, if_neg (by simp [hs]), hs]
      rw [handled_start_of_rollcall hrollcall (hecho.resolve_left (by simp [hr])), hroll, if_pos ⟨hs, hn, hm⟩]
      exact ⟨hrollcall, rfl⟩

end State

/-- Settles O32. -/
theorem addressClashMutes : Obligations.AddressClashMutes := by
  intro s f htakes hvalid
  have hexec := State.exec_received htakes hvalid
  have hended := s.ended_eq f
  refine ⟨fun hown hsender hd => ⟨_, hexec, ?_⟩, fun hr hc => ⟨_, hexec, ?_⟩⟩
  · have hreceived := State.received_of_clash hown hsender hd
    have hfailures := State.ended_other_failures hown
    generalize (s.ended f).frames = fr at hended hfailures
    rw [hended] at hreceived
    generalize s.received f = t at hreceived
    have hcase : s.trig.restarting = true ∧ t = (s.setFrames fr).clashed f
        ∨ s.trig.restarting = false ∧ t = ((s.setFrames fr).clashed f).handled f s.order := by
      cases hr : s.trig.restarting with
      | true => exact Or.inl ⟨rfl, by rwa [hr, if_pos rfl] at hreceived⟩
      | false => exact Or.inr ⟨rfl, by rwa [hr, if_neg Bool.false_ne_true] at hreceived⟩
    have hplain := hcase.imp And.right And.right
    obtain ⟨cpins, cconfig, ctime, croster, cbuild, cport, cfree⟩ := (s.setFrames fr).clashed_frame f
    obtain ⟨craised, ccounters⟩ := (s.setFrames fr).clashed_raised f
    have hstands : ((s.setFrames fr).clashed f).insp.faults.Stands t.insp.faults := by
      rcases hplain with rfl | rfl
      · exact .refl _
      · exact (State.handled_insp f s.order _).faults
    rw [craised] at hstands
    obtain ⟨hflag, hfirst⟩ := State.clash_faults hstands rfl
    have hsilent := State.clash_silent hplain
    obtain ⟨tpins, tconfig⟩ : t.pins = s.pins ∧ t.config = s.config := by
      rcases hplain with rfl | rfl
      · exact ⟨cpins, cconfig⟩
      · obtain ⟨hpins, hconfig, -⟩ := State.handled_frame f s.order ((s.setFrames fr).clashed f)
        exact ⟨hpins.trans cpins, hconfig.trans cconfig⟩
    refine ⟨hflag, hfirst, fun ha => ?_, fun hcol => ?_, fun hr => ?_, tpins, tconfig, hsilent.failures.trans hfailures⟩
    · obtain ⟨hstart, hstore, hpending, htimer, htrig⟩ := State.clash_acquirer (s := s.setFrames fr) ha hplain
      have hdrive : t.mayDrive = false := by simp [State.mayDrive, hstart]
      rw [hstart]
      exact ⟨rfl, rfl, rfl, rfl, hstore, hpending, hsilent.queue, htimer, htrig, by simp [State.drivesHld, hdrive],
        by simp [State.drivesTrg, hdrive], hsilent.sending⟩
    · obtain ⟨htrig, hentry, hjoins, hroll⟩ := State.clash_collector (s := s.setFrames fr) hcol hsender hcase
      have hmute := hsilent.offers.resolve_left fun h =>
        Bool.false_ne_true ((State.isAcquirer_of_collector (s := t) (by rwa [State.isCollector, tpins])).symm.trans h.1)
      exact ⟨hmute.2, hsilent.queue, hsilent.sending, htrig, hentry, hjoins, hroll⟩
    · obtain rfl := (hcase.resolve_right fun h => by rw [hr] at h; cases h.1).2
      refine ⟨croster, cbuild, cport, ctime, cfree, craised, ccounters, fun ha => ?_, fun hcol => ?_⟩
      · obtain ⟨-, -, hagree, -⟩ := State.clashed_acquirer (s := s.setFrames fr) ha f
        exact hagree
      · obtain ⟨hstation, -, -, hagree, hstore, hturn⟩ := State.clashed_collector (s := s.setFrames fr) hcol f
        exact ⟨hagree, hstore, hturn, fun hs => hstation.trans (if_neg hs)⟩
  · have hnone : (s.ended f).clashCheck (s.isOwn f) f = s.ended f :=
      State.clashCheck_of_noClash (by rw [hended]; exact hc)
    have hrestarting : (s.ended f).trig.restarting = true := by rw [hended]; exact hr
    have hreceived : s.received f = s.ended f := by
      have hhandle : s.received f = (s.ended f).handleFrame (s.isOwn f) f := rfl
      rw [hhandle, State.handleFrame, hnone, hrestarting]
      rfl
    rw [hreceived]
    refine ⟨hended, s.ended_dat f, fun hquiet => ?_⟩
    obtain ⟨-, -, -, -, hqueue, -⟩ := hquiet.2 hr
    exact State.ended_empty hqueue f

end Sys2Proof.Machine
end

section
/-! What another station's frame leaves alone: the ROLL place, DAT, time and the index of free values. -/

namespace Sys2Proof.Machine
namespace State
variable {s t u : State} {k : Nat}

/-! ## The ROLL place -/

/-- R74: the ROLL place holds a JOIN off the wire. -/
def OffersJoin (s : State) : Prop := ∃ g : RollFrame, s.frames.queue.roll = some (.fresh g) ∧ g.mode = .join

theorem OffersJoin.congr (h : s.OffersJoin) (hr : t.frames.queue.roll = s.frames.queue.roll) : t.OffersJoin := by
  obtain ⟨g, hg, hm⟩ := h
  exact ⟨g, hr.trans hg, hm⟩

theorem OffersJoin.offerRoll (h : s.OffersJoin) : (s.offerRoll .join).OffersJoin := by
  obtain ⟨g, hg, hm⟩ := h
  unfold State.offerRoll
  split
  · exact ⟨g, hg, hm⟩
  · exact ⟨s.rollFrame .join, by simp [hg, Place.offer, Place.fresh], rfl⟩

theorem heardFrom_roll (m : Addr) (n : Nat) (s : State) : (s.heardFrom m n).frames.queue.roll = s.frames.queue.roll := by
  simp [heardFrom, hearMember]

theorem countPart_roll (m : Addr) (n : Nat) (s : State) : (s.countPart m n).frames.queue.roll = s.frames.queue.roll := by
  unfold countPart
  dsimp only
  (repeat' split) <;> simp

theorem partCounted_roll (f : FragFrame) (s : State) : (s.partCounted f).frames.queue.roll = s.frames.queue.roll := by
  unfold partCounted currentPart
  dsimp only
  (repeat' split) <;> simp [countPart_roll]

/-- No part touches the ROLL place. -/
theorem handleFrag_roll (own : Bool) (f : FragFrame) (s : State) :
    (s.handleFrag own f).frames.queue.roll = s.frames.queue.roll := by
  cases ht : s.tracks with
  | false => simp [handleFrag, ht]
  | true =>
    have htaken : (s.partTaken own f).frames.queue.roll = s.frames.queue.roll := by
      unfold partTaken
      split <;> simp [partCounted_roll, heardFrom_roll]
    rw [handleFrag_of_tracks own f ht]
    split <;> simp [htaken]

theorem withdrawSkipFor_roll (m : Addr) (s : State) :
    (s.withdrawSkipFor m).frames.queue.roll = s.frames.queue.roll := by
  unfold withdrawSkipFor stopTimer dropSkip
  (repeat' split) <;> rfl

/-- R84: a SKIP offers a JOIN at most. -/
theorem OffersJoin.skipTurn (h : s.OffersJoin) (hs : s.start.station ≠ .running) (m : Addr) (n : Nat) :
    (s.skipTurn m n).OffersJoin := by
  have hmissed : ((s.missTurn m n).withdrawSkipFor m).OffersJoin := h.congr (by simp [withdrawSkipFor_roll])
  have hdropped : (((s.missTurn m n).withdrawSkipFor m).dropRecord n).OffersJoin := hmissed.congr (by simp)
  unfold State.skipTurn
  dsimp only
  split
  · split
    · unfold ownSilence
      dsimp only
      rw [if_neg (by simp [hs])]
      exact (hdropped.congr (by simp)).offerRoll
    · exact hdropped
  · exact hmissed

theorem OffersJoin.handleSkip (h : s.OffersJoin) (hs : s.start.station ≠ .running) (own : Bool) (f : SkipFrame) :
    (s.handleSkip own f).OffersJoin := by
  cases ht : s.tracks with
  | false => simpa [State.handleSkip, ht] using h
  | true =>
    have hheard : (s.skipHeard own f).OffersJoin := h.congr (by
      unfold skipHeard
      split <;> simp [hearMember])
    obtain ⟨-, hstart, -⟩ := skipHeard_frame own f s
    rw [handleSkip_eq own f ht]
    split
    · exact (hheard.skipTurn (by rwa [hstart]) f.subject f.number.toNat).congr (by simp)
    · exact hheard

theorem OffersJoin.otherRoll (h : s.OffersJoin) {f : RollFrame} (hm : f.mode ≠ .call) : (s.otherRoll f).OffersJoin := by
  have hstays {u : State} (hu : u.frames.queue.roll = s.frames.queue.roll) : u.withdrawEcho = u := by
    obtain ⟨g, hg, hmode⟩ := h
    exact withdrawEcho_of_other (by simp [hu, hg, Place.fresh, hmode])
  unfold State.otherRoll
  dsimp only
  rw [if_neg hm]
  split
  · exact h.congr (by simp)
  · cases hmode : f.mode with
    | call => exact absurd hmode hm
    | join => exact h.congr (by simp)
    | echo =>
      dsimp only
      rw [hstays (by simp)]
      exact h.congr (by simp)

/-! ## Free values -/

/-- R99: a part that meets a contribution without parts draws no free value. -/
theorem applyPart_freeIndex {b : Build} {f : FragFrame} (h : (b.contribution f.sender).parts = 0) (s : State) :
    (s.applyPart f b).freeIndex = s.freeIndex := by
  have hno : (b.contribution f.sender).surplus f = false := by simp [Contribution.surplus, h]
  unfold applyPart
  dsimp only
  rw [hno, if_neg Bool.false_ne_true]
  split
  · rfl
  · split <;> rfl

theorem newBuild_parts (n : Nat) (stamp : Option Time) (m : Addr) (s : State) : ((s.newBuild n stamp).contribution m).parts = 0 := by
  unfold Build.contribution
  cases hf : (s.newBuild n stamp).contributions.find? fun c => c.member = m with
  | none => rfl
  | some c =>
    obtain ⟨a, -, rfl⟩ := List.mem_map.mp (List.mem_of_find?_eq_some hf)
    rfl

/-- R99: so in a station that builds nothing yet no part draws one. -/
theorem handleFrag_freeIndex_of_empty (ht : s.tracks = true) (hb : s.build = BuildUnit.empty) (own : Bool) (f : FragFrame) :
    (s.handleFrag own f).freeIndex = s.freeIndex := by
  obtain ⟨-, -, -, -, -, hbuild, hfree, -⟩ := partTaken_frame own f s
  rw [handleFrag_of_tracks own f ht]
  split
  · cases hbs : (s.partTaken own f).builds with
    | false =>
      unfold buildFrame
      rw [hbs]
      exact hfree
    | true =>
      by_cases hn : f.number.toNat ≤ (s.partTaken own f).build.floor
      · rw [buildFrame_late hbs (Or.inl hn)]
        exact hfree
      · rw [buildFrame_new hbs (Nat.lt_of_not_le hn) (by rw [hbuild, hb]; rfl) (by rw [hbuild, hb]; decide),
          applyPart_freeIndex (newBuild_parts _ _ _ _)]
        exact hfree
  · exact hfree

/-! ## What another station's frame leaves alone -/

theorem ownSilence_dat (n : Nat) (s : State) : (s.ownSilence n).frames.dat = s.frames.dat := by
  unfold ownSilence
  dsimp only
  split <;> simp [enterSilenced]

theorem skipTurn_dat (m : Addr) (n : Nat) (s : State) : (s.skipTurn m n).frames.dat = s.frames.dat := by
  have hmissed : ((s.missTurn m n).withdrawSkipFor m).frames.dat = s.frames.dat := by
    unfold withdrawSkipFor stopTimer dropSkip
    (repeat' split) <;> rfl
  unfold skipTurn
  dsimp only
  (repeat' split) <;> simp [ownSilence_dat, hmissed]

theorem handleSkip_dat (own : Bool) (f : SkipFrame) (s : State) : (s.handleSkip own f).frames.dat = s.frames.dat := by
  cases ht : s.tracks with
  | false => simp [handleSkip, ht]
  | true =>
    have hheard : (s.skipHeard own f).frames.dat = s.frames.dat := by
      unfold skipHeard
      split <;> simp [hearMember]
    rw [handleSkip_eq own f ht]
    split <;> simp [skipTurn_dat, hheard]

theorem otherRoll_dat (f : RollFrame) (s : State) : (s.otherRoll f).frames.dat = s.frames.dat := by
  have hecho (u : State) : u.offerEcho.frames.dat = u.frames.dat := by
    unfold offerEcho
    split <;> simp
  have hwithdrawn (u : State) : u.withdrawEcho.frames.dat = u.frames.dat := by
    unfold withdrawEcho
    (repeat' split) <;> rfl
  unfold otherRoll
  dsimp only
  (repeat' split) <;> simp [hecho, hwithdrawn]

/-- What another station's frame leaves of a tracking station with nothing to match and nothing to build. -/
theorem giveOwners_rest (ht : s.tracks = true) (h : s.matches = false ∨ s.agree.pendingTakes = [])
    (hb : s.build = BuildUnit.empty) (f : Frame) : (s.giveOwners false f).time = s.time
      ∧ (s.giveOwners false f).freeIndex = s.freeIndex ∧ (s.giveOwners false f).frames.dat = s.frames.dat := by
  unfold giveOwners
  cases f with
  | take g =>
    obtain ⟨-, -, htime, -⟩ := handleTake_quiet h g.number.toNat g.time
    dsimp only
    rw [if_pos ht]
    exact ⟨htime, by simp, handleTake_dat _ _ s⟩
  | frag g => exact ⟨by simp, handleFrag_freeIndex_of_empty ht hb false g, (handleFrag_dat false g ht).1⟩
  | skip g => exact ⟨by simp, by simp, handleSkip_dat false g s⟩
  | roll g =>
    dsimp only
    rw [handleRoll_of_tracks ht, if_neg Bool.false_ne_true]
    exact ⟨by simp, by simp, otherRoll_dat g s⟩

/-- R74: the JOIN that the entry to JOINING offered stays offered. -/
theorem OffersJoin.giveOwners (h : s.OffersJoin) (hs : s.start.station = .joining) {f : Frame} (hf : f.isCall = false) :
    (s.giveOwners false f).OffersJoin := by
  have ht : s.tracks = true := by simp [tracks, hs]
  unfold State.giveOwners
  cases f with
  | take g =>
    dsimp only
    rw [if_pos ht]
    exact h.congr (by simp)
  | frag g => exact h.congr (handleFrag_roll false g s)
  | skip g => exact h.handleSkip (by simp [hs]) false g
  | roll g =>
    dsimp only
    rw [handleRoll_of_tracks ht, if_neg Bool.false_ne_true]
    exact h.otherRoll (by simpa [Frame.isCall] using hf)

/-! ## A CALL heard -/

/-- R181: a CALL of another station in ROLLCALL moves the roster alone, and raises at most the fault of its signature. -/
theorem rollcallRoll_called {f : RollFrame} (hm : f.mode = .call) : (s.rollcallRoll false f).start = s.start
    ∧ (s.rollcallRoll false f).frames = s.frames ∧ (s.rollcallRoll false f).agree = s.agree
    ∧ (s.rollcallRoll false f).store = s.store := by
  unfold rollcallRoll
  rw [if_neg Bool.false_ne_true, hm]
  by_cases hd : f.signature = s.config.signature <;> simp [hd]

end State
end Sys2Proof.Machine
end

section
/-! A frame heard in LISTENING, and the obligation O8 (R178). -/

namespace Sys2Proof.Machine
namespace State
variable {s t u : State} {k : Nat} {f : Frame}

/-- R178, R179: a LISTENING station's queue and roster are blank. -/
structure Blank (s : State) : Prop where
  queue : s.frames.queue = Queue.empty
  roster : s.roster = Roster.blank

theorem Fits.blank (h : s.Fits) (hs : s.start.station = .listening) : s.Blank := by
  have he : s.early := by simp [early, hs]
  exact ⟨h.queue (Or.inl he), h.roster (Or.inl he)⟩

/-- R141, R144: DAT is busy after a frame. -/
def busy (s : State) : State := s.setFrames { s.frames with dat := .busy }

/-- R136: a frame that ends leaves a queue alone that settling would leave alone. -/
theorem ended_of_still (hown : s.isOwn f = false) (h : s.leaveWire.frames.queue = s.frames.queue) : s.ended f = s.busy := by
  rw [ended, hown, if_neg Bool.false_ne_true, endOther_eq, h]
  rfl

/-! ## The states that a frame heard leads to -/

/-- R74, R179: the places after the entry to ROLLCALL. -/
theorem enterRollcall_places (h : s.Blank) : s.enterRollcall.frames.queue
    = { Queue.empty with roll := if s.start.muteAttr then none else some (.fresh (s.rollFrame .call)) } := by
  cases hm : s.start.muteAttr <;> simp [enterRollcall, offerRoll, hm, h.queue, Queue.empty, Place.offer, rollFrame, channelCount]

theorem blank_toCalling : Roster.blank.each RosterEntry.toCalling = Roster.blank := by
  have hentries : Roster.blank.toList.map RosterEntry.toCalling = Roster.blank.toList := by
    rw [Roster.blank, Vector.toList_replicate, List.map_replicate]
    rfl
  exact Vector.toList_inj.mp hentries

/-- R185: the JOIN of a station that has counted nothing. -/
def firstJoin (s : State) : RollFrame :=
  { field := 1, sender := s.pins.address, mode := .join, role := s.pins.role, count := s.channelCount
    signature := s.config.signature }

/-- R184, R185: the station after the entry to JOINING. -/
theorem enterJoining_eq (s : State) : s.enterJoining = { s with
    start := { s.start with
      station := if s.start.muteAttr then .running else .joining
      listenTimer := none, rollTimer := none, rollCallReason := false, rollMet := false }
    roster := s.roster.each RosterEntry.toCalling, agree := Agreement.blank, store := Store.empty, build := BuildUnit.empty
    frames := { s.frames with queue := { s.frames.queue with
      roll := if s.start.muteAttr then s.frames.queue.roll else Place.offer s.firstJoin s.frames.queue.roll } } } := by
  unfold enterJoining offerRoll
  cases hm : s.start.muteAttr <;> simp [hm] <;> rfl

/-- R185: out of LISTENING. -/
theorem enterJoining_of_blank (h : s.Blank) : s.enterJoining = { s with
    start := { s.start with
      station := if s.start.muteAttr then .running else .joining
      listenTimer := none, rollTimer := none, rollCallReason := false, rollMet := false }
    roster := Roster.blank, agree := Agreement.blank, store := Store.empty, build := BuildUnit.empty
    frames := { s.frames with queue := { Queue.empty with
      roll := if s.start.muteAttr then none else some (.fresh s.firstJoin) } } } := by
  rw [enterJoining_eq, h.roster, blank_toCalling, h.queue]
  rfl

/-- R178: what a frame heard leads to has off the wire what settling leaves alone. -/
theorem leaveWire_of_rolled {o : Option RollFrame} (h : s.frames.queue = { Queue.empty with roll := o.map Place.fresh })
    (ho : ∀ g ∈ o, g.mode = .call ∨ g.field = s.joinPoint) : s.leaveWire.frames.queue = s.frames.queue := by
  rw [leaveWire_eq, h]
  cases o with
  | none => rfl
  | some g =>
    have hsame : s.refreshed (.fresh g) = .fresh g := by
      unfold refreshed
      rcases ho g rfl with hm | hf
      · simp [Place.fresh, hm]
      · simp [Place.fresh, ← hf]
    have hroll : ((some (Place.fresh g)).bind Place.leaveUnsent).map s.refreshed = some (Place.fresh g) :=
      congrArg some hsame
    rw [Option.map_some, hroll]
    rfl

/-! ## Leaving LISTENING -/

theorem leaveListening_eq (hs : s.start.station = .listening) (f : Frame) :
    s.leaveListening f = if f.isCall then s.enterRollcall else s.enterJoining := by
  unfold leaveListening
  rw [if_pos hs]
  cases f <;> simp [Frame.isCall]

theorem busy_enterRollcall (s : State) : s.busy.enterRollcall = s.enterRollcall.busy := by
  unfold enterRollcall offerRoll
  cases hm : s.start.muteAttr <;> simp [busy, hm] <;> rfl

theorem busy_enterJoining (s : State) : s.busy.enterJoining = s.enterJoining.busy := by
  unfold enterJoining offerRoll
  cases hm : s.start.muteAttr <;> simp [busy, hm] <;> rfl

theorem busy_leaveListening (f : Frame) (s : State) : s.busy.leaveListening f = (s.leaveListening f).busy := by
  by_cases hs : s.start.station = .listening
  · rw [leaveListening_eq hs, leaveListening_eq (s := s.busy) hs]
    split
    · exact s.busy_enterRollcall
    · exact s.busy_enterJoining
  · rw [leaveListening_of_other hs, leaveListening_of_other (c := s.busy) hs]

/-- What a frame heard in LISTENING leads to. -/
structure Led (s v : State) : Prop where
  station : v.start.station ≠ .listening
  order : v.order = s.order
  dat : v.frames.dat = s.frames.dat
  own : ∀ f, v.isOwn f = false
  still : v.leaveWire.frames.queue = v.frames.queue

/-- Where the queue holds at most a ROLL frame off the wire, no frame is the station's own. -/
theorem isOwn_of_rolled {o : Option RollFrame} (h : s.frames.queue = { Queue.empty with roll := o.map Place.fresh }) (f : Frame) :
    s.isOwn f = false := by
  rw [isOwn, h]
  cases o <;> rfl

theorem led_rollcall (h : s.Blank) : s.Led s.enterRollcall := by
  have hqueue : s.enterRollcall.frames.queue = { Queue.empty with
      roll := (if s.start.muteAttr then none else some (s.rollFrame .call)).map Place.fresh } := by
    rw [enterRollcall_places h]
    cases s.start.muteAttr <;> rfl
  obtain ⟨hstation, -, -, -, -, -, -, -, hframes, -⟩ := s.enterRollcall_callsRoll
  refine ⟨by simp [hstation], ?_, by rw [hframes], isOwn_of_rolled hqueue, leaveWire_of_rolled hqueue fun g hg => ?_⟩
  · have hroster : s.enterRollcall.roster = s.roster := by simp [enterRollcall, h.roster]
    rw [order, order, funext (entry_of_roster hroster)]
  · obtain ⟨-, rfl⟩ : s.start.muteAttr = false ∧ s.rollFrame .call = g := by
      cases hm : s.start.muteAttr <;> simp_all
    exact Or.inl rfl

theorem led_joining (h : s.Blank) : s.Led s.enterJoining := by
  have heq := enterJoining_of_blank h
  have hqueue : s.enterJoining.frames.queue = { Queue.empty with
      roll := (if s.start.muteAttr then none else some s.firstJoin).map Place.fresh } := by
    rw [heq]
    cases s.start.muteAttr <;> rfl
  refine ⟨?_, ?_, by rw [heq], isOwn_of_rolled hqueue, leaveWire_of_rolled hqueue fun g hg => Or.inr ?_⟩
  · rw [heq]
    dsimp only
    split <;> simp
  · have hroster : s.enterJoining.roster = s.roster := by rw [heq, h.roster]
    rw [order, order, funext (entry_of_roster hroster)]
  · obtain ⟨-, rfl⟩ : s.start.muteAttr = false ∧ s.firstJoin = g := by
      cases hm : s.start.muteAttr <;> simp_all
    rw [heq]
    rfl

theorem led (hs : s.start.station = .listening) (h : s.Blank) (f : Frame) : s.Led (s.leaveListening f) := by
  rw [leaveListening_eq hs]
  split
  · exact led_rollcall h
  · exact led_joining h

/-- R178: a frame heard in LISTENING is handled as in the state that it leads to. -/
theorem received_of_blank (h : s.Blank) (hh : s.Hears f) (hf : s.Foreign f) :
    s.received f = ((s.leaveListening f).busy.giveOwners false f).settle s.order := by
  obtain ⟨hown, haddress⟩ := hf
  have hclash : s.busy.clashCheck false f = s.busy := clashCheck_of_noClash (Or.inr (Or.inl haddress))
  have hended : s.ended f = s.busy := ended_of_still hown (by rw [leaveWire_eq, h.queue]; rfl)
  have hrestarting : s.busy.trig.restarting = false := hh.2.2
  have hhandle : s.received f = (s.ended f).handleFrame (s.isOwn f) f := rfl
  rw [hhandle, hended, hown, handleFrame, hclash, hrestarting, busy_leaveListening]
  rfl

theorem exec_led (hs : s.start.station = .listening) (h : s.Blank) (hh : s.Hears f) (hf : s.Foreign f) :
    exec f.reception s = exec f.reception (s.leaveListening f) := by
  have hled := led hs h f
  obtain ⟨hpins, -, htrig, -⟩ := s.leaveListening_frame f
  have hheard : (s.leaveListening f).Hears f :=
    ⟨by rw [takesFrame, hpins, hled.dat]; exact hh.1, hh.2.1, by rw [htrig]; exact hh.2.2⟩
  rw [exec_reception hh, exec_reception hheard, received_of_blank h hh hf,
    received_of_heard hheard (Or.inr (Or.inl (by rw [hpins]; exact hf.2))) hled.station,
    ended_of_still (hled.own f) hled.still, hled.own f, hled.order]

/-! ## What the owners leave of it -/

/-- R181: a CALL heard in LISTENING. -/
theorem call_heard (hf : f.isCall = true) (s : State) : (s.enterRollcall.busy.giveOwners false f).start = s.enterRollcall.start
    ∧ (s.enterRollcall.busy.giveOwners false f).frames = s.enterRollcall.busy.frames
    ∧ (s.enterRollcall.busy.giveOwners false f).store = Store.empty
    ∧ (s.enterRollcall.busy.giveOwners false f).time.counter = s.time.counter
    ∧ (s.enterRollcall.busy.giveOwners false f).freeIndex = s.freeIndex := by
  obtain ⟨hstation, -, -, -, -, ⟨hstore, -⟩, -, htime, -, -, -, -, -, -, hfree⟩ := s.enterRollcall_callsRoll
  cases f with
  | roll g =>
    have hmode : g.mode = .call := by simpa [Frame.isCall] using hf
    have howners : s.enterRollcall.busy.giveOwners false (.roll g) = s.enterRollcall.busy.rollcallRoll false g :=
      handleRoll_of_rollcall (s := s.enterRollcall.busy) hstation false g
    obtain ⟨rstart, rframes, -, rstore⟩ := rollcallRoll_called (s := s.enterRollcall.busy) hmode
    obtain ⟨-, -, -, rtime, -, -, rfree, -⟩ := s.enterRollcall.busy.rollcallRoll_frame false g
    rw [howners]
    exact ⟨rstart, rframes, rstore.trans hstore, by rw [rtime]; exact congrArg (·.counter) htime, rfree.trans hfree⟩
  | take g => cases hf
  | frag g => cases hf
  | skip g => cases hf

/-- R185: any other frame heard there. -/
theorem other_heard (hm : s.start.muteAttr = true → s.isCollector = true) (f : Frame) :
    (s.enterJoining.busy.giveOwners false f).start = s.enterJoining.start
      ∧ (s.enterJoining.busy.giveOwners false f).frames.dat = .busy
      ∧ (s.enterJoining.busy.giveOwners false f).store = Store.empty
      ∧ (s.enterJoining.busy.giveOwners false f).time = s.time
      ∧ (s.enterJoining.busy.giveOwners false f).freeIndex = s.freeIndex := by
  obtain ⟨hstart, -, hagree, hstore, hbuild⟩ := s.enterJoining_blocks
  have hstation : s.enterJoining.busy.start.station = if s.start.muteAttr then .running else .joining := congrArg (·.station) hstart
  have hnothing : s.enterJoining.busy.agree.pendingTakes = [] := congrArg (·.pendingTakes) hagree
  have htracks : s.enterJoining.busy.tracks = true := by
    rw [tracks, hstation]
    cases s.start.muteAttr <;> rfl
  have hsilenced : s.enterJoining.busy.isCollector = true ∨ s.enterJoining.busy.start.station ≠ .running := by
    cases hmute : s.start.muteAttr with
    | true => exact Or.inl (by simpa [busy, isCollector] using hm hmute)
    | false => exact Or.inr (by simp [hstation, hmute])
  obtain ⟨rtime, rfree, rdat⟩ := giveOwners_rest htracks (Or.inr hnothing) hbuild f
  refine ⟨giveOwners_start htracks hsilenced f, rdat, giveOwners_store htracks hstore (Or.inr hnothing) f, rtime.trans ?_,
    rfree.trans ?_⟩
  · obtain ⟨-, -, -, htime, -⟩ := s.enterJoining_frame
    exact htime
  · simp [busy]

/-- R178: what the owners leave of a frame heard in LISTENING. -/
def heard (f : Frame) (s : State) : State := (s.leaveListening f).busy.giveOwners false f

theorem heard_of_call (hs : s.start.station = .listening) (hf : f.isCall = true) :
    s.heard f = s.enterRollcall.busy.giveOwners false f := by rw [heard, leaveListening_eq hs, if_pos hf]

theorem heard_of_other (hs : s.start.station = .listening) (hf : f.isCall = false) :
    s.heard f = s.enterJoining.busy.giveOwners false f := by
  rw [heard, leaveListening_eq hs, hf, if_neg Bool.false_ne_true]

theorem heard_blocks (hs : s.start.station = .listening) (hm : s.start.muteAttr = true → s.isCollector = true) (f : Frame) :
    (s.heard f).start = (s.leaveListening f).start ∧ (s.heard f).frames.dat = .busy ∧ (s.heard f).store = Store.empty
      ∧ (s.heard f).time.counter = s.time.counter ∧ s.SameSetting (s.heard f) ∧ (s.heard f).trig = s.trig := by
  obtain ⟨opins, oconfig, otrig, -⟩ := giveOwners_frame false f (s.leaveListening f).busy
  obtain ⟨lpins, lconfig, ltrig, -⟩ := s.leaveListening_frame f
  have hpins : (s.heard f).pins = s.pins := opins.trans lpins
  have hconfig : (s.heard f).config = s.config := oconfig.trans lconfig
  have htrig : (s.heard f).trig = s.trig := otrig.trans ltrig
  rw [leaveListening_eq hs]
  cases hf : f.isCall with
  | true =>
    obtain ⟨hstart, hframes, hstore, htime, hfree⟩ := call_heard hf s
    rw [← heard_of_call hs hf] at hstart hframes hstore htime hfree
    exact ⟨hstart, by rw [hframes]; rfl, hstore, htime, ⟨hpins, hconfig, hfree⟩, htrig⟩
  | false =>
    obtain ⟨hstart, hdat, hstore, htime, hfree⟩ := other_heard hm f
    rw [← heard_of_other hs hf] at hstart hdat hstore htime hfree
    exact ⟨hstart, hdat, hstore, by rw [htime], ⟨hpins, hconfig, hfree⟩, htrig⟩

/-- R74, R179: the CALL offered there stays offered. -/
theorem heard_call_roll (hs : s.start.station = .listening) (h : s.Blank) (hf : f.isCall = true) (hm : s.start.muteAttr = false) :
    (s.heard f).frames.queue.roll = some (.fresh (s.rollFrame .call)) := by
  obtain ⟨-, hframes, -⟩ := call_heard hf s
  have hplaces : s.enterRollcall.busy.frames.queue = _ := enterRollcall_places h
  rw [heard_of_call hs hf, hframes, hplaces, hm]
  rfl

/-- R74, R185: and so does the JOIN. -/
theorem heard_offersJoin (hs : s.start.station = .listening) (h : s.Blank) (hf : f.isCall = false) (hm : s.start.muteAttr = false) :
    (s.heard f).OffersJoin := by
  rw [heard_of_other hs hf]
  refine OffersJoin.giveOwners ?_ ?_ hf
  · refine ⟨s.firstJoin, ?_, rfl⟩
    rw [enterJoining_of_blank h, hm]
    rfl
  · rw [enterJoining_of_blank h, hm]
    rfl

/-- R74, R185: a collector with `muteAttr` offers nothing. -/
theorem heard_silent (h : s.Blank) (hc : s.isCollector = true) (hm : s.start.muteAttr = true) (f : Frame) :
    (s.heard f).frames.queue = Queue.empty := by
  have hsilent : s.busy.Silent s.frames.failures := ⟨Or.inr ⟨hc, hm⟩, h.queue, rfl⟩
  rw [heard, ← busy_leaveListening]
  refine ((hsilent.leaveListening f).giveOwners (fun ha => ?_) f).queue
  have hpins : (s.busy.leaveListening f).pins = s.pins := (s.busy.leaveListening_frame f).1
  rw [isAcquirer, hpins, ← isAcquirer, isAcquirer_of_collector hc] at ha
  cases ha

theorem settle_empty (h : s.store = Store.empty) (l : List Addr) : (s.settle l).store = Store.empty := by
  have hshrinks := s.settle_shrinks l
  rw [h] at hshrinks
  exact shrinks_empty hshrinks

theorem exec_listenTimerExpiry (hrst : s.pins.rst = false) (hs : s.start.station = .listening) :
    exec .listenTimerExpiry s = .next (if s.start.listenTimer.isNone then s else s.enterRollcall) := by
  refine congrArg Host.Outcome.next ?_
  simp [hrst, hs]

/-- R74: the mode and the field of a frame that waits in the ROLL place. -/
theorem roll_shown {o : Option (Place RollFrame)} {g : RollFrame} (h : o.map (fun p => p.frame) = some g) :
    o.map (fun p => (p.frame.mode, p.frame.field)) = some (g.mode, g.field) := by
  have hshown := congrArg (Option.map fun g : RollFrame => (g.mode, g.field)) h
  rwa [Option.map_map] at hshown

end State

/-- Settles O8. -/
theorem listeningEnds : Obligations.ListeningEnds := by
  intro s f hrst hs hcoherent
  have hfits := hcoherent.fits
  have hblank := hfits.blank hs
  have hmute : s.start.muteAttr = true → s.isCollector = true := fun hm =>
    s.acquirer_or_collector.resolve_left fun ha => by
      rw [hfits.muteAttr (Or.inr ha)] at hm
      cases hm
  have hexpiry := State.exec_listenTimerExpiry hrst hs
  refine ⟨fun ht => ⟨_, hexpiry, ?_⟩, fun hn => by rw [hexpiry, hn]; rfl, fun hh hf => ⟨_, State.exec_reception hh, ?_⟩,
    fun hh hf hcall ht => ⟨_, hexpiry, ?_⟩, fun hh hf hother => ?_⟩
  · rw [if_neg (Option.isSome_iff_ne_none.mp ht ∘ Option.isNone_iff_eq_none.mp)]
    obtain ⟨-, -, htrig, -⟩ := s.enterRollcall_frame
    exact ⟨s.enterRollcall_callsRoll, htrig⟩
  · obtain ⟨hstart, hdat, hstore, htime, ⟨hpins, hconfig, hfree⟩, htrig⟩ := State.heard_blocks hs hmute f
    rw [State.received_of_blank hblank hh hf, ← State.heard]
    obtain ⟨tpins, tstart, tconfig, ttrig, ttime, -, -, tfree, -⟩ := State.settle_frame s.order (s.heard f)
    have hlistens : (s.leaveListening f).start.listenTimer = none := by
      rw [State.leaveListening_eq hs]
      split
      · obtain ⟨-, -, hlisten, -⟩ := s.enterRollcall_callsRoll
        exact hlisten
      · rw [s.enterJoining_blocks.1]
    rw [← hstart, ← tstart] at hlistens
    refine ⟨fun hcall => ?_, fun hother => ?_, fun hm => ?_, hlistens, (State.settle_queue _ _).2.2.trans hdat,
      State.settle_empty hstore _, by rw [ttime, htime], ⟨tpins.trans hpins, tconfig.trans hconfig, tfree.trans hfree⟩,
      ttrig.trans htrig⟩
    · rw [State.leaveListening_eq hs, if_pos hcall] at hstart
      obtain ⟨hstation, hreason, -, -, htimer, -⟩ := s.enterRollcall_callsRoll
      rw [tstart, hstart]
      refine ⟨hstation, hreason, fun hm => ?_, fun hm => by rw [htimer, if_pos hm]⟩
      have hroll := State.settle_roll_of_fresh (State.heard_call_roll hs hblank hcall hm) s.order
      exact State.roll_shown hroll
    · rw [State.leaveListening_eq hs, hother, if_neg Bool.false_ne_true, s.enterJoining_blocks.1] at hstart
      rw [tstart, hstart]
      refine ⟨rfl, rfl, fun hm => ?_⟩
      obtain ⟨g, hg, hjoin⟩ := State.heard_offersJoin hs hblank hother hm
      have hroll := State.settle_roll_of_fresh hg s.order
      rw [if_neg (by simp [hjoin])] at hroll
      rw [State.roll_shown hroll, hjoin]
    · exact State.settle_roll_none (by rw [State.heard_silent hblank (hmute hm) hm]; rfl) _
  · rw [if_neg (Option.isSome_iff_ne_none.mp ht ∘ Option.isNone_iff_eq_none.mp), State.exec_led hs hblank hh hf, State.leaveListening_eq hs, if_pos hcall]
  · rw [State.exec_led hs hblank hh hf, State.leaveListening_eq hs, hother, if_neg Bool.false_ne_true,
      State.enterJoining_of_blank hblank]
    rfl

end Sys2Proof.Machine
end
